-- ==== Sys2Proof/Word.lean ====
section
/-! DEFINITION. The word types of the FV-6416's ports: a register is 32 bits (R201), a kiosk byte 8 bits (R135). -/

namespace Sys2Proof

/-- A byte of a kiosk frame or reply, a command code or a tag. -/
abbrev Byte := BitVec 8

/-- A register of the window (R201). -/
abbrev Word := BitVec 32

end Sys2Proof
end

