-- ==== Sys2Proof/Syntax.lean ====
section
/-! DEFINITION. The commands of the block: one constructor for each row of spec/opcode_table.json, in the table's order.
A command is an event on a pin or a port, or a step the part takes by itself. -/

namespace Sys2Proof

/-- The commands. An operand is what the event carries; a completion or a start carries none, since the state says
what is in progress. -/
inductive Instr where
  -- run control
  | reset
  | loadingStart
  | loadSettingsPage
  | loadAccountPage
  /-- PFW_N asserted. `conditionFirst`: a condition change of this same event reaches an executing WAIT before the
  entry does (R109). -/
  | entryToHoldup (conditionFirst : Bool)
  | entryToSafe
  /-- PFW_N deasserted. -/
  | returnToRun
  -- ticks
  /-- `conditionFirst`: the boundary this tick brings reaches an executing WAIT before the tick does (R108). -/
  | tick (conditionFirst : Bool)
  | periodBoundary
  | graceExpiry (p : Fin 16)
  | routinePageEligible (page : Fin 9)
  | waitTimeout
  -- meters
  /-- The level on MTRp changes. -/
  | meterLineChange (p : Fin 16)
  /-- The debounce time of the excursion at point p has run out. -/
  | debounceComplete (p : Fin 16)
  -- Account Engine
  | engineGrant
  | charge
  | standing
  | applyFrame
  | gather
  -- command queue
  | submit (value : Word)
  | commandStart
  | badCommand
  | pop (value : Word)
  /-- A CONTROL write of `value`, with the PURGE bit set. -/
  | purge (value : Word)
  /-- A CONTROL write of `value`, with the PORT_RESET bit set. -/
  | portReset (value : Word)
  | wait
  | mark
  -- account commands
  | openAccount
  | closeAccount
  | credit
  | debit
  | transfer
  | query
  | querySlot
  | scan
  | amend
  | suspend
  | resume
  | repair
  | discard
  | nextAttention
  -- point commands
  | bind
  | unbind
  | unbindDetach
  | configurePoint
  | hold
  | release
  | queryPoint
  | setDefer
  -- settings
  | setTariff
  | setBand
  | setPeriod
  | setTopup
  | setInterval
  -- commits
  | commit
  | commitStart
  | eraseComplete
  /-- `written`: the page of the array now holds the snapshot; otherwise the program failed. -/
  | programComplete (written : Bool)
  | verifyComplete
  -- top-up bus
  | busStart
  | busStop
  | addressByte (byte : Byte)
  | kindByte (byte : Byte)
  | frameByte (byte : Byte)
  | discardByte (byte : Byte)
  /-- A byte has been sent; `acknowledged` is the kiosk's acknowledge. -/
  | replyByte (acknowledged : Bool)
  /-- TSDA is found low at bit `bit` of the byte being sent. -/
  | collision (bit : Fin 8)
  | busTimeout
  -- notices and the register port
  | noticeReadyWrite (value : Word)
  | noticeEnableWrite (value : Word)
  | noticeModeWrite (value : Word)
  | noticeTake
  | noticeDone (value : Word)
  | errorsWrite (value : Word)
  | pointFlagsWrite (p : Fin 16) (value : Word)
  | unassignedRead (offset : BitVec 7)
  | registerWrite (offset : BitVec 7) (value : Word)
  deriving DecidableEq, Repr

end Sys2Proof
end

