-- ==== Sys2Proof/WellFormed.lean ====
section
/-! DEFINITION. Which commands are well formed: a row's command carries the operand its row is about. The meanings are
total, so an ill-formed command still acts as the register access it is; well-formedness says it came under its own
row. -/

namespace Sys2Proof

/-- The offsets the register map does not assign: 22h-2Fh and 40h-7Fh (R201). -/
def unassignedOffset (offset : BitVec 7) : Bool :=
  (0x22 ≤ offset.toNat && offset.toNat ≤ 0x2F) || 0x40 ≤ offset.toNat

/-- The offsets whose write is a row of its own: CONTROL, ERRORS, SUBMIT, POP, NOTICE_READY, NOTICE_ENABLE, NOTICE_MODE,
NOTICE_DONE and the POINTp registers (R201). -/
def ownWriteRow (offset : BitVec 7) : Bool :=
  offset.toNat ∈ [0x02, 0x03, 0x0C, 0x15, 0x16, 0x17, 0x18, 0x1A] ||
    (0x30 ≤ offset.toNat && offset.toNat ≤ 0x3F)

/-- A well-formed command. PURGE is a CONTROL write with bit 0 set and bit 1 clear (R111: with both bits set it is
PORT RESET alone); PORT_RESET is one with bit 1 set (R199); UNASSIGNED_READ reads an unassigned offset (R166);
REGISTER_WRITE writes a register whose write is no row of its own (R95, R166). -/
def Instr.wellFormed : Instr → Bool
  | .purge value => value.getLsbD 0 && !value.getLsbD 1
  | .portReset value => value.getLsbD 1
  | .unassignedRead offset => unassignedOffset offset
  | .registerWrite offset _ => !ownWriteRow offset
  | .reset | .loadingStart | .loadSettingsPage | .loadAccountPage | .entryToHoldup _ | .entryToSafe
  | .returnToRun | .tick _ | .periodBoundary | .graceExpiry _ | .routinePageEligible _ | .waitTimeout
  | .meterLineChange _ | .debounceComplete _ | .engineGrant | .charge | .standing | .applyFrame | .gather
  | .submit _ | .commandStart | .badCommand | .pop _ | .wait | .mark | .openAccount | .closeAccount | .credit
  | .debit | .transfer | .query | .querySlot | .scan | .amend | .suspend | .resume | .repair | .discard
  | .nextAttention | .bind | .unbind | .unbindDetach | .configurePoint | .hold | .release | .queryPoint
  | .setDefer | .setTariff | .setBand | .setPeriod | .setTopup | .setInterval | .commit | .commitStart
  | .eraseComplete | .programComplete _ | .verifyComplete | .busStart | .busStop | .addressByte _ | .kindByte _
  | .frameByte _ | .discardByte _ | .replyByte _ | .collision _ | .busTimeout | .noticeReadyWrite _
  | .noticeEnableWrite _ | .noticeModeWrite _ | .noticeTake | .noticeDone _ | .errorsWrite _
  | .pointFlagsWrite _ _ => true

end Sys2Proof
end

