-- ==== Sys2Proof/Config.lean ====
section
/-! DEFINITION. What is fixed for the part, and the values the manual leaves open. A free value is an opaque constant:
nothing can be proved of what it is, so a claim holds whatever it is. -/

namespace Sys2Proof.Config

/-- The end of the balance range (R3). -/
def maxBalance : Int := 9999999999

/-- Entries of the command queue (R97). -/
def queueSize : Nat := 32

/-- Records of the result queue (R103). -/
def resultSize : Nat := 16

/-- The most units a point holds pending (R49). -/
def maxPending : Nat := 255

/-- Where the age of a dirty record stops (R172). -/
def maxAge : Nat := 255

/-- The ID register (R201). -/
def partId : Word := 0x64160103#32

/-- FREE VALUE (log entry 5). The manual gives no order for pages that one tick ages to the commit interval
(R174, R175). They join the eligible list in ascending order of this key, ties in page order. The first argument is
the counter `freeCount` of the state. -/
opaque agedKey : Nat → Fin 9 → Nat

/-- FREE VALUE (log entry 15). The amount an UNBIND result shows when the tally of R68 exceeds ten digits: R70 and
R204 state no value. It stays within the ten digits of the field. -/
opaque tallyBeyondTenDigits : Nat → Fin 10000000000

/-- FREE VALUE (log entry 35). The level the part drives on SDO while CS_N is low and no transaction runs, as after a
transaction that a reset has dropped: R200 says that SDO is driven and states no level. The argument is the counter
`freeCount` of the state. -/
opaque sdoOutsideTransaction : Nat → Bool

end Sys2Proof.Config
end

