-- ==== Sys2Proof/Machine/State.lean ====
section
/-! DEFINITION. The state of the FV-6416, block by block, as plain data, and its reset value. A field that another
determines (a level source's ready flag, an output, the processor's state code) is not stored: Machine/Flags.lean
computes it. -/

namespace Sys2Proof.Machine

/-! ### Account Engine (chapters 1 and 2) -/

/-- The status of a slot (R5). -/
inductive Status where
  | free | active | suspended | quarantined
  deriving DecidableEq, Repr

/-- The level of a slot, best first (R11). -/
inductive Level where
  | normal | low | emergency | exhausted
  deriving DecidableEq, Repr

/-- A record of the account table (R1). Numbers and amounts are the decimal values their BCD digits carry; a balance is
an integer, so there is one zero, the positive one (R3; log entry 24). -/
structure Account where
  number : Nat
  status : Status
  balance : Int
  ec : Nat
  low : Nat
  tariff : Fin 8
  level : Level
  boundCount : Nat
  deriving DecidableEq, Repr

/-- The FREE values (R8). -/
def Account.free : Account :=
  { number := 0, status := .free, balance := 0, ec := 0, low := 0, tariff := 0, level := .normal, boundCount := 0 }

/-- An entry of the directory (R15). -/
structure DirectoryEntry where
  number : Nat
  slot : Fin 64
  deriving DecidableEq, Repr

/-- A set of attention reasons (R20). -/
structure Reasons where
  low : Bool := false
  emergency : Bool := false
  exhausted : Bool := false
  restored : Bool := false
  limit : Bool := false
  quarantine : Bool := false
  deriving DecidableEq, Repr

/-- An entry of the attention list (R20). -/
structure AttentionEntry where
  slot : Fin 64
  reasons : Reasons
  deriving DecidableEq, Repr

/-- The kinds of kiosk frame (R142). -/
inductive FrameKind where
  | topup | enquire
  deriving DecidableEq, Repr

/-- The request the Top-up Port hands to the engine (R145). -/
structure ApplyRequest where
  kind : FrameKind
  number : Nat
  amount : Nat
  deriving DecidableEq, Repr

/-- An entry of the command queue: code, tag and the seven staged words (R97). -/
structure QueuedCommand where
  code : Byte
  tag : Byte
  params : Vector Word 7
  deriving DecidableEq, Repr

/-- An operation in progress with the inputs it read at its start (R26, R29, R80). `owned`: its requester still waits for
the answer; PORT RESET ends that (R45). -/
inductive EngineOperation where
  | applyFrame (request : ApplyRequest) (owned : Bool)
  | charge (p : Fin 16) (n : Nat) (slot : Fin 64) (price : Nat)
  | gather (page : Fin 9)
  | command (cmd : QueuedCommand) (owned : Bool)
  | standing (slot : Fin 64) (standingCharge : Nat)
  deriving DecidableEq, Repr

/-- The engine's state (R26). -/
inductive EngineState where
  | free
  | busy (op : EngineOperation)
  deriving DecidableEq, Repr

structure AccountEngine where
  slots : Vector Account 64
  directory : List DirectoryEntry
  attention : List AttentionEntry
  op : EngineState
  deriving DecidableEq, Repr

/-! ### Point Controller (chapter 3) -/

inductive EdgeMode where
  | rise | fall | both
  deriving DecidableEq, Repr

/-- The debounce times (R48). -/
inductive Debounce where
  | ms0 | ms1 | ms4 | ms16
  deriving DecidableEq, Repr

inductive RestoreMode where
  | automatic | onCommand
  deriving DecidableEq, Repr

/-- The point states (R49). -/
inductive PointState where
  | detached | held | live | grace | cut | awaiting | locked
  deriving DecidableEq, Repr

/-- The point event flags (R64). -/
structure PointFlags where
  grace : Bool := false
  cut : Bool := false
  awaiting : Bool := false
  locked : Bool := false
  stray : Bool := false
  deriving DecidableEq, Repr

/-- The five fields CONFIGURE_POINT writes (R48, R73). -/
structure PointConfig where
  edgeMode : EdgeMode := .rise
  prescale : Nat := 1
  debounce : Debounce := .ms1
  grace : Nat := 300
  restore : RestoreMode := .automatic
  deriving DecidableEq, Repr

/-- A point record: binding, configuration (R48) and runtime (R49). `line` is the level on MTRp, `excursion` that an
excursion of the line is being timed (R51). The account view is `none` while not loaded. -/
structure Point where
  binding : Option (Fin 64) := none
  config : PointConfig := {}
  line : Bool := false
  debounced : Bool := false
  excursion : Bool := false
  edgeCounter : Nat := 0
  pending : Nat := 0
  state : PointState := .detached
  graceRemaining : Nat := 0
  hostHold : Bool := false
  view : Option (Status × Level) := none
  flags : PointFlags := {}
  deriving DecidableEq, Repr

/-- The tally of an UNBIND in progress (R68). -/
structure Tally where
  point : Fin 16
  units : Nat
  amount : Nat
  deriving DecidableEq, Repr

structure PointController where
  points : Vector Point 16
  deferral : Bool
  tally : Option Tally
  deriving DecidableEq, Repr

/-! ### Tariff Table and Period Timer (chapter 4) -/

/-- A tariff record (R79). -/
structure Tariff where
  priceA : Nat := 0
  priceB : Nat := 0
  standing : Nat := 0
  deriving DecidableEq, Repr

inductive Band where
  | a | b
  deriving DecidableEq, Repr

/-- The sweep state (R88). -/
inductive SweepState where
  | idle | running | paused
  deriving DecidableEq, Repr

structure PeriodTimer where
  tariffs : Vector Tariff 8
  band : Band
  periodLength : Nat
  remaining : Nat
  sweep : SweepState
  cursor : Fin 64
  owed : Bool
  deriving DecidableEq, Repr

/-! ### Command Processor (chapter 5) -/

/-- The status codes of results (R106). -/
inductive ResultStatus where
  | done | badCommand | badField | notFound | duplicate | tableFull | insufficient | overflow | bound | wrongState
  | sameAccount | empty | timeout | purged | nvFailed | holdup
  deriving DecidableEq, Repr

/-- A result record (R106). The number field and the packed field are the words RESULT1 and RESULT4 show (R204). -/
structure Result where
  tag : Byte
  code : Byte
  status : ResultStatus
  slot : Byte
  number : Word
  balance : Int
  packed : Word
  extraA : Word
  extraB : Word
  deriving DecidableEq, Repr

/-- A WAIT in progress: chosen conditions, the timeout given and the remaining timeout (R107, R108). -/
structure WaitState where
  conditions : BitVec 6
  timeout : Nat
  remaining : Nat
  deriving DecidableEq, Repr

/-- How far the executing command is: started and not yet taken by its owning block; its engine request waits; its
request is granted; a COMMIT taken by the Commit Engine; a WAIT that waits (R99, R100, R183, R107). -/
inductive ExecutionPhase where
  | handed | requested | granted | committing
  | waiting (w : WaitState)
  deriving DecidableEq, Repr

structure Execution where
  cmd : QueuedCommand
  phase : ExecutionPhase
  deriving DecidableEq, Repr

structure CommandProcessor where
  staging : Vector Word 7
  queue : List QueuedCommand
  executing : Option Execution
  results : List Result
  mark : Word
  periodLatch : Bool
  deriving DecidableEq, Repr

/-! ### Top-up Port (chapter 7) -/

/-- The port states (R136). -/
inductive PortState where
  | idle | addressedWrite | receive | discard | applying | replyReady | sending
  deriving DecidableEq, Repr

/-- The Top-up Port. `awaitsAddress`: a start has come and no byte since, so the next byte is an address byte (R135); while
it is clear, an IDLE or REPLY_READY port ignores the bus until the next start (R140, R150). -/
structure TopUpPort where
  state : PortState
  awaitsAddress : Bool
  receive : List Byte
  reply : List Byte
  sent : Nat
  acked : Bool
  request : Option ApplyRequest
  lastSlot : Fin 64
  lastAmount : Nat
  topupCount : BitVec 16
  enabled : Bool
  address : BitVec 7
  maximum : Nat
  deriving DecidableEq, Repr

/-! ### Notice Controller (chapter 8) -/

inductive NoticeMode where
  | summary | vectored
  deriving DecidableEq, Repr

/-- The sticky error flags (R164). -/
structure StickyErrors where
  queueOverflow : Bool := false
  resultUnderflow : Bool := false
  sweepLate : Bool := false
  nvFault : Bool := false
  loadDamage : Bool := false
  badRegister : Bool := false
  deriving DecidableEq, Repr

/-- The latched ready flags, enables, mode, active stack (top first) and sticky errors (R154, R157, R158, R160, R164). -/
structure NoticeController where
  power : Bool := false
  topup : Bool := false
  commit : Bool := false
  mark : Bool := false
  enables : BitVec 23 := 0
  mode : NoticeMode := .summary
  stack : List (Fin 23) := []
  errors : StickyErrors := {}
  deriving DecidableEq, Repr

/-! ### Commit Engine and NV array (chapter 9) -/

/-- The stored fields of an account slot (R1, R42), as raw codes and digits: what load reads may be unusable (R9). -/
structure StoredAccount where
  number : BitVec 32
  status : Byte
  sign : Byte
  balance : BitVec 40
  ec : BitVec 32
  low : BitVec 32
  tariff : Byte
  deriving DecidableEq, Repr

/-- The stored configuration of a point (R48, R186). -/
structure StoredPoint where
  binding : Option Byte
  edgeMode : Byte
  prescale : Byte
  debounce : Byte
  grace : BitVec 16
  restore : Byte
  deriving DecidableEq, Repr

/-- A stored tariff (R79): three fields of six digits. -/
structure StoredTariff where
  priceA : BitVec 24
  priceB : BitVec 24
  standing : BitVec 24
  deriving DecidableEq, Repr

/-- The settings page (R170). -/
structure StoredSettings where
  points : Vector StoredPoint 16
  tariffs : Vector StoredTariff 8
  periodLength : Word
  interval : Byte
  enable : Byte
  address : Byte
  maximum : Word
  deriving DecidableEq, Repr

/-- What a page's stored records say: eight account slots (pages 0-7) or the settings (page 8). -/
inductive PageContents where
  | accounts (slots : Vector StoredAccount 8)
  | settings (settings : StoredSettings)
  deriving DecidableEq, Repr

/-- A page of the NV array, by the class load reads it in (R170). -/
inductive NvPage where
  | erased
  | damaged
  | good (contents : PageContents)
  deriving DecidableEq, Repr

/-- A record of the dirty set (R172). -/
structure DirtyRecord where
  urgent : Bool
  age : Nat
  deriving DecidableEq, Repr

/-- The Commit Engine's state, with the page it acts on (R177). -/
inductive CommitPhase where
  | idle
  | gather (page : Fin 9)
  | erase (page : Fin 9)
  | program (page : Fin 9)
  | verify (page : Fin 9)
  deriving DecidableEq, Repr

/-- The wanted marks of an executing COMMIT (R183): every page wanted; those that failed twice; the dirty pages not yet
settled; and whether the commit in flight at the start still counts. -/
structure WantedMarks where
  pages : BitVec 9
  failed : BitVec 9
  awaiting : BitVec 9
  flight : Bool
  deriving DecidableEq, Repr

/-- The Commit Engine. `unverified`: the account pages that load found damaged and of which no commit has verified since
(R209; log entry 32). -/
structure CommitEngine where
  dirty : Vector (Option DirtyRecord) 9
  eligible : List (Fin 9)
  phase : CommitPhase
  retried : Bool
  snapshot : Option PageContents
  faultPage : Option (Fin 9)
  interval : Nat
  wanted : Option WantedMarks
  unverified : BitVec 9
  deriving DecidableEq, Repr

/-! ### Run Controller (chapter 10) -/

/-- The run states (R189). -/
inductive RunState where
  | reset | loading | run | holdup | safe
  deriving DecidableEq, Repr

structure RunController where
  runState : RunState
  pfwAsserted : Bool
  loadPage : Fin 9
  deriving DecidableEq, Repr

/-! ### Register Port (chapter 11) -/

/-- An SPI transaction in progress: the bits sampled on SDI, first first, no more than the forty it is made of, and the place
of the bit shown on SDO (R200). -/
structure SpiTransaction where
  sampled : List Bool
  place : Nat
  deriving DecidableEq, Repr

/-- The port's select line and its transaction. A transaction that a reset has dropped leaves the line selected with no
transaction until the next fall of CS_N (R200). -/
structure SpiPort where
  selected : Bool
  transaction : Option SpiTransaction
  deriving DecidableEq, Repr

/-! ### The state -/

/-- Why the part stops. The manual names no event that stops it: an error is a result status (R106), a sticky flag
(R164) or a kiosk reply (R146), and the part goes on. So there is no constructor. -/
inductive Fault where
  deriving DecidableEq, Repr

/-- Why the model gives a command no meaning. -/
inductive Refusal where
  /-- Raised by `exec`'s arm for a row that has no meaning yet; safe. No row is left so. -/
  | notModelled (mnemonic : String)
  deriving DecidableEq, Repr

/-- The state: the nine blocks, the NV array, the register port with the word the last register read took (R200), the model's
own counter that free values are drawn with (log entries 5 and 35), and the queue of commands waiting to be taken, first in
first out. -/
structure State where
  run : RunController
  engine : AccountEngine
  points : PointController
  timer : PeriodTimer
  proc : CommandProcessor
  port : TopUpPort
  notice : NoticeController
  commit : CommitEngine
  nv : Vector NvPage 9
  spi : SpiPort
  readData : Word
  freeCount : Nat
  pending : List Instr
  deriving DecidableEq, Repr

/-! ### Reset values -/

/-- R14, R15, R20, R26. -/
def AccountEngine.atReset : AccountEngine :=
  { slots := Vector.replicate 64 Account.free, directory := [], attention := [], op := .free }

/-- R48, R49, R63. The levels of the lines are the pins' (log entry 8). -/
def PointController.atReset : PointController :=
  { points := Vector.replicate 16 {}, deferral := false, tally := none }

/-- R79, R81, R85, R86, R88. -/
def PeriodTimer.atReset : PeriodTimer :=
  { tariffs := Vector.replicate 8 {}, band := .a, periodLength := 3600, remaining := 0, sweep := .idle, cursor := 0,
    owed := false }

/-- R95, R97, R98, R103, R110. -/
def CommandProcessor.atReset : CommandProcessor :=
  { staging := Vector.replicate 7 0, queue := [], executing := none, results := [], mark := 0, periodLatch := false }

/-- R136, R137, R147. No start has been seen (log entry 9). -/
def TopUpPort.atReset : TopUpPort :=
  { state := .idle, awaitsAddress := false, receive := [], reply := [], sent := 0, acked := false, request := none, lastSlot := 0,
    lastAmount := 0, topupCount := 0, enabled := false, address := 0x3A, maximum := 0 }

/-- R167. -/
def NoticeController.atReset : NoticeController := {}

/-- R172, R175, R177, R181, R182. -/
def CommitEngine.atReset : CommitEngine :=
  { dirty := Vector.replicate 9 none, eligible := [], phase := .idle, retried := false, snapshot := none,
    faultPage := none, interval := 60, wanted := none, unverified := 0 }

/-- The machine in RESET (R190): every volatile field at its reset value, the NV array of a new part, all nine pages
erased (R170). LOADING_START is the step that leaves RESET (log entry 6). -/
def State.reset : State :=
  { run := { runState := .reset, pfwAsserted := false, loadPage := 0 }
    engine := AccountEngine.atReset
    points := PointController.atReset
    timer := PeriodTimer.atReset
    proc := CommandProcessor.atReset
    port := TopUpPort.atReset
    notice := NoticeController.atReset
    commit := CommitEngine.atReset
    nv := Vector.replicate 9 .erased
    spi := { selected := false, transaction := none }
    readData := 0
    freeCount := 0
    pending := [] }

end Sys2Proof.Machine
end

