-- ==== Sys2Proof/Machine/Operands.lean ====
section
/-! DEFINITION. Operand forms: packed BCD fields, bit fields of a register, money pairs (R27, R202), the codes of the
fields that hold codes (R5, R11, R49, R66), and the staged fields of a command (R203). -/

namespace Sys2Proof.Machine

/-! ### Packed BCD (00_scope, R27, R202) -/

/-- The value of a BCD field of `digits` digits in the low nibbles of `w`; none when a nibble is above 9, the leading
ones included (R27). -/
def bcdValue : Nat → Nat → Option Nat
  | 0, _ => some 0
  | digits + 1, w =>
    match bcdValue digits (w / 16) with
    | some v => if w % 16 ≤ 9 then some (v * 10 + w % 16) else none
    | none => none

/-- The nibbles that write `v` in `digits` BCD digits. -/
def toBcd : Nat → Nat → Nat
  | 0, _ => 0
  | digits + 1, v => toBcd digits (v / 10) * 16 + v % 10

/-- The value of a stored BCD field with each bad digit taken as 0 (R9). -/
def bcdMended : Nat → Nat → Nat
  | 0, _ => 0
  | digits + 1, w => bcdMended digits (w / 16) * 10 + (if w % 16 ≤ 9 then w % 16 else 0)

/-- Eight BCD digits as a register shows them, digit 1 in bits 31:28 (R201). -/
def bcdWord (v : Nat) : Word := BitVec.ofNat 32 (toBcd 8 v)

/-- The value big-endian bytes carry. -/
def bytesValue (bytes : List Byte) : Nat := bytes.foldl (fun v b => v * 256 + b.toNat) 0

/-- The five BCD bytes of a magnitude, most significant first (R146, R206). -/
def magnitudeBytes (v : Nat) : List Byte :=
  let d := toBcd 10 v
  [BitVec.ofNat 8 (d / 2 ^ 32), BitVec.ofNat 8 (d / 2 ^ 24), BitVec.ofNat 8 (d / 2 ^ 16), BitVec.ofNat 8 (d / 2 ^ 8),
    BitVec.ofNat 8 d]

/-! ### Bit fields -/

/-- The field of `width` bits from bit `low` of a register. -/
def bits (w : Word) (low width : Nat) : Nat := w.toNat / 2 ^ low % 2 ^ width

/-- The number whose bits, from bit 0 up, are the flags of the list. -/
def ofFlags : List Bool → Nat
  | [] => 0
  | b :: rest => (if b then 1 else 0) + 2 * ofFlags rest

/-! ### Money pairs (R202) -/

/-- An amount staged in two registers: its sign byte is ignored. -/
def amountPair (high low : Word) : Option Nat :=
  match bcdValue 2 (bits high 0 8), bcdValue 8 low.toNat with
  | some h, some l => some (h * 10 ^ 8 + l)
  | _, _ => none

/-- A magnitude with the sign a sign byte gives: positive for 00h, negative for any other value (R27). A zero is
positive whatever the sign (R3). -/
def signed (sign : Nat) (magnitude : Nat) : Int := if sign = 0 then magnitude else -(magnitude : Int)

/-- A signed balance staged in two registers. -/
def balancePair (high low : Word) : Option Int :=
  match amountPair high low with
  | some v => some (signed (bits high 8 8) v)
  | none => none

/-- The sign byte of a balance: 00h, or 80h for a negative one (R3, R146, R202). -/
def signByte (b : Int) : Nat := if b < 0 then 0x80 else 0

/-- The high register of a money pair (R202, R204). -/
def moneyHigh (b : Int) : Word := BitVec.ofNat 32 (toBcd 2 (b.natAbs / 10 ^ 8) + signByte b * 2 ^ 8)

/-- The low register of a money pair (R202, R204). -/
def moneyLow (b : Int) : Word := bcdWord (b.natAbs % 10 ^ 8)

/-! ### Codes -/

/-- R5. -/
def Status.code : Status → Nat
  | .free => 0
  | .active => 1
  | .suspended => 2
  | .quarantined => 3

/-- R11. -/
def Level.code : Level → Nat
  | .normal => 0
  | .low => 1
  | .emergency => 2
  | .exhausted => 3

/-- R49. -/
def PointState.code : PointState → Nat
  | .detached => 0
  | .held => 1
  | .live => 2
  | .grace => 3
  | .cut => 4
  | .awaiting => 5
  | .locked => 6

/-- R66. -/
def EdgeMode.code : EdgeMode → Nat
  | .rise => 0
  | .fall => 1
  | .both => 2

/-- R66. -/
def EdgeMode.ofCode : Nat → Option EdgeMode
  | 0 => some .rise
  | 1 => some .fall
  | 2 => some .both
  | _ => none

/-- R66. -/
def Debounce.code : Debounce → Nat
  | .ms0 => 0
  | .ms1 => 1
  | .ms4 => 2
  | .ms16 => 3

/-- R66. -/
def Debounce.ofCode : Nat → Option Debounce
  | 0 => some .ms0
  | 1 => some .ms1
  | 2 => some .ms4
  | 3 => some .ms16
  | _ => none

/-- R66. -/
def RestoreMode.code : RestoreMode → Nat
  | .automatic => 0
  | .onCommand => 1

/-- R66. -/
def RestoreMode.ofCode : Nat → Option RestoreMode
  | 0 => some .automatic
  | 1 => some .onCommand
  | _ => none

/-- R189. -/
def RunState.code : RunState → Nat
  | .reset => 0
  | .loading => 1
  | .run => 2
  | .holdup => 3
  | .safe => 4

/-- R106. -/
def ResultStatus.code : ResultStatus → Nat
  | .done => 0x00
  | .badCommand => 0x01
  | .badField => 0x02
  | .notFound => 0x03
  | .duplicate => 0x04
  | .tableFull => 0x05
  | .insufficient => 0x06
  | .overflow => 0x07
  | .bound => 0x08
  | .wrongState => 0x09
  | .sameAccount => 0x0A
  | .empty => 0x0B
  | .timeout => 0x0C
  | .purged => 0x0D
  | .nvFailed => 0x0E
  | .holdup => 0x0F

/-- R177. -/
def CommitPhase.code : CommitPhase → Nat
  | .idle => 0
  | .gather _ => 1
  | .erase _ => 2
  | .program _ => 3
  | .verify _ => 4

/-- The command codes of R203. -/
def commandCodes : List Nat :=
  [0x01, 0x02, 0x03, 0x04, 0x05, 0x06, 0x07, 0x08, 0x09, 0x0A, 0x0B, 0x0C, 0x0D, 0x0E, 0x10, 0x11, 0x12, 0x13, 0x14,
    0x15, 0x16, 0x18, 0x19, 0x1A, 0x1C, 0x1D, 0x20, 0x21, 0x22]

/-- The account commands, 01h-0Eh, each served by one engine operation (R114). -/
def isAccountCommand (code : Nat) : Bool := 0x01 ≤ code && code ≤ 0x0E

/-! ### Staged fields (R203) -/

/-- The low byte of a staged register. -/
def lowByte (w : Word) : Nat := bits w 0 8

/-- A staged BCD field of eight digits: a number, EC, L or the top-up maximum. -/
def digits8 (w : Word) : Option Nat := bcdValue 8 w.toNat

/-- A staged price of six digits in bits 23:0 (R202). -/
def digits6 (w : Word) : Option Nat := bcdValue 6 (bits w 0 24)

/-- A staged slot in bits 7:0; none above 63 (R116). -/
def slotField (w : Word) : Option (Fin 64) := if h : lowByte w < 64 then some ⟨lowByte w, h⟩ else none

/-- A staged point in bits 7:0; none above 15 (R66). -/
def pointField (w : Word) : Option (Fin 16) := if h : lowByte w < 16 then some ⟨lowByte w, h⟩ else none

/-- A tariff index; none above 7 (R116). -/
def tariffIndex (n : Nat) : Option (Fin 8) := if h : n < 8 then some ⟨n, h⟩ else none

/-- A force code: 0 clear, 1 set (R116). -/
def forceField (w : Word) : Option Bool :=
  if lowByte w = 0 then some false else if lowByte w = 1 then some true else none

end Sys2Proof.Machine
end

