-- ==== Sys2Proof/Machine/Flags.lean ====
section
/-! DEFINITION. What is computed from the state and never stored: the level function (R11), the attention reasons of a
change (R21), the ready flags of the level sources (R156), requests and NOTICE_N (R157, R159, R161), the outputs (R56,
R189), charge requests (R54), the WAIT conditions (R107) and the processor's state (R98). -/

namespace Sys2Proof.Machine

/-! ### Level and reasons -/

/-- The level function (R11). -/
def levelOf (balance : Int) (low ec : Nat) : Level :=
  if (low : Int) < balance then .normal
  else if 0 ≤ balance then .low
  else if -(ec : Int) ≤ balance then .emergency
  else .exhausted

/-- An account with its level recomputed from its balance, L and EC (R36). -/
def Account.relevelled (a : Account) : Account := { a with level := levelOf a.balance a.low a.ec }

def Reasons.union (a b : Reasons) : Reasons :=
  { low := a.low || b.low, emergency := a.emergency || b.emergency, exhausted := a.exhausted || b.exhausted,
    restored := a.restored || b.restored, limit := a.limit || b.limit, quarantine := a.quarantine || b.quarantine }

def Reasons.isEmpty (a : Reasons) : Bool :=
  !(a.low || a.emergency || a.exhausted || a.restored || a.limit || a.quarantine)

/-- The coding of a set of reasons in a NEXT_ATTENTION result (R204). -/
def Reasons.code (a : Reasons) : Nat :=
  ofFlags [a.low, a.emergency, a.exhausted, a.restored, a.limit, a.quarantine]

/-- The reason a change of level adds (R21). -/
def levelReasons (before after : Level) : Reasons :=
  if before.code < after.code then
    match after with
    | .normal => {}
    | .low => { low := true }
    | .emergency => { emergency := true }
    | .exhausted => { exhausted := true }
  else if before = .exhausted ∧ after ≠ .exhausted then { restored := true }
  else {}

/-! ### Points -/

/-- Whether units are charged to a slot of this status (R54). -/
def chargeable (view : Option (Status × Level)) : Bool :=
  match view with
  | some (status, _) => status == .active || status == .suspended
  | none => false

/-- The point has a charge request outstanding (R54). -/
def Point.chargeRequest (p : Point) : Bool := 0 < p.pending && chargeable p.view

/-- The point has a hold cause (R57). -/
def Point.holdCause (p : Point) : Bool :=
  p.hostHold ||
    match p.view with
    | some (status, _) => status != .active
    | none => true

/-- A LIVE or GRACE point supplies (R56). -/
def PointState.supplies : PointState → Bool
  | .live => true
  | .grace => true
  | _ => false

def PointFlags.any (f : PointFlags) : Bool := f.grace || f.cut || f.awaiting || f.locked || f.stray

def State.point (s : State) (p : Fin 16) : Point := s.points.points[p]

def State.slot (s : State) (i : Fin 64) : Account := s.engine.slots[i]

/-- The output SUPp (R56); off in RESET (R190). -/
def State.supplyOn (s : State) (p : Fin 16) : Bool := s.run.runState != .reset && (s.point p).state.supplies

/-- The output SAFE (R189). -/
def State.safeAsserted (s : State) : Bool := s.run.runState == .safe

/-- Edges are counted (R50): in RUN, and in LOADING once the settings page has been loaded. -/
def State.countsEdges (s : State) : Bool :=
  s.run.runState == .run || (s.run.runState == .loading && s.run.loadPage != 8)

/-- The debouncers follow their lines (R50): from the load of the settings page on, in every run state but RESET. -/
def State.debouncing (s : State) : Bool :=
  s.run.runState != .reset && !(s.run.runState == .loading && s.run.loadPage == 8)

/-- The register port is served (R189). -/
def State.served (s : State) : Bool := s.run.runState != .reset

/-- The run states in which the engine grants (R46), commits start (R177) and the period counter and grace take ticks
(R84, R60): RUN, HOLDUP and SAFE. -/
def State.operating (s : State) : Bool :=
  s.run.runState == .run || s.run.runState == .holdup || s.run.runState == .safe

/-- HOLDUP or SAFE: every report is urgent (R173) and the sweep raises no visit (R92). -/
def State.warned (s : State) : Bool := s.run.runState == .holdup || s.run.runState == .safe

/-! ### Waiting requests (R43) -/

/-- CHARGE(p) is in progress. -/
def State.charging (s : State) (p : Fin 16) : Bool :=
  match s.engine.op with
  | .busy (.charge q _ _ _) => q == p
  | _ => false

/-- A CHARGE(p) waits: point p's request is outstanding and no CHARGE(p) is in progress (R54). -/
def State.chargeWaits (s : State) (p : Fin 16) : Bool := (s.point p).chargeRequest && !s.charging p

/-- The page whose GATHER waits: the Commit Engine is in GATHER and the operation is not in progress (R178). -/
def State.gatherWaits (s : State) : Option (Fin 9) :=
  match s.commit.phase, s.engine.op with
  | .gather _, .busy (.gather _) => none
  | .gather page, _ => some page
  | _, _ => none

/-- The slot whose STANDING waits: the sweep is RUNNING and no STANDING is in progress (R88). -/
def State.standingWaits (s : State) : Option (Fin 64) :=
  match s.timer.sweep, s.engine.op with
  | .running, .busy (.standing _ _) => none
  | .running, _ => some s.timer.cursor
  | _, _ => none

/-- The executing command whose operation waits (R43). -/
def State.commandWaits (s : State) : Option QueuedCommand :=
  match s.proc.executing with
  | some { cmd, phase := .requested } => some cmd
  | _ => none

/-- The lowest point whose CHARGE waits (R44). -/
def State.firstCharge (s : State) : Option (Fin 16) := (List.finRange 16).find? s.chargeWaits

/-- Some request waits for the engine (R43). -/
def State.requestWaits (s : State) : Bool :=
  s.port.request.isSome || s.firstCharge.isSome || s.gatherWaits.isSome || s.commandWaits.isSome ||
    s.standingWaits.isSome

/-- Some point has a charge request outstanding (R54). -/
def State.chargeOutstanding (s : State) : Bool := (List.finRange 16).any fun p => (s.point p).chargeRequest

/-! ### Dirty set -/

/-- The pages of the dirty set (R172), ascending. -/
def State.dirtyPages (s : State) : List (Fin 9) :=
  (List.finRange 9).filter fun page => s.commit.dirty[page].isSome

/-- A set of pages, one place per page (R201, R204). -/
def pageBit (page : Fin 9) : BitVec 9 := 1#9 <<< page.val

/-- The set of the pages of a list. -/
def pageSet (pages : List (Fin 9)) : BitVec 9 := pages.foldl (fun set page => set ||| pageBit page) 0

/-- The page in flight: from the completion of its GATHER to the end of its commit (R177). -/
def CommitPhase.inFlight : CommitPhase → Option (Fin 9)
  | .erase page => some page
  | .program page => some page
  | .verify page => some page
  | _ => none

/-! ### WAIT conditions (R107) -/

def State.commitClean (s : State) : Bool := s.dirtyPages.isEmpty && s.commit.phase == .idle

def State.sweepIdle (s : State) : Bool := s.timer.sweep == .idle && !s.timer.owed

/-- The conditions that hold, coded as R203 codes the set. -/
def State.conditionsHeld (s : State) : BitVec 6 :=
  BitVec.ofNat 6 (ofFlags [s.commitClean, s.sweepIdle, !s.chargeOutstanding, s.port.state == .idle,
    s.engine.attention.isEmpty, s.proc.periodLatch])

/-- Every chosen condition holds (R107, R108). -/
def State.waitMet (s : State) (w : WaitState) : Bool := w.conditions &&& s.conditionsHeld == w.conditions

/-! ### Command Processor state (R98) -/

/-- The processor's states. -/
inductive ProcessorState where
  | idle | starting | executing | waiting
  deriving DecidableEq, Repr

/-- R98: WAITING while a WAIT (21h) executes, EXECUTING for any other command. -/
def State.processorState (s : State) : ProcessorState :=
  match s.proc.executing with
  | some e => if e.cmd.code = 0x21 then .waiting else .executing
  | none => if s.proc.queue.isEmpty then .idle else .starting

def ProcessorState.code : ProcessorState → Nat
  | .idle => 0
  | .starting => 1
  | .executing => 2
  | .waiting => 3

/-! ### Notices (chapter 8) -/

def StickyErrors.any (e : StickyErrors) : Bool :=
  e.queueOverflow || e.resultUnderflow || e.sweepLate || e.nvFault || e.loadDamage || e.badRegister

/-- The 23 ready flags by rank (R154). -/
def State.readyFlags (s : State) : BitVec 23 :=
  BitVec.ofNat 23 (ofFlags (
    [s.notice.power, s.notice.errors.any] ++ (List.finRange 16).map (fun p => (s.point p).flags.any) ++
      [!s.engine.attention.isEmpty, s.notice.topup, s.notice.commit, s.notice.mark, !s.proc.results.isEmpty]))

/-- The sources that request: ready and enabled (R157). -/
def State.requests (s : State) : BitVec 23 := s.readyFlags &&& s.notice.enables

/-- The highest requesting source: of all in SUMMARY (R159) and with an empty stack; among those that outrank the top of
the stack in VECTORED (R162). -/
def State.qualifying (s : State) : Option (Fin 23) :=
  (List.finRange 23).find? fun rank =>
    s.requests.getLsbD rank.val &&
      match s.notice.mode, s.notice.stack with
      | .vectored, top :: _ => rank.val < top.val
      | _, _ => true

/-- NOTICE_N is asserted: in SUMMARY while a source requests (R159), in VECTORED by R161; deasserted in RESET (R190). -/
def State.noticeAsserted (s : State) : Bool :=
  s.served &&
    match s.notice.mode with
    | .summary => s.requests != 0
    | .vectored => s.qualifying.isSome

/-! ### Top-up port lines (R135, R136, R148, R150) -/

/-- What the port does to a line: it drives it low or leaves it released, never high (R135). -/
inductive LineDrive where
  | low | released
  deriving DecidableEq, Repr

/-- A bit sent: low for a 0, released for a 1 (R150). -/
def LineDrive.ofBit (bit : Bool) : LineDrive := if bit then .released else .low

/-- TSCL is held low in APPLY (R136). -/
def State.clockHeld (s : State) : Bool := s.port.state == .applying

/-- The byte being sent on TSDA in SENDING: the reply's next byte, FFh after the ninth (R148). -/
def State.sendingByte (s : State) : Byte := s.port.reply.getD s.port.sent 0xFF

/-- TSDA as the port drives it at place `place` of a byte, counted from 0: in SENDING the bits of the byte being sent, most
significant first (R150, R206); released in every other state. -/
def State.tsdaDrive (s : State) (place : Fin 8) : LineDrive :=
  if s.port.state = .sending then .ofBit (s.sendingByte.getMsbD place.val) else .released

/-- TSDA as the port drives it in the ninth clock of the byte last received: low for an acknowledge (R135). -/
def State.acknowledgeDrive (s : State) : LineDrive := if s.port.acked then .low else .released

end Sys2Proof.Machine
end

