-- ==== Sys2Proof/Machine/PointRules.lean ====
section
/-! DEFINITION. The state machine of one point (sections 3.2 to 3.6): edges and units, entry to each state,
evaluate-on-release, notices, ticks and the detach. Each is a function of one point record. -/

namespace Sys2Proof.Machine

/-! ### Entries -/

/-- Entry to HELD (R57): grace remaining becomes 0. -/
def Point.toHeld (p : Point) : Point := { p with state := .held, graceRemaining := 0 }

/-- Entry to LIVE (R58, R61). -/
def Point.toLive (p : Point) : Point := { p with state := .live, graceRemaining := 0 }

/-- Entry to CUT sets the CUT flag (R64). -/
def Point.toCut (p : Point) : Point :=
  { p with state := .cut, graceRemaining := 0, flags := { p.flags with cut := true } }

/-- Entry to AWAITING sets the AWAITING flag (R61). -/
def Point.toAwaiting (p : Point) : Point :=
  { p with state := .awaiting, graceRemaining := 0, flags := { p.flags with awaiting := true } }

/-- A unit is lost: LOCKED, with its flag (R53, R62). -/
def Point.toLocked (p : Point) : Point :=
  { p with state := .locked, graceRemaining := 0, flags := { p.flags with locked := true } }

/-- A LIVE point whose level becomes EXHAUSTED (R59). -/
def Point.enterGrace (deferral : Bool) (p : Point) : Point :=
  if 0 < p.config.grace || deferral then
    { p with state := .grace, graceRemaining := p.config.grace, flags := { p.flags with grace := true } }
  else p.toCut

/-- Evaluate-on-release (R58). -/
def Point.evaluate (p : Point) : Point :=
  if p.holdCause then p.toHeld
  else
    match p.view with
    | some (_, .exhausted) => p.toCut
    | _ => p.toLive

/-- A CUT point whose slot recovers (R61). -/
def Point.restored (p : Point) : Point :=
  match p.config.restore with
  | .automatic => p.toLive
  | .onCommand => p.toAwaiting

/-! ### Notices (R37, R57, R59, R61) -/

/-- A supplying, cut or awaiting point whose view shows its slot ACTIVE at the level given. -/
def Point.follow (deferral : Bool) (level : Level) (p : Point) : Point :=
  match p.state with
  | .live => if level = .exhausted then p.enterGrace deferral else p
  | .grace => if level = .exhausted then p else p.toLive
  | .cut => if level = .exhausted then p else p.restored
  | .awaiting => if level = .exhausted then p.toCut else p
  | .detached => p
  | .held => p
  | .locked => p

/-- The point with its account view at the status and level given (R49). -/
def Point.seeing (status : Status) (level : Level) (p : Point) : Point := { p with view := some (status, level) }

/-- A notice of the bound slot's status and level. A DETACHED point receives none; LOCKED keeps its state (R62); HELD
leaves by evaluate-on-release when no hold cause remains (R57); a slot no longer ACTIVE holds the point. -/
def Point.notified (deferral : Bool) (status : Status) (level : Level) (p : Point) : Point :=
  match p.state with
  | .detached => p
  | .locked => p.seeing status level
  | .held => if (p.seeing status level).holdCause then p.seeing status level else (p.seeing status level).evaluate
  | .live => if status = .active then (p.seeing status level).follow deferral level else (p.seeing status level).toHeld
  | .grace => if status = .active then (p.seeing status level).follow deferral level else (p.seeing status level).toHeld
  | .cut => if status = .active then (p.seeing status level).follow deferral level else (p.seeing status level).toHeld
  | .awaiting =>
    if status = .active then (p.seeing status level).follow deferral level else (p.seeing status level).toHeld

/-! ### Edges and units (R51, R52, R53) -/

/-- One unit arrives: it joins pending, or is lost at 255 (R53). -/
def Point.addUnit (p : Point) : Point :=
  if p.pending < Config.maxPending then { p with pending := p.pending + 1 } else p.toLocked

/-- A counted edge (R52, R53): STRAY on a DETACHED point, otherwise one more edge towards a unit. -/
def Point.countEdge (p : Point) : Point :=
  if p.state = .detached then { p with flags := { p.flags with stray := true } }
  else if p.edgeCounter + 1 < p.config.prescale then { p with edgeCounter := p.edgeCounter + 1 }
  else Point.addUnit { p with edgeCounter := 0 }

/-- Whether a change of the debounced level to `level` is of the kind the edge mode counts (R52). -/
def EdgeMode.counts (mode : EdgeMode) (level : Bool) : Bool :=
  match mode with
  | .rise => level
  | .fall => !level
  | .both => true

/-- The debounced level becomes the line's level, and the change is judged (R50, R51, R52): `counting` says whether
edges are counted at this moment. -/
def Point.completeEdge (counting : Bool) (p : Point) : Point :=
  let q := { p with debounced := p.line, excursion := false }
  if counting && p.config.edgeMode.counts p.line then q.countEdge else q

/-- The line changes level (R51). With debounce 0 the change is an edge at once; otherwise an excursion starts, or ends
unseen when the line returns. Before the debouncer starts only the line changes. -/
def Point.lineChanged (debouncing counting : Bool) (p : Point) : Point :=
  let q := { p with line := !p.line }
  if !debouncing then q
  else if p.config.debounce = .ms0 then q.completeEdge counting
  else { q with excursion := q.line != q.debounced }

/-- The debouncer takes the line's present level without an edge (R50, R51). -/
def Point.retakeLevel (p : Point) : Point := { p with debounced := p.line, excursion := false }

/-! ### Ticks, deferral, hold, release -/

/-- Grace remaining has reached 0: CUT, or still GRACE while deferral is on (R60). -/
def Point.graceExpired (deferral : Bool) (p : Point) : Point :=
  if p.state = .grace ∧ p.graceRemaining = 0 ∧ deferral = false then p.toCut else p

/-- A tick at one point (R60). -/
def Point.ticked (deferral : Bool) (p : Point) : Point :=
  if p.state = .grace ∧ 0 < p.graceRemaining then
    Point.graceExpired deferral { p with graceRemaining := p.graceRemaining - 1 }
  else p

/-- HOLD of a bound point (R74). -/
def Point.held (p : Point) : Point :=
  let q := { p with hostHold := true }
  match p.state with
  | .live => q.toHeld
  | .grace => q.toHeld
  | .cut => q.toHeld
  | .awaiting => q.toHeld
  | .held => q
  | .locked => q
  | .detached => q

/-- RELEASE of a bound point (R75). -/
def Point.released (p : Point) : Point :=
  let q := { p with hostHold := false }
  match p.state with
  | .held => q.evaluate
  | .locked => q.evaluate
  | .awaiting => q.evaluate
  | .live => q
  | .grace => q
  | .cut => q
  | .detached => q

/-! ### Binding and detach -/

/-- The point bound to a slot with the view given, its runtime cleared, then evaluated (R67). -/
def Point.bound (slot : Fin 64) (status : Status) (level : Level) (p : Point) : Point :=
  Point.evaluate { p with
    binding := some slot, view := some (status, level), edgeCounter := 0, pending := 0, hostHold := false,
    graceRemaining := 0 }

/-- The detach of a point (R70 steps 1 and 3): STRAY is kept, the other flags are cleared. -/
def Point.detached (p : Point) : Point :=
  { p with
    binding := none, state := .detached, edgeCounter := 0, pending := 0, graceRemaining := 0, hostHold := false,
    view := none, flags := { stray := p.flags.stray } }

/-- The flags of a point after a write to POINTp (R64, R205). -/
def PointFlags.cleared (f : PointFlags) (value : Word) : PointFlags :=
  { grace := f.grace && !value.getLsbD 24, cut := f.cut && !value.getLsbD 25,
    awaiting := f.awaiting && !value.getLsbD 26, locked := f.locked && !value.getLsbD 27,
    stray := f.stray && !value.getLsbD 28 }

end Sys2Proof.Machine
end

