-- ==== Sys2Proof/Machine/Ops.lean ====
section
/-! DEFINITION. The shared operations over the state: records, directory and attention list (chapter 1), the balance and
level consequences of an engine operation (chapter 2), page reports (R173), results and WAITs (chapter 5), the sweep
(chapter 4), the entry to HOLDUP (R194) and the NV records (chapter 9). -/

namespace Sys2Proof.Machine

/-! ### Writing one record -/

def State.setSlot (s : State) (i : Fin 64) (a : Account) : State :=
  { s with engine := { s.engine with slots := s.engine.slots.set i a } }

def State.setPoint (s : State) (p : Fin 16) (r : Point) : State :=
  { s with points := { s.points with points := s.points.points.set p r } }

/-- The same function applied to every point. -/
def State.mapPoints (s : State) (f : Point → Point) : State :=
  { s with points := { s.points with points := s.points.points.map f } }

/-- The page of a slot (R1). -/
def pageOf (slot : Fin 64) : Fin 9 := ⟨slot.val / 8, by omega⟩

/-- The settings page (R170). -/
def settingsPage : Fin 9 := 8

/-! ### Directory (R15 to R19) -/

/-- Lookup by number (R16). -/
def State.lookup (s : State) (number : Nat) : Option (Fin 64) :=
  (s.engine.directory.find? fun e => e.number == number).map DirectoryEntry.slot

/-- Insertion keeps the numbers ascending (R17). -/
def insertEntry (e : DirectoryEntry) : List DirectoryEntry → List DirectoryEntry
  | [] => [e]
  | d :: rest => if e.number < d.number then e :: d :: rest else d :: insertEntry e rest

def State.insertDirectory (s : State) (number : Nat) (slot : Fin 64) : State :=
  { s with engine := { s.engine with directory := insertEntry { number, slot } s.engine.directory } }

/-- Removal of a slot's entry (R18). -/
def State.removeDirectory (s : State) (slot : Fin 64) : State :=
  { s with engine := { s.engine with directory := s.engine.directory.filter fun e => e.slot != slot } }

/-- The lowest FREE slot (R13). -/
def State.lowestFree (s : State) : Option (Fin 64) := (List.finRange 64).find? fun i => (s.slot i).status == .free

/-! ### Attention list (R20 to R24) -/

/-- Reasons join the slot's entry, or make a new entry at the tail (R21). -/
def joinReasons (slot : Fin 64) (reasons : Reasons) : List AttentionEntry → List AttentionEntry
  | [] => [{ slot, reasons }]
  | e :: rest =>
    if e.slot = slot then { e with reasons := e.reasons.union reasons } :: rest
    else e :: joinReasons slot reasons rest

/-- An empty set of reasons adds nothing. -/
def State.addReasons (s : State) (slot : Fin 64) (reasons : Reasons) : State :=
  if reasons.isEmpty then s
  else { s with engine := { s.engine with attention := joinReasons slot reasons s.engine.attention } }

/-- The slot's entry leaves the list, wherever it stands (R24). -/
def State.removeAttention (s : State) (slot : Fin 64) : State :=
  { s with engine := { s.engine with attention := s.engine.attention.filter fun e => e.slot != slot } }

/-! ### Change reports (R173, R175, R176) -/

/-- The page joins the eligible list at the tail, unless it is there. -/
def joinEligible (page : Fin 9) (pages : List (Fin 9)) : List (Fin 9) :=
  if page ∈ pages then pages else pages ++ [page]

/-- The dirty record of a page after a report (R173). -/
def reportedRecord (urgent : Bool) : Option DirtyRecord → DirtyRecord
  | none => { urgent, age := 0 }
  | some r => { r with urgent := r.urgent || urgent }

/-- The report makes the page eligible: it is urgent, and the page was absent or routine (R173). -/
def reportJoins (urgent : Bool) : Option DirtyRecord → Bool
  | none => urgent
  | some r => urgent && !r.urgent

/-- A change report reaches the Commit Engine (R173). In HOLDUP and SAFE every report is urgent. -/
def State.report (s : State) (page : Fin 9) (urgent : Bool) : State :=
  let u := urgent || s.warned
  { s with commit := { s.commit with
      dirty := s.commit.dirty.set page (some (reportedRecord u s.commit.dirty[page]))
      eligible := if reportJoins u s.commit.dirty[page] then joinEligible page s.commit.eligible else s.commit.eligible } }

/-- Every dirty page becomes urgent and joins the eligible list, in ascending page order (R176). -/
def State.makeAllUrgent (s : State) : State :=
  { s with commit := { s.commit with
      dirty := s.commit.dirty.map (Option.map fun r => { r with urgent := true })
      eligible := s.dirtyPages.foldl (fun pages page => joinEligible page pages) s.commit.eligible } }

/-! ### Notices to points (R37) -/

/-- The engine's notice of a slot's status and level, applied to every point bound to it. -/
def State.notifyPoints (s : State) (slot : Fin 64) (status : Status) (level : Level) : State :=
  s.mapPoints fun p => if p.binding = some slot then p.notified s.points.deferral status level else p

/-! ### Changing an account -/

/-- The record of a slot is written with its level recomputed; the attention reasons of the change of level from
`before`, and `extra`, are added; and the slot's points are told when its level or status changed and points are bound
(R36, R37, R21, R22). -/
def State.changeAccount (s : State) (slot : Fin 64) (a : Account) (before : Level) (extra : Reasons) : State :=
  let old := s.slot slot
  let new := a.relevelled
  let t := (s.setSlot slot new).addReasons slot ((levelReasons before new.level).union extra)
  if (new.level ≠ old.level ∨ new.status ≠ old.status) ∧ 0 < new.boundCount then
    t.notifyPoints slot new.status new.level
  else t

/-- A new balance with all it brings: R36, R37, and the report of the slot's page (R41). A balance equal to the old one
changes nothing but the reasons of a clamp (R30). -/
def State.storeBalance (s : State) (slot : Fin 64) (balance : Int) (extra : Reasons) (urgent : Bool) : State :=
  let a := s.slot slot
  if balance = a.balance then s.addReasons slot extra
  else (s.changeAccount slot { a with balance := balance } a.level extra).report (pageOf slot) urgent

/-- CHARGE and STANDING take an amount from a slot, clamping at the end of the range (R30, R31, R22). -/
def State.takeCharge (s : State) (slot : Fin 64) (amount : Nat) : State :=
  if amount = 0 then s
  else if (s.slot slot).balance - amount < -Config.maxBalance then
    s.storeBalance slot (-Config.maxBalance) { limit := true } false
  else s.storeBalance slot ((s.slot slot).balance - amount) {} false

/-- DEBIT's test of a result (R33): none when it may be stored, otherwise the refusal. -/
def debitRefusal (a : Account) (amount : Nat) (force : Bool) : Option ResultStatus :=
  if force then if a.balance - amount < -Config.maxBalance then some .overflow else none
  else if a.balance - amount < -(a.ec : Int) then some .insufficient else none

/-- CREDIT's test of a result (R32). -/
def creditOverflows (a : Account) (amount : Nat) : Bool := Config.maxBalance < a.balance + amount

/-! ### Results and WAITs (R102, R106 to R109) -/

/-- What a command answers: a result without the tag and code of its command. -/
structure Answer where
  status : ResultStatus
  slot : Byte := 0
  number : Word := 0
  balance : Int := 0
  packed : Word := 0
  extraA : Word := 0
  extraB : Word := 0
  deriving DecidableEq, Repr

/-- The result record of a command's answer (R106). -/
def resultOf (cmd : QueuedCommand) (a : Answer) : Result :=
  { tag := cmd.tag, code := cmd.code, status := a.status, slot := a.slot, number := a.number, balance := a.balance,
    packed := a.packed, extraA := a.extraA, extraB := a.extraB }

/-- The command ends: its result joins the tail of the result queue and the reservation ends (R102). -/
def State.post (s : State) (cmd : QueuedCommand) (a : Answer) : State :=
  { s with proc := { s.proc with executing := none, results := s.proc.results ++ [resultOf cmd a] } }

/-- A WAIT ends with a status: its result carries the chosen conditions that hold now and the remaining timeout, and the
period latch is clear again (R107, R108). -/
def State.endWait (s : State) (cmd : QueuedCommand) (w : WaitState) (status : ResultStatus) : State :=
  let t := s.post cmd { status, extraA := (w.conditions &&& s.conditionsHeld).zeroExtend 32, extraB := BitVec.ofNat 32 w.remaining }
  { t with proc := { t.proc with periodLatch := false } }

/-- A WAITING processor tests its conditions: the WAIT is done when every chosen one holds (R108). -/
def State.retestWait (s : State) : State :=
  match s.proc.executing with
  | some { cmd, phase := .waiting w } => if s.waitMet w then s.endWait cmd w .done else s
  | _ => s

/-- A WAITING processor's WAIT is ended by an event (R109). -/
def State.breakWait (s : State) (status : ResultStatus) : State :=
  match s.proc.executing with
  | some { cmd, phase := .waiting w } => s.endWait cmd w status
  | _ => s

/-- The start of a WAIT (R107): latch cleared, timeout loaded, conditions tested. A conditions field with a bit outside
the six gives BAD_FIELD. -/
def State.startWait (s : State) (cmd : QueuedCommand) : State :=
  let conditions := lowByte cmd.params[0]
  let timeout := bits cmd.params[1] 0 16
  if 64 ≤ conditions then s.post cmd { status := .badField }
  else
    let w : WaitState := { conditions := BitVec.ofNat 6 conditions, timeout, remaining := timeout }
    let t := { s with proc := { s.proc with
      executing := some { cmd, phase := .waiting w }, periodLatch := false } }
    t.retestWait

/-- A WAIT that has been handed over and not yet taken takes its start now, before the event that would end it: the start
and its tests are one moment (R107; log entry 13). -/
def State.settleHandedWait (s : State) : State :=
  match s.proc.executing with
  | some { cmd, phase := .handed } => if cmd.code = 0x21 then s.startWait cmd else s
  | _ => s

/-! ### The sweep (R88 to R92) -/

/-- A sweep starts: RUNNING at slot 0, its STANDING waiting (R90). -/
def State.startSweep (s : State) : State :=
  { s with timer := { s.timer with sweep := .running, cursor := 0, owed := false } }

/-- The end of a sweep (R91). -/
def State.endSweep (s : State) : State :=
  if s.timer.owed && !s.warned then s.startSweep
  else { s with timer := { s.timer with sweep := .idle } }

/-- The completion of the STANDING at the cursor moves the sweep (R90). -/
def State.advanceSweep (s : State) : State :=
  if h : s.timer.cursor.val < 63 then
    { s with timer := { s.timer with
        cursor := ⟨s.timer.cursor.val + 1, by omega⟩
        sweep := if s.warned then .paused else .running } }
  else s.endSweep

/-- A period boundary (R86, R89): the count is loaded with the length, the sweep acts by the table of R89, and an
executing WAIT's latch is set and its conditions re-tested (R107, R108). -/
def State.takeBoundary (s : State) : State :=
  let loaded := { s with timer := { s.timer with remaining := s.timer.periodLength } }
  let swept :=
    if s.timer.owed then
      { loaded with notice := { s.notice with errors := { s.notice.errors with sweepLate := true } } }
    else if s.run.runState = .run ∧ s.timer.sweep = .idle then loaded.startSweep
    else { loaded with timer := { loaded.timer with owed := true } }
  match s.proc.executing with
  | some { cmd := _, phase := .waiting _ } =>
    State.retestWait { swept with proc := { swept.proc with periodLatch := true } }
  | _ => swept

/-! ### Entry to HOLDUP (R194) -/

/-- A write in ADDRESSED_WRITE, RECEIVE or DISCARD is abandoned, and the rest of it is left unacknowledged (R152). -/
def State.abandonWrite (s : State) : State :=
  match s.port.state with
  | .addressedWrite => { s with port := { s.port with state := .idle, receive := [], awaitsAddress := false, acked := false } }
  | .receive => { s with port := { s.port with state := .idle, receive := [], awaitsAddress := false, acked := false } }
  | .discard => { s with port := { s.port with state := .idle, receive := [], awaitsAddress := false, acked := false } }
  | _ => s

/-- What the Run Controller, the Commit Engine, the Top-up Port and the Notice Controller do at entry to HOLDUP. -/
def State.enterHoldupBlocks (s : State) : State :=
  let t := { s with
    run := { s.run with runState := .holdup, loadPage := 0 }, notice := { s.notice with power := true } }
  t.makeAllUrgent.abandonWrite

/-- Entry to HOLDUP (R194). An executing WAIT ends with HOLDUP (R109); `conditionFirst` says whether the Top-up Port's
return to IDLE reaches the WAIT before the entry does. -/
def State.enterHoldup (conditionFirst : Bool) (s : State) : State :=
  let t := s.settleHandedWait
  if conditionFirst then (t.enterHoldupBlocks.retestWait).breakWait .holdup
  else (t.breakWait .holdup).enterHoldupBlocks

/-! ### Engine operations of commands (R43, R100, R114) -/

/-- The engine completes the operation in progress and becomes FREE (R26). -/
def State.freeEngine (s : State) : State := { s with engine := { s.engine with op := .free } }

/-- The completion of the operation of a command with code `code`: the engine becomes FREE, the command's effects are
taken, and its answer is posted, unless a PORT RESET has abandoned the command (R45, R113). When no such operation is
in progress there is nothing to complete. -/
def State.completeCommand (s : State) (code : Byte) (effect : Vector Word 7 → State → State × Answer) : State :=
  match s.engine.op with
  | .busy (.command cmd owned) =>
    if cmd.code = code then
      let (t, answer) := effect cmd.params s.freeEngine
      (if owned then t.post cmd answer else t).retestWait
    else s
  | _ => s

/-- A command that its owning block answers in the step it is taken (R100). When no command with that code has been
handed over there is nothing to take. -/
def State.takeCommand (s : State) (code : Byte) (effect : Vector Word 7 → State → State × Answer) : State :=
  match s.proc.executing with
  | some { cmd, phase := .handed } =>
    if cmd.code = code then
      let (t, answer) := effect cmd.params s
      t.post cmd answer
    else s
  | _ => s

/-! ### Answers (R115, R204) -/

def slotByte (slot : Fin 64) : Byte := BitVec.ofNat 8 slot.val

/-- The packed field (R204). -/
def packedField (a : Account) : Word :=
  BitVec.ofNat 32 (a.status.code + a.level.code * 2 ^ 2 + a.tariff.val * 2 ^ 4 + a.boundCount * 2 ^ 8)

/-- The record block of a slot (R115). -/
def recordAnswer (status : ResultStatus) (slot : Fin 64) (a : Account) : Answer :=
  { status, slot := slotByte slot, number := bcdWord a.number, balance := a.balance, packed := packedField a }

/-- The full record: the record block and the thresholds (R115). -/
def fullAnswer (slot : Fin 64) (a : Account) : Answer :=
  { recordAnswer .done slot a with extraA := bcdWord a.ec, extraB := bcdWord a.low }

/-- A result with the number looked up or presented, and everything else 0 (R115). -/
def numberAnswer (status : ResultStatus) (number : Nat) : Answer := { status, number := bcdWord number }

/-- The point block (R204). -/
def pointBlock (p : Fin 16) (r : Point) : Word :=
  BitVec.ofNat 32 (p.val + r.state.code * 2 ^ 8 + r.pending * 2 ^ 16)

/-- A point command's answer with the point block (R66). -/
def State.pointAnswer (s : State) (status : ResultStatus) (p : Fin 16) : Answer :=
  { status, extraA := pointBlock p (s.point p) }

/-! ### Stored records (R42, R170, R178) -/

/-- The stored fields of a slot. -/
def storeAccount (a : Account) : StoredAccount :=
  { number := BitVec.ofNat 32 (toBcd 8 a.number), status := BitVec.ofNat 8 a.status.code,
    sign := BitVec.ofNat 8 (signByte a.balance), balance := BitVec.ofNat 40 (toBcd 10 a.balance.natAbs),
    ec := BitVec.ofNat 32 (toBcd 8 a.ec), low := BitVec.ofNat 32 (toBcd 8 a.low), tariff := BitVec.ofNat 8 a.tariff.val }

/-- The slot that is record `j` of account page `page` (R1). -/
def slotAt (page : Fin 8) (j : Fin 8) : Fin 64 := ⟨8 * page.val + j.val, by omega⟩

/-- The account page of a page number; none for the settings page. -/
def accountPage (page : Fin 9) : Option (Fin 8) := if h : page.val < 8 then some ⟨page.val, h⟩ else none

/-- The eight slots of an account page as they stand (R42). -/
def State.gatherAccounts (s : State) (page : Fin 8) : PageContents :=
  .accounts (Vector.ofFn fun j => storeAccount (s.slot (slotAt page j)))

def storePoint (p : Point) : StoredPoint :=
  { binding := p.binding.map slotByte, edgeMode := BitVec.ofNat 8 p.config.edgeMode.code,
    prescale := BitVec.ofNat 8 p.config.prescale, debounce := BitVec.ofNat 8 p.config.debounce.code,
    grace := BitVec.ofNat 16 p.config.grace, restore := BitVec.ofNat 8 p.config.restore.code }

def storeTariff (t : Tariff) : StoredTariff :=
  { priceA := BitVec.ofNat 24 (toBcd 6 t.priceA), priceB := BitVec.ofNat 24 (toBcd 6 t.priceB),
    standing := BitVec.ofNat 24 (toBcd 6 t.standing) }

/-- The settings as their owning blocks hold them (R178). -/
def State.gatherSettings (s : State) : PageContents :=
  .settings {
    points := s.points.points.map storePoint
    tariffs := s.timer.tariffs.map storeTariff
    periodLength := BitVec.ofNat 32 s.timer.periodLength
    interval := BitVec.ofNat 8 s.commit.interval
    enable := if s.port.enabled then 1 else 0
    address := s.port.address.zeroExtend 8
    maximum := BitVec.ofNat 32 (toBcd 8 s.port.maximum) }

/-- The copy of a page is complete: the snapshot is fixed, the page leaves the eligible list and the dirty set, and the
commit enters ERASE (R178). -/
def State.fixSnapshot (s : State) (page : Fin 9) (contents : PageContents) : State :=
  { s with commit := { s.commit with
      snapshot := some contents
      eligible := s.commit.eligible.filter fun q => q != page
      dirty := s.commit.dirty.set page none
      phase := .erase page
      retried := false } }

end Sys2Proof.Machine
end

