-- ==== Sys2Proof/Machine/Accounts.lean ====
section
/-! DEFINITION. The fourteen account commands (chapter 6). Each effect is a function of the staged fields and the state at
the operation, giving the new state and the answer; its row completes the engine operation that serves it (R114). -/

namespace Sys2Proof.Machine

/-- A BAD_FIELD answer: every field 0 (R115). -/
def badField : Answer := { status := .badField }

/-- The account a number leads to, or NOT_FOUND with the number looked up (R16, R115). -/
def State.withAccount (s : State) (number : Nat) (f : Fin 64 → State × Answer) : State × Answer :=
  match s.lookup number with
  | some slot => f slot
  | none => (s, numberAnswer .notFound number)

/-! ### Opening and closing -/

/-- The staged fields of OPEN (R117, R203). -/
structure OpenFields where
  number : Nat
  tariff : Fin 8
  ec : Nat
  low : Nat
  amount : Nat
  deriving DecidableEq, Repr

/-- The fields of OPEN, or none for BAD_FIELD. -/
def openFields (f : Vector Word 7) : Option OpenFields := do
  let number ← digits8 f[0]
  let tariff ← tariffIndex (lowByte f[1])
  let ec ← digits8 f[2]
  let low ← digits8 f[3]
  let amount ← amountPair f[4] f[5]
  if number = 0 then none else some { number, tariff, ec, low, amount }

/-- The record OPEN writes (R6). -/
def OpenFields.account (o : OpenFields) : Account :=
  { number := o.number, status := .active, balance := o.amount, ec := o.ec, low := o.low, tariff := o.tariff,
    level := .normal, boundCount := 0 }

/-- OPEN (R117, R6). -/
def openEffect (f : Vector Word 7) (s : State) : State × Answer :=
  match openFields f with
  | none => (s, badField)
  | some o =>
    match s.lookup o.number with
    | some slot => (s, recordAnswer .duplicate slot (s.slot slot))
    | none =>
      match s.lowestFree with
      | none => (s, numberAnswer .tableFull o.number)
      | some slot =>
        let t := ((s.insertDirectory o.number slot).changeAccount slot o.account .normal {}).report (pageOf slot) true
        (t, fullAnswer slot (t.slot slot))

def execOpenAccount (s : State) : Host.Outcome State Fault Refusal := .next (s.completeCommand 0x01 openEffect)

/-- The slot becomes FREE: its attention entry leaves and its page is reported (R8). -/
def State.freeSlot (s : State) (slot : Fin 64) : State :=
  ((s.removeAttention slot).setSlot slot Account.free).report (pageOf slot) true

/-- CLOSE (R118, R8). -/
def closeEffect (f : Vector Word 7) (s : State) : State × Answer :=
  match digits8 f[0] with
  | none => (s, badField)
  | some number =>
    s.withAccount number fun slot =>
      if 0 < (s.slot slot).boundCount then (s, recordAnswer .bound slot (s.slot slot))
      else ((s.removeDirectory slot).freeSlot slot, fullAnswer slot (s.slot slot))

def execCloseAccount (s : State) : Host.Outcome State Fault Refusal := .next (s.completeCommand 0x02 closeEffect)

/-! ### Balance commands -/

/-- CREDIT (R119, R32). -/
def creditEffect (f : Vector Word 7) (s : State) : State × Answer :=
  match digits8 f[0], amountPair f[1] f[2] with
  | some number, some amount =>
    s.withAccount number fun slot =>
      if creditOverflows (s.slot slot) amount then (s, recordAnswer .overflow slot (s.slot slot))
      else
        let t := s.storeBalance slot ((s.slot slot).balance + amount) {} true
        (t, recordAnswer .done slot (t.slot slot))
  | _, _ => (s, badField)

def execCredit (s : State) : Host.Outcome State Fault Refusal := .next (s.completeCommand 0x03 creditEffect)

/-- The staged fields of DEBIT (R120, R203). -/
def debitFields (f : Vector Word 7) : Option (Nat × Nat × Bool) := do
  let number ← digits8 f[0]
  let amount ← amountPair f[1] f[2]
  let force ← forceField f[3]
  some (number, amount, force)

/-- DEBIT (R120, R33). -/
def debitEffect (f : Vector Word 7) (s : State) : State × Answer :=
  match debitFields f with
  | none => (s, badField)
  | some (number, amount, force) =>
    s.withAccount number fun slot =>
      match debitRefusal (s.slot slot) amount force with
      | some status => (s, recordAnswer status slot (s.slot slot))
      | none =>
        let t := s.storeBalance slot ((s.slot slot).balance - amount) {} true
        (t, recordAnswer .done slot (t.slot slot))

def execDebit (s : State) : Host.Outcome State Fault Refusal := .next (s.completeCommand 0x04 debitEffect)

/-- The staged fields of TRANSFER (R121, R203). -/
structure TransferFields where
  source : Nat
  destination : Nat
  amount : Nat
  force : Bool
  deriving DecidableEq, Repr

def transferFields (f : Vector Word 7) : Option TransferFields := do
  let source ← digits8 f[0]
  let destination ← digits8 f[1]
  let amount ← amountPair f[2] f[3]
  let force ← forceField f[4]
  some { source, destination, amount, force }

/-- The destination's part of a DONE result's extra A (R204). -/
def destinationField (slot : Fin 64) (a : Account) : Word :=
  moneyHigh a.balance + BitVec.ofNat 32 (slot.val * 2 ^ 16 + a.level.code * 2 ^ 24)

/-- Both balances are stored, the source first (R34, R22). -/
def State.moveAmount (s : State) (src dst : Fin 64) (amount : Nat) : State :=
  let t := s.storeBalance src ((s.slot src).balance - amount) {} true
  t.storeBalance dst ((t.slot dst).balance + amount) {} true

/-- TRANSFER between two slots found (R34, R121). -/
def State.transferBetween (s : State) (src dst : Fin 64) (x : TransferFields) : State × Answer :=
  if src = dst then (s, recordAnswer .sameAccount src (s.slot src))
  else
    match debitRefusal (s.slot src) x.amount x.force with
    | some .overflow => (s, { recordAnswer .overflow src (s.slot src) with extraA := 1 })
    | some status => (s, recordAnswer status src (s.slot src))
    | none =>
      if creditOverflows (s.slot dst) x.amount then
        (s, { recordAnswer .overflow src (s.slot src) with extraA := 2 })
      else
        let t := s.moveAmount src dst x.amount
        (t, { recordAnswer .done src (t.slot src) with
          extraA := destinationField dst (t.slot dst), extraB := moneyLow (t.slot dst).balance })

/-- TRANSFER (R121, R34). -/
def transferEffect (f : Vector Word 7) (s : State) : State × Answer :=
  match transferFields f with
  | none => (s, badField)
  | some x =>
    match s.lookup x.source, s.lookup x.destination with
    | none, _ => (s, { numberAnswer .notFound x.source with extraA := 1 })
    | some _, none => (s, { numberAnswer .notFound x.destination with extraA := 2 })
    | some src, some dst => s.transferBetween src dst x

def execTransfer (s : State) : Host.Outcome State Fault Refusal := .next (s.completeCommand 0x05 transferEffect)

/-! ### Reading accounts -/

/-- QUERY (R122). -/
def queryEffect (f : Vector Word 7) (s : State) : State × Answer :=
  match digits8 f[0] with
  | none => (s, badField)
  | some number => s.withAccount number fun slot => (s, fullAnswer slot (s.slot slot))

def execQuery (s : State) : Host.Outcome State Fault Refusal := .next (s.completeCommand 0x06 queryEffect)

/-- QUERY_SLOT (R123). -/
def querySlotEffect (f : Vector Word 7) (s : State) : State × Answer :=
  match slotField f[0] with
  | none => (s, badField)
  | some slot => (s, fullAnswer slot (s.slot slot))

def execQuerySlot (s : State) : Host.Outcome State Fault Refusal := .next (s.completeCommand 0x07 querySlotEffect)

/-- The staged fields of SCAN (R124, R203). -/
structure ScanFields where
  start : Nat
  mask : Nat
  pattern : Nat
  statuses : Nat
  levels : Nat
  deriving DecidableEq, Repr

/-- The fields of SCAN, or none for BAD_FIELD: a bad digit of the pattern, or a filter bit outside its set. -/
def scanFields (f : Vector Word 7) : Option ScanFields := do
  let pattern ← digits8 f[2]
  if lowByte f[3] < 4 ∧ lowByte f[4] < 16 then
    some { start := lowByte f[0], mask := lowByte f[1], pattern, statuses := lowByte f[3], levels := lowByte f[4] }
  else none

/-- Each digit the mask selects agrees: bit j of the mask selects the digit of weight 10^j (R203). -/
def digitsMatch (mask pattern number : Nat) : Bool :=
  (List.range 8).all fun j => !mask.testBit j || number / 10 ^ j % 10 == pattern / 10 ^ j % 10

/-- The status filter lets a status through: bit 0 ACTIVE, bit 1 SUSPENDED (R203). -/
def statusAllowed (filter : Nat) : Status → Bool
  | .active => filter.testBit 0
  | .suspended => filter.testBit 1
  | .free => false
  | .quarantined => false

/-- A directory entry meets SCAN's conditions (R124). -/
def State.scanMatches (s : State) (x : ScanFields) (e : DirectoryEntry) : Bool :=
  digitsMatch x.mask x.pattern e.number && statusAllowed x.statuses (s.slot e.slot).status &&
    x.levels.testBit (s.slot e.slot).level.code

/-- The first entry that passes a test, with its position, when the list starts at position `pos` (R19). -/
def firstMatch (test : DirectoryEntry → Bool) : Nat → List DirectoryEntry → Option (Nat × DirectoryEntry)
  | _, [] => none
  | pos, e :: rest => if test e then some (pos, e) else firstMatch test (pos + 1) rest

/-- SCAN (R124, R125). -/
def scanEffect (f : Vector Word 7) (s : State) : State × Answer :=
  match scanFields f with
  | none => (s, badField)
  | some x =>
    let count : Word := BitVec.ofNat 32 s.engine.directory.length
    match firstMatch (s.scanMatches x) x.start (s.engine.directory.drop x.start) with
    | some (pos, e) =>
      (s, { recordAnswer .done e.slot (s.slot e.slot) with extraA := BitVec.ofNat 32 pos, extraB := count })
    | none => (s, { status := .empty, extraB := count })

def execScan (s : State) : Host.Outcome State Fault Refusal := .next (s.completeCommand 0x08 scanEffect)

/-! ### Amending and suspending -/

/-- The staged fields of AMEND; a field the selection leaves out is not read (R126). -/
structure AmendFields where
  number : Nat
  tariff : Option (Fin 8)
  ec : Option Nat
  low : Option Nat
  deriving DecidableEq, Repr

/-- A field that is read only when it is selected. -/
def selected {α : Type} (chosen : Bool) (field : Option α) : Option (Option α) :=
  if chosen then field.map some else some none

def amendFields (f : Vector Word 7) : Option AmendFields := do
  let number ← digits8 f[0]
  let tariff ← selected ((lowByte f[1]).testBit 0) (tariffIndex (lowByte f[2]))
  let ec ← selected ((lowByte f[1]).testBit 1) (digits8 f[3])
  let low ← selected ((lowByte f[1]).testBit 2) (digits8 f[4])
  if lowByte f[1] < 8 then some { number, tariff, ec, low } else none

/-- The record with the selected fields written (R127). -/
def AmendFields.amended (x : AmendFields) (a : Account) : Account :=
  { a with tariff := x.tariff.getD a.tariff, ec := x.ec.getD a.ec, low := x.low.getD a.low }

/-- AMEND (R126, R127). -/
def amendEffect (f : Vector Word 7) (s : State) : State × Answer :=
  match amendFields f with
  | none => (s, badField)
  | some x =>
    s.withAccount x.number fun slot =>
      let a := s.slot slot
      let t := if x.amended a = a then s else (s.changeAccount slot (x.amended a) a.level {}).report (pageOf slot) true
      (t, fullAnswer slot (t.slot slot))

def execAmend (s : State) : Host.Outcome State Fault Refusal := .next (s.completeCommand 0x09 amendEffect)

/-- The slot takes a status, its points are told, and its page is reported (R7). -/
def State.setStatus (s : State) (slot : Fin 64) (status : Status) : State :=
  (s.changeAccount slot { s.slot slot with status } (s.slot slot).level {}).report (pageOf slot) true

/-- SUSPEND and RESUME: WRONG_STATE when the slot already has the status (R128, R129). -/
def statusEffect (status : Status) (f : Vector Word 7) (s : State) : State × Answer :=
  match digits8 f[0] with
  | none => (s, badField)
  | some number =>
    s.withAccount number fun slot =>
      if (s.slot slot).status = status then (s, recordAnswer .wrongState slot (s.slot slot))
      else
        let t := s.setStatus slot status
        (t, fullAnswer slot (t.slot slot))

/-- SUSPEND (R128). -/
def execSuspend (s : State) : Host.Outcome State Fault Refusal :=
  .next (s.completeCommand 0x0A (statusEffect .suspended))

/-- RESUME (R129). -/
def execResume (s : State) : Host.Outcome State Fault Refusal := .next (s.completeCommand 0x0B (statusEffect .active))

/-! ### Quarantined slots -/

/-- The staged fields of REPAIR (R130, R203). -/
structure RepairFields where
  slot : Fin 64
  number : Nat
  balance : Int
  ec : Nat
  low : Nat
  tariff : Fin 8
  status : Status
  deriving DecidableEq, Repr

/-- REPAIR's status code: 1 ACTIVE, 2 SUSPENDED (R130). -/
def repairStatus (code : Nat) : Option Status :=
  if code = 1 then some .active else if code = 2 then some .suspended else none

def repairFields (f : Vector Word 7) : Option RepairFields := do
  let slot ← slotField f[0]
  let number ← digits8 f[1]
  let balance ← balancePair f[2] f[3]
  let ec ← digits8 f[4]
  let low ← digits8 f[5]
  let tariff ← tariffIndex (lowByte f[6])
  let status ← repairStatus (bits f[6] 8 8)
  if number = 0 then none else some { slot, number, balance, ec, low, tariff, status }

/-- The record REPAIR writes: the bound count is kept (R131). -/
def RepairFields.repaired (x : RepairFields) (a : Account) : Account :=
  { number := x.number, status := x.status, balance := x.balance, ec := x.ec, low := x.low, tariff := x.tariff,
    level := a.level, boundCount := a.boundCount }

/-- REPAIR (R130, R131, R132). -/
def repairEffect (f : Vector Word 7) (s : State) : State × Answer :=
  match repairFields f with
  | none => (s, badField)
  | some x =>
    let a := s.slot x.slot
    if a.status ≠ .quarantined then (s, recordAnswer .wrongState x.slot a)
    else
      match s.lookup x.number with
      | some holder => (s, recordAnswer .duplicate holder (s.slot holder))
      | none =>
        let t := ((s.insertDirectory x.number x.slot).changeAccount x.slot (x.repaired a) a.level {}).report
          (pageOf x.slot) true
        (t, fullAnswer x.slot (t.slot x.slot))

def execRepair (s : State) : Host.Outcome State Fault Refusal := .next (s.completeCommand 0x0C repairEffect)

/-- The points bound to a slot. -/
def State.boundPoints (s : State) (slot : Fin 64) : List (Fin 16) :=
  (List.finRange 16).filter fun p => (s.point p).binding == some slot

/-- Every point bound to a slot is detached (R71). -/
def State.detachAll (s : State) (slot : Fin 64) : State :=
  s.mapPoints fun p => if p.binding = some slot then p.detached else p

/-- The units pending at the points bound to a slot (R71). -/
def State.pendingUnits (s : State) (slot : Fin 64) : Nat :=
  ((s.boundPoints slot).map fun p => (s.point p).pending).sum

/-- DISCARD (R133, R71, R8). -/
def discardEffect (f : Vector Word 7) (s : State) : State × Answer :=
  match slotField f[0] with
  | none => (s, badField)
  | some slot =>
    let a := s.slot slot
    if a.status ≠ .quarantined then (s, recordAnswer .wrongState slot a)
    else
      (((s.detachAll slot).freeSlot slot).report settingsPage true,
        { recordAnswer .done slot a with
          extraA := BitVec.ofNat 32 (s.pendingUnits slot), extraB := BitVec.ofNat 32 (s.boundPoints slot).length })

def execDiscard (s : State) : Host.Outcome State Fault Refusal := .next (s.completeCommand 0x0D discardEffect)

/-! ### The attention list -/

/-- NEXT_ATTENTION (R134, R23). -/
def nextAttentionEffect (_f : Vector Word 7) (s : State) : State × Answer :=
  match s.engine.attention with
  | [] => (s, { status := .empty })
  | e :: rest =>
    ({ s with engine.attention := rest },
      { recordAnswer .done e.slot (s.slot e.slot) with extraA := BitVec.ofNat 32 e.reasons.code })

def execNextAttention (s : State) : Host.Outcome State Fault Refusal :=
  .next (s.completeCommand 0x0E nextAttentionEffect)

end Sys2Proof.Machine
end

