-- ==== Sys2Proof/Machine/CommitSteps.lean ====
section
/-! DEFINITION. The Commit Engine's rows (sections 9.4 and 9.5): COMMIT, COMMIT_START, ERASE_COMPLETE, PROGRAM_COMPLETE,
VERIFY_COMPLETE. -/

namespace Sys2Proof.Machine

/-! ### COMMIT (R183, R184) -/

/-- The set of the page in flight, or the empty set. -/
def State.flightSet (s : State) : BitVec 9 :=
  match s.commit.phase.inFlight with
  | some page => pageBit page
  | none => 0

/-- A set of pages in a result: one place per page (R204). -/
def pagesWord (set : BitVec 9) : Word := set.zeroExtend 32

/-- COMMIT is taken by the Commit Engine (R183): the dirty pages and the page in flight are wanted, and every dirty page
becomes urgent. With nothing to write it completes at once, and COMMIT is set ready (R184). -/
def State.takeCommit (s : State) (cmd : QueuedCommand) : State :=
  let t := s.makeAllUrgent
  if s.dirtyPages.isEmpty ∧ s.commit.phase.inFlight.isNone then
    State.post { t with notice.commit := true } cmd { status := .done }
  else
    { t with
      commit.wanted := some
        { pages := pageSet s.dirtyPages ||| s.flightSet, failed := 0, awaiting := pageSet s.dirtyPages,
          flight := s.commit.phase.inFlight.isSome }
      proc.executing := some { cmd, phase := .committing } }

/-- COMMIT (R183). -/
def execCommit (s : State) : Host.Outcome State Fault Refusal :=
  .next
    (match s.proc.executing with
    | some { cmd, phase := .handed } => if cmd.code = 0x20 then s.takeCommit cmd else s
    | _ => s)

/-- The end of a commit of a page settles a wanted page (R183): the commit in flight at the start settles its own page;
a later one settles a page that was dirty at the start. -/
def WantedMarks.settled (w : WantedMarks) (page : Fin 9) (succeeded : Bool) : WantedMarks :=
  let failed := if succeeded then w.failed else w.failed ||| pageBit page
  if w.flight then { w with flight := false, failed }
  else if w.awaiting &&& pageBit page = 0 then w
  else { w with awaiting := w.awaiting &&& ~~~pageBit page, failed }

/-- Every wanted page is settled. -/
def WantedMarks.complete (w : WantedMarks) : Bool := !w.flight && w.awaiting == 0

/-- The answer of a COMMIT (R184). -/
def commitAnswer (w : WantedMarks) : Answer :=
  { status := if w.failed = 0 then .done else .nvFailed, extraA := pagesWord w.pages, extraB := pagesWord w.failed }

/-- A COMMIT whose wanted pages are all settled completes: COMMIT is set ready, and the result posted (R184). -/
def State.finishCommit (s : State) (w : WantedMarks) : State :=
  match s.proc.executing with
  | some { cmd, phase := .committing } =>
    State.post { s with notice.commit := true, commit.wanted := none } cmd (commitAnswer w)
  | _ => { s with commit.wanted := none }

/-- The end of a commit of a page meets the wanted marks (R183). -/
def State.settleWanted (s : State) (page : Fin 9) (succeeded : Bool) : State :=
  match s.commit.wanted with
  | none => s
  | some w =>
    let v := w.settled page succeeded
    if v.complete then s.finishCommit v else { s with commit.wanted := some v }

/-! ### The commit operation -/

/-- COMMIT_START (R177, R178): the IDLE Commit Engine takes the head of the eligible list. An account page waits for its
GATHER; the settings page is copied at once. -/
def execCommitStart (s : State) : Host.Outcome State Fault Refusal :=
  .next
    (match s.commit.phase, s.commit.eligible with
    | .idle, page :: _ =>
      if s.operating then
        if page = settingsPage then s.fixSnapshot settingsPage s.gatherSettings
        else { s with commit.phase := .gather page }
      else s
    | _, _ => s)

/-- ERASE_COMPLETE (R179, R171): the page is cleared and reads as damaged; PROGRAM begins. -/
def execEraseComplete (s : State) : Host.Outcome State Fault Refusal :=
  .next
    (match s.commit.phase with
    | .erase page => { s with nv := s.nv.set page .damaged, commit.phase := .program page }
    | _ => s)

/-- What a program leaves in the page: the snapshot with its check value, or a page whose check value disagrees (R171,
R179; log entry 11). -/
def programmed (written : Bool) (snapshot : Option PageContents) : NvPage :=
  match written, snapshot with
  | true, some contents => .good contents
  | _, _ => .damaged

/-- PROGRAM_COMPLETE (R179): VERIFY begins. -/
def execProgramComplete (written : Bool) (s : State) : Host.Outcome State Fault Refusal :=
  .next
    (match s.commit.phase with
    | .program page => { s with nv := s.nv.set page (programmed written s.commit.snapshot), commit.phase := .verify page }
    | _ => s)

/-- The page equals the snapshot (R179). -/
def State.verifies (s : State) (page : Fin 9) : Bool :=
  match s.commit.snapshot with
  | some contents => s.nv[page] == .good contents
  | none => false

/-- The commit ends: the snapshot buffer is emptied, and the Commit Engine is IDLE (R179, R180). -/
def State.endCommit (s : State) : State :=
  { s with commit.phase := .idle, commit.snapshot := none, commit.retried := false }

/-- A page that failed twice returns to the dirty set as routine, in RUN and when absent (R180). -/
def State.returnFailed (s : State) (page : Fin 9) : State :=
  if s.run.runState = .run ∧ s.commit.dirty[page] = none then
    { s with commit.dirty := s.commit.dirty.set page (some { urgent := false, age := 0 }) }
  else s

/-- The second VERIFY has failed (R180, R181, R171). -/
def State.commitFailed (s : State) (page : Fin 9) : State :=
  State.endCommit (State.returnFailed
    { s with
      notice.errors.nvFault := true
      notice.commit := true
      commit.faultPage := some page
      nv := s.nv.set page .damaged } page)

/-- A commit of the page has verified (R209). -/
def State.markVerified (s : State) (page : Fin 9) : State :=
  { s with commit.unverified := s.commit.unverified &&& ~~~pageBit page }

/-- VERIFY_COMPLETE (R179, R180, R183, R209). -/
def execVerifyComplete (s : State) : Host.Outcome State Fault Refusal :=
  .next
    (match s.commit.phase with
    | .verify page =>
      if s.verifies page then ((s.markVerified page).endCommit.settleWanted page true).retestWait
      else if s.commit.retried then ((s.commitFailed page).settleWanted page false).retestWait
      else { s with commit.phase := .erase page, commit.retried := true }
    | _ => s)

end Sys2Proof.Machine
end

