-- ==== Sys2Proof/Machine/EngineSteps.lean ====
section
/-! DEFINITION. The Account Engine's own rows (chapter 2): ENGINE_GRANT, CHARGE, STANDING, GATHER. APPLY stands in
Machine/TopUp.lean, the operations of commands with their commands. -/

namespace Sys2Proof.Machine

/-- The engine becomes BUSY with an operation (R26). -/
def State.startOperation (s : State) (op : EngineOperation) : State := { s with engine.op := .busy op }

/-- The unit price a CHARGE of the slot reads: its tariff, in the current band (R29, R80). -/
def State.unitPrice (s : State) (slot : Fin 64) : Nat :=
  match s.timer.band with
  | .a => s.timer.tariffs[(s.slot slot).tariff].priceA
  | .b => s.timer.tariffs[(s.slot slot).tariff].priceB

/-- CHARGE(p) starts: it reads the pending count, the binding and the unit price (R29, R55). -/
def State.startCharge (s : State) (p : Fin 16) : State :=
  match (s.point p).binding with
  | some slot => s.startOperation (.charge p (s.point p).pending slot (s.unitPrice slot))
  | none => s

/-- The standing charge a STANDING of the slot reads (R80). -/
def State.standingCharge (s : State) (slot : Fin 64) : Nat := s.timer.tariffs[(s.slot slot).tariff].standing

/-- The first waiting request, in the order of R44, is granted: APPLY, the charges by point number, GATHER, the Command
Processor's operation, STANDING. -/
def State.grant (s : State) : State :=
  match s.port.request with
  | some request => { s.startOperation (.applyFrame request true) with port := { s.port with request := none } }
  | none =>
    match s.firstCharge with
    | some p => s.startCharge p
    | none =>
      match s.gatherWaits with
      | some page => s.startOperation (.gather page)
      | none =>
        match s.commandWaits with
        | some cmd =>
          { s.startOperation (.command cmd true) with
            proc := { s.proc with executing := some { cmd, phase := .granted } } }
        | none =>
          match s.standingWaits with
          | some slot => s.startOperation (.standing slot (s.standingCharge slot))
          | none => s

/-- ENGINE_GRANT (R26, R44, R46): the FREE engine grants in RUN, HOLDUP and SAFE. -/
def execEngineGrant (s : State) : Host.Outcome State Fault Refusal :=
  .next (if s.operating ∧ s.engine.op = .free then s.grant else s)

/-- Point p's pending units fall by n (R30). -/
def State.reducePending (s : State) (p : Fin 16) (n : Nat) : State :=
  s.setPoint p { s.point p with pending := (s.point p).pending - n }

/-- The tally of an UNBIND in progress for point p takes a completed charge (R68). -/
def State.tallyCharge (s : State) (p : Fin 16) (n amount : Nat) : State :=
  match s.points.tally with
  | some t =>
    if t.point = p then
      { s with points := { s.points with tally := some { t with units := t.units + n, amount := t.amount + amount } } }
    else s
  | none => s

/-- CHARGE (R30): the CHARGE in progress completes. An UNBIND's tally takes the whole amount n x price, of a clamped CHARGE too
(R29, R68; log entry 33). -/
def execCharge (s : State) : Host.Outcome State Fault Refusal :=
  .next
    (match s.engine.op with
    | .busy (.charge p n slot price) =>
      (((s.freeEngine.takeCharge slot (n * price)).reducePending p n).tallyCharge p n (n * price)).retestWait
    | _ => s)

/-- STANDING's conditions on the slot (R31). -/
def owesStanding (a : Account) (standingCharge : Nat) : Bool :=
  (a.status == .active || a.status == .suspended) && 1 ≤ a.boundCount && 0 < standingCharge

/-- STANDING (R31, R90): the STANDING in progress completes, and the sweep moves on. -/
def execStanding (s : State) : Host.Outcome State Fault Refusal :=
  .next
    (match s.engine.op with
    | .busy (.standing slot standingCharge) =>
      let t := s.freeEngine
      let u := if owesStanding (s.slot slot) standingCharge then t.takeCharge slot standingCharge else t
      u.advanceSweep.retestWait
    | _ => s)

/-- GATHER (R42, R178): the GATHER in progress completes. -/
def execGather (s : State) : Host.Outcome State Fault Refusal :=
  .next
    (match s.engine.op with
    | .busy (.gather page) =>
      match accountPage page with
      | some k => (s.freeEngine.fixSnapshot page (s.gatherAccounts k)).retestWait
      | none => s
    | _ => s)

end Sys2Proof.Machine
end

