-- ==== Sys2Proof/Machine/Meters.lean ====
section
/-! DEFINITION. The meter rows (section 3.2): METER_LINE_CHANGE, DEBOUNCE_COMPLETE. -/

namespace Sys2Proof.Machine

/-- METER_LINE_CHANGE (R50, R51): the level on MTRp changes. In RESET, and in LOADING before the settings page, only the
level of the pin changes. -/
def execMeterLineChange (p : Fin 16) (s : State) : Host.Outcome State Fault Refusal :=
  .next (s.setPoint p ((s.point p).lineChanged s.debouncing s.countsEdges))

/-- DEBOUNCE_COMPLETE (R51, R52, R53): the excursion being timed at point p has lasted the debounce time. A unit can only
end CHARGES_CLEAR, so no WAIT completes here (R108). -/
def execDebounceComplete (p : Fin 16) (s : State) : Host.Outcome State Fault Refusal :=
  .next
    (if s.debouncing ∧ (s.point p).excursion then s.setPoint p ((s.point p).completeEdge s.countsEdges) else s)

end Sys2Proof.Machine
end

