-- ==== Sys2Proof/Machine/PointCommands.lean ====
section
/-! DEFINITION. The point commands (section 3.7): BIND, UNBIND, UNBIND_DETACH, CONFIGURE_POINT, HOLD, RELEASE, QUERY_POINT,
SET_DEFER. -/

namespace Sys2Proof.Machine

/-- The point a command names; BAD_FIELD with every field 0 for a number above 15 (R66). -/
def State.withPoint (s : State) (field : Word) (f : Fin 16 → State × Answer) : State × Answer :=
  match pointField field with
  | some p => f p
  | none => (s, { status := .badField })

/-- A bound point; WRONG_STATE with the point block for a DETACHED one (R66). -/
def State.withBoundPoint (s : State) (field : Word) (f : Fin 16 → State × Answer) : State × Answer :=
  s.withPoint field fun p =>
    if (s.point p).state = .detached then (s, s.pointAnswer .wrongState p) else f p

/-- The settings page is reported as an urgent change (R48). -/
def State.reportSettings (s : State) : State := s.report settingsPage true

/-! ### BIND -/

/-- BIND's refusal at its start (R67): a point number above 15, or a point that is not DETACHED. -/
def bindRefusal (f : Vector Word 7) (s : State) : State × Answer :=
  s.withPoint f[0] fun p => (s, s.pointAnswer .wrongState p)

/-- The slot's bound count rises, and the point takes the binding (R67 steps 2 to 5). -/
def State.bindPoint (s : State) (p : Fin 16) (slot : Fin 64) : State :=
  let a := s.slot slot
  (State.setPoint (s.setSlot slot { a with boundCount := a.boundCount + 1 }) p
    ((s.point p).bound slot a.status a.level)).reportSettings

/-- BIND's engine operation (R67, R40). -/
def bindEffect (f : Vector Word 7) (s : State) : State × Answer :=
  s.withPoint f[0] fun p =>
    if (s.point p).state ≠ .detached then (s, s.pointAnswer .wrongState p)
    else
      match digits8 f[1] with
      | none => (s, s.pointAnswer .badField p)
      | some number =>
        match s.lookup number with
        | none => (s, { s.pointAnswer .notFound p with number := bcdWord number })
        | some slot =>
          let t := s.bindPoint p slot
          (t, { t.pointAnswer .done p with
            slot := slotByte slot, number := bcdWord number, packed := packedField (t.slot slot) })

/-- BIND (R67): the operation granted completes; a BIND refused at its start posts its refusal. -/
def execBind (s : State) : Host.Outcome State Fault Refusal :=
  .next
    (match s.engine.op with
    | .busy (.command cmd _) => if cmd.code = 0x10 then s.completeCommand 0x10 bindEffect else s.takeCommand 0x10 bindRefusal
    | _ => s.takeCommand 0x10 bindRefusal)

/-! ### UNBIND -/

/-- UNBIND of a bound point (R68): its detach is requested, and the tally starts. -/
def State.startUnbind (s : State) (cmd : QueuedCommand) (p : Fin 16) : State :=
  { s with
    points.tally := some { point := p, units := 0, amount := 0 }
    proc.executing := some { cmd, phase := .requested } }

/-- UNBIND (R68): the command handed over starts, or is refused. -/
def execUnbind (s : State) : Host.Outcome State Fault Refusal :=
  .next
    (match s.proc.executing with
    | some { cmd, phase := .handed } =>
      if cmd.code = 0x11 then
        match pointField cmd.params[0] with
        | none => s.post cmd { status := .badField }
        | some p =>
          if (s.point p).state = .detached then s.post cmd (s.pointAnswer .wrongState p) else s.startUnbind cmd p
      else s
    | _ => s)

/-- The units and the amount of the tally for a point (R68). -/
def State.tallyOf (s : State) (p : Fin 16) : Nat × Nat :=
  match s.points.tally with
  | some t => if t.point = p then (t.units, t.amount) else (0, 0)
  | none => (0, 0)

/-- The amount an UNBIND result shows: the tally's, in ten digits (R70, R204; log entry 15). -/
def shownAmount (amount : Nat) : Int :=
  if (amount : Int) ≤ Config.maxBalance then amount else (Config.tallyBeyondTenDigits amount).val

/-- The detach of a bound point (R70). -/
def State.detachPoint (s : State) (p : Fin 16) (slot : Fin 64) : State :=
  let a := s.slot slot
  (State.setPoint (s.setSlot slot { a with boundCount := a.boundCount - 1 }) p (s.point p).detached).reportSettings

/-- The answer of a detach (R70, R204). -/
def State.detachAnswer (s : State) (p : Fin 16) (slot : Fin 64) (discarded : Nat) (tally : Nat × Nat) : Answer :=
  { s.pointAnswer .done p with
    slot := slotByte slot, balance := shownAmount tally.2,
    extraB := BitVec.ofNat 32 (tally.1 % 2 ^ 16 + discarded * 2 ^ 16) }

/-- UNBIND's engine operation (R70, R40). -/
def unbindEffect (f : Vector Word 7) (s : State) : State × Answer :=
  s.withBoundPoint f[0] fun p =>
    match (s.point p).binding with
    | none => (s, s.pointAnswer .wrongState p)
    | some slot =>
      let t := s.detachPoint p slot
      (t, t.detachAnswer p slot (s.point p).pending (s.tallyOf p))

/-- The engine is completing the detach of the UNBIND that is executing, not one that a PORT RESET abandoned. -/
def State.detachOwned (s : State) : Bool :=
  match s.engine.op with
  | .busy (.command cmd owned) => owned && cmd.code == 0x11
  | _ => false

/-- UNBIND_DETACH (R70, R72): the granted detach completes, and the tally ends with its command. -/
def execUnbindDetach (s : State) : Host.Outcome State Fault Refusal :=
  .next
    (let t := s.completeCommand 0x11 unbindEffect
    if s.detachOwned then { t with points.tally := none } else t)

/-! ### The commands without an engine operation -/

/-- The five staged fields of CONFIGURE_POINT; none when one is out of range (R66, R73, R203). -/
def configFields (f : Vector Word 7) : Option PointConfig := do
  let edgeMode ← EdgeMode.ofCode (bits f[1] 0 8)
  let debounce ← Debounce.ofCode (bits f[1] 16 8)
  let restore ← RestoreMode.ofCode (bits f[1] 24 8)
  if 1 ≤ bits f[1] 8 8 ∧ bits f[1] 8 8 ≤ 16 then
    some { edgeMode, prescale := bits f[1] 8 8, debounce, grace := bits f[2] 0 16, restore }
  else none

/-- An accepted CONFIGURE_POINT (R73, R51). -/
def Point.reconfigured (config : PointConfig) (p : Point) : Point :=
  Point.retakeLevel { p with config, edgeCounter := 0 }

/-- CONFIGURE_POINT (R73). -/
def configureEffect (f : Vector Word 7) (s : State) : State × Answer :=
  s.withPoint f[0] fun p =>
    match configFields f with
    | none => (s, s.pointAnswer .badField p)
    | some config =>
      let t := (s.setPoint p ((s.point p).reconfigured config)).reportSettings
      (t, t.pointAnswer .done p)

def execConfigurePoint (s : State) : Host.Outcome State Fault Refusal := .next (s.takeCommand 0x12 configureEffect)

/-- HOLD (R74). -/
def holdEffect (f : Vector Word 7) (s : State) : State × Answer :=
  s.withBoundPoint f[0] fun p =>
    let t := s.setPoint p (s.point p).held
    (t, t.pointAnswer .done p)

def execHold (s : State) : Host.Outcome State Fault Refusal := .next (s.takeCommand 0x13 holdEffect)

/-- RELEASE (R75). -/
def releaseEffect (f : Vector Word 7) (s : State) : State × Answer :=
  s.withBoundPoint f[0] fun p =>
    let t := s.setPoint p (s.point p).released
    (t, t.pointAnswer .done p)

def execRelease (s : State) : Host.Outcome State Fault Refusal := .next (s.takeCommand 0x14 releaseEffect)

/-- The number field of a QUERY_POINT result: the configuration (R204). -/
def configWord (c : PointConfig) : Word :=
  BitVec.ofNat 32
    (c.grace + c.prescale * 2 ^ 16 + c.edgeMode.code * 2 ^ 21 + c.debounce.code * 2 ^ 24 + c.restore.code * 2 ^ 26)

/-- The slot field of a QUERY_POINT result: the binding, or FFh (R204). -/
def bindingByte (binding : Option (Fin 64)) : Byte :=
  match binding with
  | some slot => slotByte slot
  | none => 0xFF

/-- QUERY_POINT (R76). -/
def queryPointEffect (f : Vector Word 7) (s : State) : State × Answer :=
  s.withPoint f[0] fun p =>
    (s, { s.pointAnswer .done p with
      slot := bindingByte (s.point p).binding, number := configWord (s.point p).config,
      extraB := BitVec.ofNat 32 (s.point p).graceRemaining })

def execQueryPoint (s : State) : Host.Outcome State Fault Refusal := .next (s.takeCommand 0x15 queryPointEffect)

/-- The cut-deferral flag is written; turning it off cuts every point in GRACE with remaining 0 (R69). -/
def State.setDeferral (s : State) (on : Bool) : State :=
  if on = s.points.deferral then s
  else if on then { s with points.deferral := true }
  else { s.mapPoints (Point.graceExpired false) with
    points := { (s.mapPoints (Point.graceExpired false)).points with deferral := false } }

/-- SET_DEFER (R69). -/
def setDeferEffect (f : Vector Word 7) (s : State) : State × Answer :=
  match forceField f[0] with
  | none => (s, { status := .badField })
  | some on => (s.setDeferral on, { status := .done, extraA := if on then 1 else 0 })

def execSetDefer (s : State) : Host.Outcome State Fault Refusal := .next (s.takeCommand 0x16 setDeferEffect)

end Sys2Proof.Machine
end

