-- ==== Sys2Proof/Machine/RunControl.lean ====
section
/-! DEFINITION. The Run Controller's rows (chapter 10) and load (section 9.6): RESET, LOADING_START, LOAD_SETTINGS_PAGE,
LOAD_ACCOUNT_PAGE, ENTRY_TO_HOLDUP, ENTRY_TO_SAFE, RETURN_TO_RUN. -/

namespace Sys2Proof.Machine

/-! ### Reset (R190) -/

/-- Every volatile field of every block at its reset value, and a transaction in progress at the register port dropped (R200).
The levels of the pins, the NV array and the model's own fields are not volatile fields of a block. -/
def State.volatileReset (s : State) : State :=
  { s with
    engine := AccountEngine.atReset
    points := { PointController.atReset with points := s.points.points.map fun p => { line := p.line } }
    timer := PeriodTimer.atReset
    proc := CommandProcessor.atReset
    port := TopUpPort.atReset
    notice := NoticeController.atReset
    commit := CommitEngine.atReset
    spi := { s.spi with transaction := none }
    readData := 0 }

/-- The page whose erase or program a reset interrupts (R171, R190). A page in VERIFY is not harmed: R171 has it hold the
snapshot, or be damaged already. R209 has a page that load found damaged load as damaged until its commit has verified; at a
reset in VERIFY after a program that succeeded the model follows R171 (DESIGN CHOICE, log entry 32; unsafe). -/
def CommitPhase.interrupted : CommitPhase → Option (Fin 9)
  | .erase page => some page
  | .program page => some page
  | _ => none

/-- The array after a reset: a page in ERASE or PROGRAM is left damaged, and every other page as it was (R171, R190). -/
def State.resetArray (s : State) : Vector NvPage 9 :=
  match s.commit.phase.interrupted with
  | some page => s.nv.set page .damaged
  | none => s.nv

/-- RESET (R190). -/
def execReset (s : State) : Host.Outcome State Fault Refusal :=
  .next { s.volatileReset with run := { s.run with runState := .reset, loadPage := 0 }, nv := s.resetArray }

/-- LOADING_START (R190, R185): every volatile field takes its reset value, and load begins with the settings page. -/
def execLoadingStart (s : State) : Host.Outcome State Fault Refusal :=
  .next
    (if s.run.runState = .reset then
      { s.volatileReset with run := { s.run with runState := .loading, loadPage := settingsPage } }
    else s)

/-! ### The settings page (R186) -/

/-- A stored binding: none, or a slot; a slot above 63 loads as none. -/
def loadBinding (stored : Option Byte) : Option (Fin 64) :=
  match stored with
  | some b => if h : b.toNat < 64 then some ⟨b.toNat, h⟩ else none
  | none => none

def loadPrescale (stored : Byte) : Option Nat :=
  if 1 ≤ stored.toNat ∧ stored.toNat ≤ 16 then some stored.toNat else none

/-- The stored period length, when it is usable (R85). -/
def loadPeriod (stored : Word) : Option Nat :=
  if 60 ≤ stored.toNat ∧ stored.toNat ≤ 86400 then some stored.toNat else none

def loadInterval (stored : Byte) : Option Nat := if stored.toNat = 0 then none else some stored.toNat

/-- The stored enable, when it is usable (R137). -/
def loadEnable (stored : Byte) : Option Bool :=
  if stored.toNat = 0 then some false else if stored.toNat = 1 then some true else none

/-- The stored bus address, when it is usable (R137). -/
def loadAddress (stored : Byte) : Option (BitVec 7) :=
  if 0x08 ≤ stored.toNat ∧ stored.toNat ≤ 0x77 then some (BitVec.ofNat 7 stored.toNat) else none

/-- The configuration a stored point loads as, each unusable field at its default. -/
def loadConfig (stored : StoredPoint) : PointConfig :=
  { edgeMode := (EdgeMode.ofCode stored.edgeMode.toNat).getD .rise
    prescale := (loadPrescale stored.prescale).getD 1
    debounce := (Debounce.ofCode stored.debounce.toNat).getD .ms1
    grace := stored.grace.toNat
    restore := (RestoreMode.ofCode stored.restore.toNat).getD .automatic }

def StoredPoint.unusable (stored : StoredPoint) : Bool :=
  (stored.binding.isSome && (loadBinding stored.binding).isNone) ||
    (EdgeMode.ofCode stored.edgeMode.toNat).isNone || (loadPrescale stored.prescale).isNone ||
    (Debounce.ofCode stored.debounce.toNat).isNone || (RestoreMode.ofCode stored.restore.toNat).isNone

/-- The tariff a stored tariff loads as; a field with a bad digit loads as 0 (R79). -/
def loadTariff (stored : StoredTariff) : Tariff :=
  { priceA := (bcdValue 6 stored.priceA.toNat).getD 0, priceB := (bcdValue 6 stored.priceB.toNat).getD 0,
    standing := (bcdValue 6 stored.standing.toNat).getD 0 }

def StoredTariff.unusable (stored : StoredTariff) : Bool :=
  (bcdValue 6 stored.priceA.toNat).isNone || (bcdValue 6 stored.priceB.toNat).isNone ||
    (bcdValue 6 stored.standing.toNat).isNone

/-- Some field of the page is unusable. -/
def StoredSettings.unusable (stored : StoredSettings) : Bool :=
  stored.points.toList.any StoredPoint.unusable || stored.tariffs.toList.any StoredTariff.unusable ||
    (loadPeriod stored.periodLength).isNone || (loadInterval stored.interval).isNone ||
    (loadEnable stored.enable).isNone || (loadAddress stored.address).isNone ||
    (bcdValue 8 stored.maximum.toNat).isNone

/-- The page whose every field holds its default (R186). -/
def defaultSettings : StoredSettings :=
  { points := Vector.replicate 16
      { binding := none, edgeMode := 0, prescale := 1, debounce := 1, grace := 300, restore := 0 }
    tariffs := Vector.replicate 8 { priceA := 0, priceB := 0, standing := 0 }
    periodLength := 3600
    interval := 60
    enable := 0
    address := 0x3A
    maximum := 0 }

/-- A point takes its stored configuration: HELD with the view not loaded when it has a binding, DETACHED otherwise; its
debouncer starts at the line's present level (R77, R50). -/
def Point.configured (stored : StoredPoint) (p : Point) : Point :=
  { p with
    binding := loadBinding stored.binding
    config := loadConfig stored
    state := if (loadBinding stored.binding).isSome then .held else .detached
    view := none
    debounced := p.line
    excursion := false }

/-- The settings are written into their owning blocks as one step (R186). -/
def State.takeSettings (s : State) (stored : StoredSettings) : State :=
  { s with
    points.points := Vector.ofFn fun i => (s.point i).configured stored.points[i]
    timer.tariffs := stored.tariffs.map loadTariff
    timer.periodLength := (loadPeriod stored.periodLength).getD 3600
    commit.interval := (loadInterval stored.interval).getD 60
    port.enabled := (loadEnable stored.enable).getD false
    port.address := (loadAddress stored.address).getD 0x3A
    port.maximum := (bcdValue 8 stored.maximum.toNat).getD 0 }

/-- Load has found damage (R164). -/
def State.setLoadDamage (s : State) : State := { s with notice.errors.loadDamage := true }

/-- Damage or an unusable field on the settings page: LOAD_DAMAGE, and an urgent report of the page (R186). -/
def State.settingsDamaged (s : State) : State := s.setLoadDamage.report settingsPage true

/-- The settings page applied by its class (R186). -/
def State.applySettingsPage (s : State) : State :=
  match s.nv[settingsPage] with
  | .erased => s.takeSettings defaultSettings
  | .good (.settings stored) =>
    if stored.unusable then (s.takeSettings stored).settingsDamaged else s.takeSettings stored
  | .good (.accounts _) => (s.takeSettings defaultSettings).settingsDamaged
  | .damaged => (s.takeSettings defaultSettings).settingsDamaged

/-- LOAD_SETTINGS_PAGE (R186, R77): the first page of load; account page 0 is next (R185). -/
def execLoadSettingsPage (s : State) : Host.Outcome State Fault Refusal :=
  .next
    (if s.run.runState = .loading ∧ s.run.loadPage = settingsPage then
      { s.applySettingsPage with run := { s.run with loadPage := 0 } }
    else s)

/-! ### Account pages (R187, R9) -/

/-- The fields of a stored record, each bad digit read as 0 and a tariff above 7 as 0, with the status given. -/
def loadRecord (stored : StoredAccount) (status : Status) : Account :=
  Account.relevelled
    { number := bcdMended 8 stored.number.toNat, status,
      balance := signed stored.sign.toNat (bcdMended 10 stored.balance.toNat), ec := bcdMended 8 stored.ec.toNat,
      low := bcdMended 8 stored.low.toNat, tariff := (tariffIndex stored.tariff.toNat).getD 0, level := .normal,
      boundCount := 0 }

/-- No BCD field of the stored record holds a bad digit, and its tariff is in range (R9, second cause). -/
def StoredAccount.sound (stored : StoredAccount) : Bool :=
  (bcdValue 8 stored.number.toNat).isSome && (bcdValue 10 stored.balance.toNat).isSome &&
    (bcdValue 8 stored.ec.toNat).isSome && (bcdValue 8 stored.low.toNat).isSome && stored.tariff.toNat < 8

/-- A slot loads QUARANTINED with the record given, and joins the attention list (R9, R22). -/
def State.quarantine (s : State) (slot : Fin 64) (a : Account) : State :=
  (s.setSlot slot { a with status := .quarantined }).addReasons slot { quarantine := true }

/-- A slot stored ACTIVE or SUSPENDED (R9): an account with its directory entry, or quarantined as damage. -/
def State.loadAccount (s : State) (slot : Fin 64) (stored : StoredAccount) (status : Status) : State :=
  let a := loadRecord stored status
  if stored.sound ∧ a.number ≠ 0 ∧ s.lookup a.number = none then
    (s.setSlot slot a).insertDirectory a.number slot
  else (s.quarantine slot a).setLoadDamage

/-- One slot of a good page (R9). -/
def State.loadSlot (s : State) (slot : Fin 64) (stored : StoredAccount) : State :=
  if stored.status.toNat = 0 then s.setSlot slot Account.free
  else if stored.status.toNat = 1 then s.loadAccount slot stored .active
  else if stored.status.toNat = 2 then s.loadAccount slot stored .suspended
  else if stored.status.toNat = 3 then s.quarantine slot (loadRecord stored .quarantined)
  else (s.quarantine slot (loadRecord stored .quarantined)).setLoadDamage

/-- The zeroed record of a damaged page (R9, first cause): its level is LOW. -/
def zeroedRecord : Account := { Account.free with status := .quarantined, level := .low }

/-- The eight slots of a damaged page load QUARANTINED (R9, R187). -/
def State.quarantinePage (s : State) (page : Fin 8) : State :=
  (List.finRange 8).foldl (fun t j => (t.quarantine (slotAt page j) zeroedRecord).setLoadDamage) s

/-- A damaged page is marked until a commit of it verifies (R209). -/
def State.markDamaged (s : State) (page : Fin 9) : State :=
  { s with commit.unverified := s.commit.unverified ||| pageBit page }

/-- The eight slots of an account page applied in ascending order, by the page's class (R187). -/
def State.applyAccountPage (s : State) (page : Fin 8) : State :=
  match s.nv[page.castSucc] with
  | .erased => (List.finRange 8).foldl (fun t j => t.setSlot (slotAt page j) Account.free) s
  | .good (.accounts stored) => (List.finRange 8).foldl (fun t j => t.loadSlot (slotAt page j) stored[j]) s
  | .good (.settings _) => s.quarantinePage page
  | .damaged => (s.markDamaged page.castSucc).quarantinePage page

/-! ### Reconciling the points (R188, R78) -/

/-- The slot lies on the account page. -/
def onPage (page : Fin 8) (slot : Fin 64) : Bool := slot.val / 8 == page.val

/-- A point whose binding names a slot of the page loaded FREE. -/
def State.bindingLost (s : State) (page : Fin 8) (p : Point) : Bool :=
  match p.binding with
  | some slot => onPage page slot && (s.slot slot).status == .free
  | none => false

/-- A point after an account page has been applied (R78). -/
def State.reconciled (s : State) (page : Fin 8) (p : Point) : Point :=
  match p.binding with
  | some slot =>
    if onPage page slot then
      if (s.slot slot).status = .free then p.detached
      else p.notified s.points.deferral (s.slot slot).status (s.slot slot).level
    else p
  | none => p

/-- The number of points bound to a slot (R12). -/
def State.pointsBound (s : State) (slot : Fin 64) : Nat :=
  (List.finRange 16).countP fun p => (s.point p).binding == some slot

/-- The page's slots take their bound counts (R188). -/
def State.countBindings (s : State) (page : Fin 8) : State :=
  { s with engine.slots := Vector.ofFn fun i =>
      if onPage page i then { s.slot i with boundCount := s.pointsBound i } else s.slot i }

/-- The reconciliation of one load step: one urgent report of the settings page when a binding is cleared. -/
def State.reconcile (s : State) (page : Fin 8) : State :=
  let t := (s.mapPoints (s.reconciled page)).countBindings page
  if s.points.points.toList.any (s.bindingLost page) then t.report settingsPage true else t

/-! ### The end of load (R192) -/

/-- LOADING ends: the period counter is loaded, and the run state is RUN, or HOLDUP with its entry when PFW_N is
asserted. -/
def State.endLoading (s : State) : State :=
  let t := { s with timer.remaining := s.timer.periodLength, run.loadPage := 0 }
  if s.run.pfwAsserted then t.enterHoldup false else { t with run.runState := .run }

/-- LOAD_ACCOUNT_PAGE (R187, R188, R192). -/
def execLoadAccountPage (s : State) : Host.Outcome State Fault Refusal :=
  .next
    (match s.run.runState, accountPage s.run.loadPage with
    | .loading, some page =>
      let t := (s.applyAccountPage page).reconcile page
      if page = 7 then t.endLoading else { t with run.loadPage := page.succ }
    | _, _ => s)

/-! ### The power warning (R193 to R198) -/

/-- ENTRY_TO_HOLDUP (R193, R194): PFW_N is asserted. In RUN the part enters HOLDUP; in LOADING the level is read at the
end of load (R192); in the other run states nothing more happens. -/
def execEntryToHoldup (conditionFirst : Bool) (s : State) : Host.Outcome State Fault Refusal :=
  let t := { s with run.pfwAsserted := true }
  .next (if s.run.runState = .run then t.enterHoldup conditionFirst else t)

/-- The conditions of R196 hold together. -/
def State.holdupDone (s : State) : Bool :=
  s.dirtyPages.isEmpty && s.commit.phase == .idle && s.engine.op == .free && !s.requestWaits &&
    !s.chargeOutstanding && s.port.state != .applying && s.proc.executing.isNone

/-- ENTRY_TO_SAFE (R196, R169). -/
def execEntryToSafe (s : State) : Host.Outcome State Fault Refusal :=
  .next
    (if s.run.runState = .holdup ∧ s.holdupDone then { s with run.runState := .safe, notice.power := true } else s)

/-- The sweep at the return to RUN (R92). -/
def State.resumeSweep (s : State) : State :=
  match s.timer.sweep with
  | .paused => { s with timer.sweep := .running }
  | .running => s
  | .idle => if s.timer.owed then s.startSweep else s

/-- RETURN_TO_RUN (R193, R198): PFW_N is deasserted. -/
def execReturnToRun (s : State) : Host.Outcome State Fault Refusal :=
  let t := { s with run.pfwAsserted := false }
  .next (if s.warned then State.resumeSweep { t with run.runState := .run } else t)

end Sys2Proof.Machine
end

