-- ==== Sys2Proof/Machine/Settings.lean ====
section
/-! DEFINITION. The settings commands: SET_TARIFF (R83), SET_BAND (R82), SET_PERIOD (R87), SET_TOPUP (R138), SET_INTERVAL
(R182). A refusal's result carries the tag, code and status alone, but for SET_BAND's (R106, R82; log entry 16). -/

namespace Sys2Proof.Machine

/-- The staged fields of SET_TARIFF: prices first, then the index (R83). -/
def tariffFields (f : Vector Word 7) : Option (Fin 8 × Tariff) := do
  let priceA ← digits6 f[1]
  let priceB ← digits6 f[2]
  let standing ← digits6 f[3]
  let index ← tariffIndex (lowByte f[0])
  some (index, { priceA, priceB, standing })

/-- SET_TARIFF (R83). -/
def setTariffEffect (f : Vector Word 7) (s : State) : State × Answer :=
  match tariffFields f with
  | none => (s, { status := .badField })
  | some (index, t) =>
    (State.report { s with timer.tariffs := s.timer.tariffs.set index t } settingsPage true,
      { status := .done, slot := BitVec.ofNat 8 index.val, number := bcdWord t.standing, extraA := bcdWord t.priceA,
        extraB := bcdWord t.priceB })

def execSetTariff (s : State) : Host.Outcome State Fault Refusal := .next (s.takeCommand 0x18 setTariffEffect)

/-- A band code (R81). -/
def bandField (w : Word) : Option Band :=
  if lowByte w = 0 then some .a else if lowByte w = 1 then some .b else none

def Band.code : Band → Nat
  | .a => 0
  | .b => 1

/-- SET_BAND (R82): the result gives the band as it stands after the command, a refused one too (log entry 16). -/
def setBandEffect (f : Vector Word 7) (s : State) : State × Answer :=
  match bandField f[0] with
  | none => (s, { status := .badField, extraA := BitVec.ofNat 32 s.timer.band.code })
  | some band => ({ s with timer.band := band }, { status := .done, extraA := BitVec.ofNat 32 band.code })

def execSetBand (s : State) : Host.Outcome State Fault Refusal := .next (s.takeCommand 0x19 setBandEffect)

/-- SET_PERIOD (R87). -/
def setPeriodEffect (f : Vector Word 7) (s : State) : State × Answer :=
  if 60 ≤ f[0].toNat ∧ f[0].toNat ≤ 86400 then
    (State.report { s with timer.periodLength := f[0].toNat, timer.remaining := f[0].toNat } settingsPage true,
      { status := .done, extraA := f[0], extraB := f[0] })
  else (s, { status := .badField })

def execSetPeriod (s : State) : Host.Outcome State Fault Refusal := .next (s.takeCommand 0x1A setPeriodEffect)

/-- The staged fields of SET_TOPUP (R138, R203). -/
def topupFields (f : Vector Word 7) : Option (Bool × BitVec 7 × Nat) := do
  let enable ← forceField f[0]
  let maximum ← digits8 f[1]
  if 0x08 ≤ bits f[0] 8 8 ∧ bits f[0] 8 8 ≤ 0x77 then some (enable, BitVec.ofNat 7 (bits f[0] 8 8), maximum) else none

/-- SET_TOPUP (R138). -/
def setTopupEffect (f : Vector Word 7) (s : State) : State × Answer :=
  match topupFields f with
  | none => (s, { status := .badField })
  | some (enable, address, maximum) =>
    (State.report { s with port.enabled := enable, port.address := address, port.maximum := maximum } settingsPage true,
      { status := .done, extraA := BitVec.ofNat 32 (enable.toNat + address.toNat * 2 ^ 8), extraB := bcdWord maximum })

def execSetTopup (s : State) : Host.Outcome State Fault Refusal := .next (s.takeCommand 0x1C setTopupEffect)

/-- The routine pages at or above an interval, ascending (R182). -/
def State.routinePagesFrom (s : State) (interval : Nat) : List (Fin 9) :=
  (List.finRange 9).filter fun page =>
    match s.commit.dirty[page] with
    | some r => !r.urgent && decide (interval ≤ r.age)
    | none => false

/-- The commit interval is written, and the pages it makes due join the eligible list (R182). -/
def State.setInterval (s : State) (interval : Nat) : State :=
  { s with
    commit.interval := interval
    commit.eligible := (s.routinePagesFrom interval).foldl (fun pages page => joinEligible page pages) s.commit.eligible }

/-- SET_INTERVAL (R182). -/
def setIntervalEffect (f : Vector Word 7) (s : State) : State × Answer :=
  if 1 ≤ f[0].toNat ∧ f[0].toNat ≤ 255 then
    ((s.setInterval f[0].toNat).report settingsPage true, { status := .done, extraA := f[0] })
  else (s, { status := .badField })

def execSetInterval (s : State) : Host.Outcome State Fault Refusal := .next (s.takeCommand 0x1D setIntervalEffect)

end Sys2Proof.Machine
end

