-- ==== Sys2Proof/Machine/Notices.lean ====
section
/-! DEFINITION. The Notice Controller's writes (chapter 8) and the event-flag write of a point: NOTICE_READY_WRITE,
NOTICE_ENABLE_WRITE, NOTICE_MODE_WRITE, NOTICE_DONE, ERRORS_WRITE, POINT_FLAGS_WRITE. The register port is not served in
RESET (log entry 31). -/

namespace Sys2Proof.Machine

/-- A write to NOTICE_READY: the latched sources written with one are cleared, a level source's place has no effect (R155,
R156). -/
def State.writeNoticeReady (s : State) (value : Word) : State :=
  { s with
    notice.power := s.notice.power && !value.getLsbD 0
    notice.topup := s.notice.topup && !value.getLsbD 19
    notice.commit := s.notice.commit && !value.getLsbD 20
    notice.mark := s.notice.mark && !value.getLsbD 21 }

/-- NOTICE_READY_WRITE (R155, R156). -/
def execNoticeReadyWrite (value : Word) (s : State) : Host.Outcome State Fault Refusal :=
  .next (if s.served then s.writeNoticeReady value else s)

/-- A write to NOTICE_ENABLE (R157). -/
def State.writeNoticeEnable (s : State) (value : Word) : State := { s with notice.enables := value.truncate 23 }

/-- NOTICE_ENABLE_WRITE (R157). -/
def execNoticeEnableWrite (value : Word) (s : State) : Host.Outcome State Fault Refusal :=
  .next (if s.served then s.writeNoticeEnable value else s)

/-- A write to NOTICE_MODE (R158). -/
def State.writeNoticeMode (s : State) (value : Word) : State :=
  if value.getLsbD 0 then
    match s.notice.mode with
    | .vectored => s
    | .summary => { s with notice.mode := .vectored, notice.stack := [] }
  else { s with notice.mode := .summary, notice.stack := [] }

/-- NOTICE_MODE_WRITE (R158). -/
def execNoticeModeWrite (value : Word) (s : State) : Host.Outcome State Fault Refusal :=
  .next (if s.served then s.writeNoticeMode value else s)

/-- A write to NOTICE_DONE (R159, R163). -/
def State.writeNoticeDone (s : State) : State :=
  match s.notice.mode with
  | .vectored => { s with notice.stack := s.notice.stack.tail }
  | .summary => s

/-- NOTICE_DONE: the value written is ignored (R163). -/
def execNoticeDone (_value : Word) (s : State) : Host.Outcome State Fault Refusal :=
  .next (if s.served then s.writeNoticeDone else s)

/-- The sticky errors after a write to ERRORS: each flag written with one is cleared (R164, R201). -/
def StickyErrors.cleared (e : StickyErrors) (value : Word) : StickyErrors :=
  { queueOverflow := e.queueOverflow && !value.getLsbD 0, resultUnderflow := e.resultUnderflow && !value.getLsbD 1,
    sweepLate := e.sweepLate && !value.getLsbD 2, nvFault := e.nvFault && !value.getLsbD 3,
    loadDamage := e.loadDamage && !value.getLsbD 4, badRegister := e.badRegister && !value.getLsbD 5 }

def State.writeErrors (s : State) (value : Word) : State := { s with notice.errors := s.notice.errors.cleared value }

/-- ERRORS_WRITE (R164). -/
def execErrorsWrite (value : Word) (s : State) : Host.Outcome State Fault Refusal :=
  .next (if s.served then s.writeErrors value else s)

/-- A write to POINTp (R64, R205). -/
def State.writePointFlags (s : State) (p : Fin 16) (value : Word) : State :=
  s.setPoint p { s.point p with flags := (s.point p).flags.cleared value }

/-- POINT_FLAGS_WRITE (R64, R205). -/
def execPointFlagsWrite (p : Fin 16) (value : Word) (s : State) : Host.Outcome State Fault Refusal :=
  .next (if s.served then s.writePointFlags p value else s)

end Sys2Proof.Machine
end

