-- ==== Sys2Proof/Machine/Queue.lean ====
section
/-! DEFINITION. The Command Processor's rows (chapter 5): SUBMIT, COMMAND_START, BAD_COMMAND, POP, PURGE, PORT_RESET, WAIT,
MARK. -/

namespace Sys2Proof.Machine

/-- SUBMIT (R96): a new entry at the tail, or QUEUE_OVERFLOW. -/
def State.submitted (s : State) (value : Word) : State :=
  if s.proc.queue.length < Config.queueSize then
    { s with proc.queue := s.proc.queue ++
        [{ code := BitVec.ofNat 8 (bits value 0 8), tag := BitVec.ofNat 8 (bits value 8 8), params := s.proc.staging }] }
  else { s with notice.errors.queueOverflow := true }

def execSubmit (value : Word) (s : State) : Host.Outcome State Fault Refusal :=
  .next (if s.served then s.submitted value else s)

/-- The three conditions of a start (R99). -/
def State.canStart (s : State) : Bool :=
  s.run.runState == .run && s.proc.executing.isNone && decide (s.proc.results.length < Config.resultSize)

/-- BIND's test at its start: the point is in range and DETACHED (R67). -/
def State.bindAdmitted (s : State) (cmd : QueuedCommand) : Bool :=
  match pointField cmd.params[0] with
  | some p => (s.point p).state == .detached
  | none => false

/-- What a started command waits for: its engine operation is requested at once (R114, R67), or it is handed to its owning
block, which takes it in the step of the command's own row (R100; log entry 13). -/
def State.startPhase (s : State) (cmd : QueuedCommand) : ExecutionPhase :=
  if isAccountCommand cmd.code.toNat then .requested
  else if cmd.code = 0x10 ∧ s.bindAdmitted cmd then .requested
  else .handed

/-- COMMAND_START (R99, R100). -/
def execCommandStart (s : State) : Host.Outcome State Fault Refusal :=
  .next
    (match s.proc.queue with
    | cmd :: rest =>
      if s.canStart then
        { s with proc := { s.proc with queue := rest, executing := some { cmd, phase := s.startPhase cmd } } }
      else s
    | [] => s)

/-- BAD_COMMAND (R101): a started command whose code is no command code. -/
def execBadCommand (s : State) : Host.Outcome State Fault Refusal :=
  .next
    (match s.proc.executing with
    | some { cmd, phase := .handed } =>
      if cmd.code.toNat ∈ commandCodes then s else s.post cmd { status := .badCommand }
    | _ => s)

/-- POP (R104). -/
def State.popped (s : State) : State :=
  match s.proc.results with
  | _ :: rest => { s with proc.results := rest }
  | [] => { s with notice.errors.resultUnderflow := true }

/-- POP: the value written is ignored (R104). -/
def execPop (_value : Word) (s : State) : Host.Outcome State Fault Refusal :=
  .next (if s.served then s.popped else s)

/-- PURGE (R111): the queue is emptied, and a WAIT ends with PURGED. -/
def State.purged (s : State) : State :=
  let t := s.settleHandedWait
  State.breakWait { t with proc := { t.proc with queue := [] } } .purged

/-- A granted operation whose requester a PORT RESET takes away: it completes unanswered (R45). -/
def EngineOperation.disowned : EngineOperation → EngineOperation
  | .applyFrame request _ => .applyFrame request false
  | .command cmd _ => .command cmd false
  | .charge p n slot price => .charge p n slot price
  | .gather page => .gather page
  | .standing slot standingCharge => .standing slot standingCharge

def EngineState.disowned : EngineState → EngineState
  | .busy op => .busy op.disowned
  | .free => .free

/-- PORT RESET of the Top-up Port (R153): the configuration is kept, and so is a start whose address byte has yet to come (log
entry 34). -/
def TopUpPort.portReset (port : TopUpPort) : TopUpPort :=
  { TopUpPort.atReset with
    awaitsAddress := port.awaitsAddress, enabled := port.enabled, address := port.address, maximum := port.maximum }

/-- PORT RESET (R199): the Command Processor (R113), the Notice Controller (R168) and the Top-up Port (R153), with what
they had handed to others: engine operations (R45), an UNBIND's tally (R72), a COMMIT's wanted marks (R184). -/
def State.portReset (s : State) : State :=
  { s with
    proc := CommandProcessor.atReset
    notice := NoticeController.atReset
    port := s.port.portReset
    engine.op := s.engine.op.disowned
    points.tally := none
    commit.wanted := none }

/-- A write to CONTROL: PORT_RESET alone when both bits are set, nothing when neither is (R201, R111). -/
def State.controlWrite (s : State) (value : Word) : State :=
  if value.getLsbD 1 then s.portReset
  else if value.getLsbD 0 then s.purged
  else s

/-- PURGE (R111). -/
def execPurge (value : Word) (s : State) : Host.Outcome State Fault Refusal :=
  .next (if s.served then s.controlWrite value else s)

/-- PORT_RESET (R199). -/
def execPortReset (value : Word) (s : State) : Host.Outcome State Fault Refusal :=
  .next (if s.served then s.controlWrite value else s)

/-- WAIT (R107): the start of a WAIT that has been handed over. -/
def execWait (s : State) : Host.Outcome State Fault Refusal :=
  .next
    (match s.proc.executing with
    | some { cmd, phase := .handed } => if cmd.code = 0x21 then s.startWait cmd else s
    | _ => s)

/-- MARK's three effects (R110). -/
def markEffect (f : Vector Word 7) (s : State) : State × Answer :=
  ({ s with proc.mark := f[0], notice.mark := true }, { status := .done, extraA := f[0] })

/-- MARK (R110). -/
def execMark (s : State) : Host.Outcome State Fault Refusal := .next (s.takeCommand 0x22 markEffect)

end Sys2Proof.Machine
end

