-- ==== Sys2Proof/Machine/RegisterPort.lean ====
section
/-! DEFINITION. The register window (chapter 11): the value of every register (R201, R204, R205), a read with its effects,
a write by offset, and the rows NOTICE_TAKE, UNASSIGNED_READ, REGISTER_WRITE. -/

namespace Sys2Proof.Machine

/-! ### Values -/

/-- The registers RESULT0 to RESULT6 of a record (R204). -/
def Result.word (r : Result) (n : Nat) : Word :=
  match n with
  | 0 => BitVec.ofNat 32 (r.tag.toNat + r.code.toNat * 2 ^ 8 + r.status.code * 2 ^ 16 + r.slot.toNat * 2 ^ 24)
  | 1 => r.number
  | 2 => moneyHigh r.balance
  | 3 => moneyLow r.balance
  | 4 => r.packed
  | 5 => r.extraA
  | _ => r.extraB

/-- RESULTn: the head record, or 0 while no result is held (R103). -/
def State.resultRegister (s : State) (n : Nat) : Word :=
  match s.proc.results with
  | r :: _ => r.word n
  | [] => 0

/-- QUEUE (R97). -/
def State.queueRegister (s : State) : Word :=
  let tag := match s.proc.executing with
    | some e => e.cmd.tag.toNat
    | none => 0
  BitVec.ofNat 32 (Config.queueSize - s.proc.queue.length + s.processorState.code * 2 ^ 8 + tag * 2 ^ 16)

/-- ERRORS (R201). -/
def StickyErrors.word (e : StickyErrors) : Word :=
  BitVec.ofNat 32
    (ofFlags [e.queueOverflow, e.resultUnderflow, e.sweepLate, e.nvFault, e.loadDamage, e.badRegister])

/-- The rank NOTICE_TAKE returns, or FFh (R159, R162). -/
def State.takenRank (s : State) : Nat :=
  match s.qualifying with
  | some rank => rank.val
  | none => 0xFF

def NoticeMode.code : NoticeMode → Nat
  | .summary => 0
  | .vectored => 1

/-- NOTICE_MODE (R158, R201). -/
def State.modeRegister (s : State) : Word :=
  let top := match s.notice.stack with
    | rank :: _ => rank.val
    | [] => 0xFF
  BitVec.ofNat 32 (s.notice.mode.code + top * 2 ^ 8 + s.notice.stack.length * 2 ^ 16)

/-- PERIOD (R86, R88, R201). -/
def State.periodRegister (s : State) : Word :=
  BitVec.ofNat 32
    (s.timer.remaining + (s.timer.sweep != .idle).toNat * 2 ^ 24 + s.timer.owed.toNat * 2 ^ 25)

/-- COMMIT_STATE (R172, R177, R181, R201). -/
def State.commitRegister (s : State) : Word :=
  let fault := match s.commit.faultPage with
    | some page => page.val
    | none => 0xF
  BitVec.ofNat 32
    (ofFlags ((List.finRange 9).map fun page => s.commit.dirty[page].isSome) + s.commit.phase.code * 2 ^ 12 +
      fault * 2 ^ 16)

/-- POINTp (R205). -/
def Point.word (p : Point) : Word :=
  BitVec.ofNat 32
    (p.graceRemaining + p.pending * 2 ^ 16 +
      ofFlags [p.flags.grace, p.flags.cut, p.flags.awaiting, p.flags.locked, p.flags.stray] * 2 ^ 24 +
      p.state.code * 2 ^ 29)

/-- BAND_DEFER (R81, R63, R201). -/
def State.bandDeferRegister (s : State) : Word :=
  BitVec.ofNat 32 ((s.timer.band == .b).toNat + s.points.deferral.toNat * 2)

/-- The point whose register stands at an offset: 30h to 3Fh (R205). -/
def pointAt (offset : Nat) : Option (Fin 16) := if h : 0x30 ≤ offset ∧ offset < 0x40 then some ⟨offset - 0x30, by omega⟩ else none

/-- The staging register at an offset: 05h to 0Bh. -/
def stageAt (offset : Nat) : Option (Fin 7) := if h : 0x05 ≤ offset ∧ offset < 0x0C then some ⟨offset - 0x05, by omega⟩ else none

/-- The value a read of an offset takes (R201): 0 for a write-only register and for an offset the map does not assign. -/
def State.registerValue (s : State) (offset : Nat) : Word :=
  match stageAt offset, pointAt offset with
  | some n, _ => s.proc.staging[n]
  | none, some p => (s.point p).word
  | none, none =>
    if 0x0E ≤ offset ∧ offset ≤ 0x14 then s.resultRegister (offset - 0x0E)
    else
      match offset with
      | 0x00 => Config.partId
      | 0x01 => BitVec.ofNat 32 (s.run.runState.code + s.run.loadPage.val * 2 ^ 8)
      | 0x03 => s.notice.errors.word
      | 0x04 => s.queueRegister
      | 0x0D => BitVec.ofNat 32 s.proc.results.length
      | 0x16 => s.readyFlags.zeroExtend 32
      | 0x17 => s.notice.enables.zeroExtend 32
      | 0x18 => s.modeRegister
      | 0x19 => BitVec.ofNat 32 s.takenRank
      | 0x1B => s.proc.mark
      | 0x1C => s.periodRegister
      | 0x1D => s.commitRegister
      | 0x1E => BitVec.ofNat 32 (s.port.lastSlot.val + s.port.topupCount.toNat * 2 ^ 16)
      | 0x1F => moneyHigh s.port.lastAmount
      | 0x20 => moneyLow s.port.lastAmount
      | 0x21 => s.bandDeferRegister
      | _ => 0

/-! ### Reads (R200, R162, R166) -/

/-- The push a NOTICE_TAKE read makes: in VECTORED mode the rank found goes on top of the stack (R162); in SUMMARY nothing
is pushed (R159). -/
def State.pushTaken (s : State) : State :=
  match s.notice.mode, s.qualifying with
  | .vectored, some rank => { s with notice.stack := rank :: s.notice.stack }
  | _, _ => s

/-- The window refuses an access (R166). -/
def State.refuseAccess (s : State) : State := { s with notice.errors.badRegister := true }

/-- The offsets the register map assigns: 00h-21h and 30h-3Fh (R201). -/
def assignedOffset (offset : Nat) : Bool := decide (offset ≤ 0x21) || (pointAt offset).isSome

/-- The effects of a read of an offset (R200). -/
def State.readEffect (s : State) (offset : BitVec 7) : State :=
  if offset = 0x19 then s.pushTaken
  else if assignedOffset offset.toNat then s
  else s.refuseAccess

/-- A read of an offset: all 32 bits are taken at one moment, with the read's effects (R200). -/
def State.readRegister (s : State) (offset : BitVec 7) : State :=
  { s.readEffect offset with readData := s.registerValue offset.toNat }

/-- NOTICE_TAKE: the read of offset 19h (R159, R162). -/
def execNoticeTake (s : State) : Host.Outcome State Fault Refusal :=
  .next (if s.served then s.readRegister 0x19 else s)

/-- UNASSIGNED_READ (R166). For an assigned offset the command is the read of that register. -/
def execUnassignedRead (offset : BitVec 7) (s : State) : Host.Outcome State Fault Refusal :=
  .next (if s.served then s.readRegister offset else s)

/-! ### Writes (R95, R166, R201) -/

/-- A write to an offset: a register whose write is a row of its own acts as that row; STAGEn stores the value; a read-only
or unassigned offset sets BAD_REGISTER. -/
def State.writeRegister (s : State) (offset : Nat) (value : Word) : State :=
  match stageAt offset, pointAt offset with
  | some n, _ => { s with proc.staging := s.proc.staging.set n value }
  | none, some p => s.writePointFlags p value
  | none, none =>
    match offset with
    | 0x02 => s.controlWrite value
    | 0x03 => s.writeErrors value
    | 0x0C => s.submitted value
    | 0x15 => s.popped
    | 0x16 => s.writeNoticeReady value
    | 0x17 => s.writeNoticeEnable value
    | 0x18 => s.writeNoticeMode value
    | 0x1A => s.writeNoticeDone
    | _ => s.refuseAccess

/-- REGISTER_WRITE (R95, R166). -/
def execRegisterWrite (offset : BitVec 7) (value : Word) (s : State) : Host.Outcome State Fault Refusal :=
  .next (if s.served then s.writeRegister offset.toNat value else s)

end Sys2Proof.Machine
end

