-- ==== Sys2Proof/Machine/Spi.lean ====
section
/-! DEFINITION. An SPI transaction (R200): the command its bits on SDI carry, the bits the part sends on SDO, and the port edge
by edge. A transaction is one command of the queue, put there at the edge at which it acts (log entry 22). -/

namespace Sys2Proof.Machine

/-- The number whose bits are sampled, most significant first. -/
def bitsValue (sampled : List Bool) : Nat := sampled.foldl (fun v b => 2 * v + b.toNat) 0

/-- The command a register write is. -/
def writeCommand (offset : BitVec 7) (value : Word) : Instr :=
  match pointAt offset.toNat with
  | some p => .pointFlagsWrite p value
  | none =>
    match offset.toNat with
    | 0x02 => if value.getLsbD 1 then .portReset value else if value.getLsbD 0 then .purge value else .registerWrite offset value
    | 0x03 => .errorsWrite value
    | 0x0C => .submit value
    | 0x15 => .pop value
    | 0x16 => .noticeReadyWrite value
    | 0x17 => .noticeEnableWrite value
    | 0x18 => .noticeModeWrite value
    | 0x1A => .noticeDone value
    | _ => .registerWrite offset value

/-- The command a register read is. -/
def readCommand (offset : BitVec 7) : Instr := if offset = 0x19 then .noticeTake else .unassignedRead offset

/-- The command of a transaction, from the bits sampled on SDI between the fall and the rise of CS_N: a read acts once its
command byte is in, a write once bit 0 of its fourth data byte is in; a write cut short has no effect, and later bits are
ignored (R200). -/
def spiCommand (sdi : List Bool) : Option Instr :=
  let offset : BitVec 7 := BitVec.ofNat 7 (bitsValue ((sdi.drop 1).take 7))
  if sdi.length < 8 then none
  else if sdi.head? = some true then some (readCommand offset)
  else if sdi.length < 40 then none
  else some (writeCommand offset (BitVec.ofNat 32 (bitsValue ((sdi.drop 8).take 32))))

/-- The bit on SDO at place `n` of a transaction, counted from 0: 0 through the command byte, then for a read the 32 bits
taken, most significant first, then 0; a write sends 0 (R200). -/
def spiSdo (readData : Word) (isRead : Bool) (n : Nat) : Bool :=
  isRead && decide (8 ≤ n) && decide (n < 40) && readData.getMsbD (n - 8)

/-! ### The port edge by edge (R200) -/

/-- An edge on the port's pins: CS_N falls or rises, SCK rises with a level on SDI, SCK falls. -/
inductive SpiEdge where
  | select | deselect | clockRise (sdi : Bool) | clockFall
  deriving DecidableEq, Repr

/-- A bit is sampled; bits after the fortieth are ignored. -/
def SpiTransaction.sample (t : SpiTransaction) (sdi : Bool) : SpiTransaction :=
  if t.sampled.length < 40 then { t with sampled := t.sampled ++ [sdi] } else t

/-- The command that acts at the edge sampling `sdi`: a read at the last bit of the command byte, a write at bit 0 of the
fourth data byte. -/
def SpiTransaction.acts (t : SpiTransaction) (sdi : Bool) : Option Instr :=
  let sampled := t.sampled ++ [sdi]
  if (sampled.length = 8 ∧ sampled.head? = some true) ∨ (sampled.length = 40 ∧ sampled.head? = some false) then
    spiCommand sampled
  else none

/-- The port after an edge. In RESET only the level of CS_N is followed, and no transaction begins. -/
def State.spiEdge (s : State) (edge : SpiEdge) : State :=
  match edge with
  | .select =>
    { s with spi := { selected := true, transaction := if s.served then some { sampled := [], place := 0 } else none } }
  | .deselect => { s with spi := { selected := false, transaction := none } }
  | .clockRise sdi =>
    match s.served, s.spi.transaction with
    | true, some t =>
      { s with spi.transaction := some (t.sample sdi), pending := s.pending ++ (t.acts sdi).toList }
    | _, _ => s
  | .clockFall =>
    match s.served, s.spi.transaction with
    | true, some t => { s with spi.transaction := some { t with place := t.sampled.length } }
    | _, _ => s

/-- The port after a row of SCK pulses, one for each bit on SDI. -/
def State.spiClock (s : State) (sdi : List Bool) : State :=
  sdi.foldl (fun t bit => (t.spiEdge (.clockRise bit)).spiEdge .clockFall) s

/-- What the part does to SDO. -/
inductive SdoDrive where
  | undriven | driven (level : Bool)
  deriving DecidableEq, Repr

/-- SDO: driven while CS_N is low, released while it is high and in RESET (R190, R200). With CS_N low and no transaction the
level is free (log entry 35). -/
def State.sdo (s : State) : SdoDrive :=
  if s.served && s.spi.selected then
    match s.spi.transaction with
    | some t => .driven (spiSdo s.readData (t.sampled.head? == some true) t.place)
    | none => .driven (Config.sdoOutsideTransaction s.freeCount)
  else .undriven

end Sys2Proof.Machine
end

