-- ==== Sys2Proof/Machine/Ticks.lean ====
section
/-! DEFINITION. TICK and the four rows it can bring: PERIOD_BOUNDARY (R86, R89), GRACE_EXPIRY (R60),
ROUTINE_PAGE_ELIGIBLE (R174), WAIT_TIMEOUT (R108). A tick takes what it brings in its own step ("in the same step", R86);
each of the four rows acts when its count stands at its end (log entry 3). -/

namespace Sys2Proof.Machine

/-! ### Ages (R174) -/

/-- A routine record one tick older; urgent records are not aged. -/
def DirtyRecord.aged (r : DirtyRecord) : DirtyRecord :=
  if r.urgent then r else { r with age := min (r.age + 1) Config.maxAge }

/-- The next tick brings the record of the page to the commit interval, and the page is not in the eligible list. -/
def State.comesDue (s : State) (page : Fin 9) : Bool :=
  match s.commit.dirty[page] with
  | some r => !r.urgent && r.age + 1 == s.commit.interval && !s.commit.eligible.contains page
  | none => false

/-- A page placed in a list ascending by a key, after the pages of an equal key. -/
def insertByKey (key : Fin 9 → Nat) (page : Fin 9) : List (Fin 9) → List (Fin 9)
  | [] => [page]
  | q :: rest => if key q ≤ key page then q :: insertByKey key page rest else page :: q :: rest

/-- The pages that one tick makes due, in the order they join: ascending by the free key (log entry 5). -/
def agedOrder (key : Fin 9 → Nat) (pages : List (Fin 9)) : List (Fin 9) :=
  pages.foldl (fun sorted page => insertByKey key page sorted) []

/-- The Commit Engine takes a tick (R174). The free order is drawn when two or more pages come due together. -/
def State.tickCommit (s : State) : State :=
  let due := (List.finRange 9).filter s.comesDue
  { s with
    commit.dirty := s.commit.dirty.map (Option.map DirtyRecord.aged)
    commit.eligible := s.commit.eligible ++ agedOrder (Config.agedKey s.freeCount) due
    freeCount := if 2 ≤ due.length then s.freeCount + 1 else s.freeCount }

/-! ### The other blocks -/

/-- The period counter takes a tick (R86). -/
def State.tickPeriod (s : State) : State :=
  if s.timer.remaining ≤ 1 then s.takeBoundary else { s with timer.remaining := s.timer.remaining - 1 }

/-- A WAITING processor takes a tick (R108). -/
def State.tickWait (s : State) : State :=
  match s.proc.executing with
  | some { cmd, phase := .waiting w } =>
    if w.timeout = 0 then s
    else if w.remaining ≤ 1 then s.endWait cmd { w with remaining := 0 } .timeout
    else { s with proc.executing := some { cmd, phase := .waiting { w with remaining := w.remaining - 1 } } }
  | _ => s

/-- The points take a tick (R60). -/
def State.tickPoints (s : State) : State := s.mapPoints (Point.ticked s.points.deferral)

/-- TICK (R84, R86, R60, R174, R108). The period count, grace and a WAIT's timeout take it in RUN, HOLDUP and SAFE, the
ages in LOADING as well, nothing in RESET. `conditionFirst`: a boundary this tick brings reaches an executing WAIT before
the tick does (R108; log entry 4). -/
def execTick (conditionFirst : Bool) (s : State) : Host.Outcome State Fault Refusal :=
  .next
    (if s.operating then
      let t := s.tickPoints.tickCommit
      if conditionFirst then t.tickPeriod.tickWait else t.tickWait.tickPeriod
    else if s.run.runState = .loading then s.tickCommit
    else s)

/-- PERIOD_BOUNDARY (R86, R89): the count stands at 0 in a run state in which the counter runs. -/
def execPeriodBoundary (s : State) : Host.Outcome State Fault Refusal :=
  .next (if s.operating ∧ s.timer.remaining = 0 then s.takeBoundary else s)

/-- GRACE_EXPIRY (R60): the point stands in GRACE with remaining 0; while deferral is on it stays. -/
def execGraceExpiry (p : Fin 16) (s : State) : Host.Outcome State Fault Refusal :=
  .next (if s.operating then s.setPoint p ((s.point p).graceExpired s.points.deferral) else s)

/-- ROUTINE_PAGE_ELIGIBLE (R174): the routine record's age has reached the commit interval. -/
def execRoutinePageEligible (page : Fin 9) (s : State) : Host.Outcome State Fault Refusal :=
  .next
    (match s.commit.dirty[page] with
    | some r =>
      if r.urgent = false ∧ s.commit.interval ≤ r.age then
        { s with commit.eligible := joinEligible page s.commit.eligible }
      else s
    | none => s)

/-- WAIT_TIMEOUT (R108): the remaining timeout of an executing WAIT stands at 0. -/
def execWaitTimeout (s : State) : Host.Outcome State Fault Refusal :=
  .next
    (match s.proc.executing with
    | some { cmd, phase := .waiting w } =>
      if w.timeout ≠ 0 ∧ w.remaining = 0 then s.endWait cmd w .timeout else s
    | _ => s)

end Sys2Proof.Machine
end

