-- ==== Sys2Proof/Machine/TopUp.lean ====
section
/-! DEFINITION. The Top-up Port (chapter 7): bus conditions and bytes (R135), frames and replies (R142, R145, R146, R206),
and the rows BUS_START, BUS_STOP, ADDRESS_BYTE, KIND_BYTE, FRAME_BYTE, DISCARD_BYTE, REPLY_BYTE, COLLISION, BUS_TIMEOUT and
APPLY. -/

namespace Sys2Proof.Machine

/-! ### Lines (R135) -/

/-- The levels of the two lines. -/
structure BusLines where
  tscl : Bool
  tsda : Bool
  deriving DecidableEq, Repr

/-- A condition on the bus. -/
inductive BusCondition where
  | start | stop
  deriving DecidableEq, Repr

/-- The condition a change of the lines makes: TSDA falling or rising while TSCL is high. -/
def busCondition (before after : BusLines) : Option BusCondition :=
  if before.tscl && after.tscl then
    if before.tsda && !after.tsda then some .start
    else if !before.tsda && after.tsda then some .stop
    else none
  else none

/-- A byte from its bits, most significant first. -/
def byteOfBits (sampled : List Bool) : Byte := BitVec.ofNat 8 (sampled.foldl (fun v b => 2 * v + b.toNat) 0)

/-! ### Replies (R146, R206) -/

/-- The reply statuses. -/
inductive ReplyStatus where
  | accepted | unknown | blocked | overLimit | badFrame | overflow | noReply
  deriving DecidableEq, Repr

def ReplyStatus.code : ReplyStatus → Nat
  | .accepted => 0x00
  | .unknown => 0x01
  | .blocked => 0x02
  | .overLimit => 0x03
  | .badFrame => 0x04
  | .overflow => 0x05
  | .noReply => 0x06

/-- The sum of bytes, modulo 256. -/
def byteSum (bytes : List Byte) : Byte := bytes.foldl (fun v b => v + b) 0

/-- The check byte: it makes the sum of all bytes a multiple of 256. -/
def withCheck (bytes : List Byte) : List Byte := bytes ++ [-(byteSum bytes)]

/-- The nine bytes of a reply with the level, status, sign and balance of a record. -/
def replyBytes (status : ReplyStatus) (a : Account) : List Byte :=
  withCheck
    ([BitVec.ofNat 8 status.code, BitVec.ofNat 8 (a.status.code + a.level.code * 2 ^ 2),
      BitVec.ofNat 8 (signByte a.balance)] ++ magnitudeBytes a.balance.natAbs)

/-- A reply with zero fields: level NORMAL, status FREE, positive zero. -/
def zeroReply (status : ReplyStatus) : List Byte := replyBytes status Account.free

/-! ### Port states -/

/-- IDLE with empty buffers (R136), both lines released (R150, R151), ignoring the bus until the next start (R150). -/
def TopUpPort.toIdle (port : TopUpPort) : TopUpPort :=
  { port with state := .idle, awaitsAddress := false, receive := [], reply := [], sent := 0, acked := false }

/-- A start has come: the next byte is an address byte (R135). -/
def TopUpPort.awaiting (port : TopUpPort) : TopUpPort := { port with awaitsAddress := true }

/-- REPLY_READY with a reply (R146). -/
def TopUpPort.holding (port : TopUpPort) (reply : List Byte) : TopUpPort :=
  { port with state := .replyReady, receive := [], reply, sent := 0 }

/-- The byte is not the port's: it is left unacknowledged, and the port ignores the bus until the next start (R140). -/
def TopUpPort.ignoring (port : TopUpPort) : TopUpPort := { port with acked := false, awaitsAddress := false }

def State.setPort (s : State) (port : TopUpPort) : State := { s with port }

/-! ### Start, stop, timeout (R139, R144, R151) -/

/-- The port at a start condition (R139). -/
def TopUpPort.atStart (port : TopUpPort) : TopUpPort :=
  match port.state with
  | .addressedWrite => port.toIdle.awaiting
  | .receive => port.toIdle.awaiting
  | .discard => port.toIdle.awaiting
  | .sending => port.toIdle.awaiting
  | .idle => port.awaiting
  | .replyReady => port.awaiting
  | .applying => port

/-- BUS_START (R139). -/
def execBusStart (s : State) : Host.Outcome State Fault Refusal := .next (s.setPort s.port.atStart).retestWait

/-- The port at a stop condition (R144). -/
def TopUpPort.atStop (port : TopUpPort) : TopUpPort :=
  match port.state with
  | .addressedWrite => port.toIdle
  | .receive => port.holding (zeroReply .badFrame)
  | .discard => port.holding (zeroReply .badFrame)
  | .sending => port.toIdle
  | .idle => port
  | .replyReady => port
  | .applying => port

/-- BUS_STOP (R144). -/
def execBusStop (s : State) : Host.Outcome State Fault Refusal := .next (s.setPort s.port.atStop).retestWait

/-- The port when 30 ms pass without bus activity: in the four states whose timer runs it goes to IDLE and releases both lines
(R151). -/
def TopUpPort.atTimeout (port : TopUpPort) : TopUpPort :=
  match port.state with
  | .addressedWrite => port.toIdle
  | .receive => port.toIdle
  | .discard => port.toIdle
  | .sending => port.toIdle
  | .idle => port
  | .replyReady => port
  | .applying => port

/-- BUS_TIMEOUT (R151). -/
def execBusTimeout (s : State) : Host.Outcome State Fault Refusal := .next (s.setPort s.port.atTimeout).retestWait

/-! ### Receiving (R140 to R143) -/

/-- The port acknowledges the byte: it is an address byte, the first byte after a start (R135), and the three tests of R140
hold. -/
def State.admits (s : State) (byte : Byte) : Bool :=
  s.port.awaitsAddress && s.port.enabled && s.run.runState == .run && byte.toNat / 2 == s.port.address.toNat

/-- The port after an acknowledged address byte, by its direction bit (R140, R148, R149). -/
def TopUpPort.addressed (port : TopUpPort) (byte : Byte) : TopUpPort :=
  if byte.getLsbD 0 then
    { port with
      state := .sending, awaitsAddress := false, sent := 0, acked := true,
      reply := if port.state = .idle then zeroReply .noReply else port.reply }
  else
    { port with
      state := .addressedWrite, awaitsAddress := false, receive := [], reply := [], sent := 0, acked := true }

/-- The port at an address byte; one is received in IDLE or REPLY_READY (R136). -/
def State.addressByte (s : State) (byte : Byte) : TopUpPort :=
  match s.port.state with
  | .idle => if s.admits byte then s.port.addressed byte else s.port.ignoring
  | .replyReady => if s.admits byte then s.port.addressed byte else s.port.ignoring
  | _ => s.port

/-- ADDRESS_BYTE (R140). -/
def execAddressByte (byte : Byte) (s : State) : Host.Outcome State Fault Refusal := .next (s.setPort (s.addressByte byte))

/-- The port at a byte that it leaves unacknowledged when no address has been acknowledged (R140). -/
def TopUpPort.otherByte (port : TopUpPort) : TopUpPort :=
  match port.state with
  | .idle => port.ignoring
  | .replyReady => port.ignoring
  | _ => port

/-- The port at the first byte of a write (R141). -/
def TopUpPort.kindByte (port : TopUpPort) (byte : Byte) : TopUpPort :=
  if port.state = .addressedWrite then
    if byte = 0x54 ∨ byte = 0x51 then { port with state := .receive, receive := [byte], acked := true }
    else { port with state := .discard, acked := false }
  else port.otherByte

/-- KIND_BYTE (R141). -/
def execKindByte (byte : Byte) (s : State) : Host.Outcome State Fault Refusal := .next (s.setPort (s.port.kindByte byte))

/-- The length of a frame, by its kind byte (R142). -/
def frameLength (frame : List Byte) : Nat := if frame.head? = some 0x54 then 11 else 6

/-- The account number of a frame, unless a nibble is above 9 (R206). -/
def frameNumber (frame : List Byte) : Option Nat := bcdValue 8 (bytesValue ((frame.drop 1).take 4))

/-- The amount of a TOPUP frame, unless a nibble is above 9 (R206). -/
def frameAmount (frame : List Byte) : Option Nat := bcdValue 10 (bytesValue ((frame.drop 5).take 5))

/-- What validation makes of a complete frame. -/
inductive Validation where
  | refused (status : ReplyStatus)
  | apply (request : ApplyRequest)
  deriving DecidableEq, Repr

/-- The tests of a TOPUP's number and amount, in the order of R145. -/
def validateTopup (maximum : Nat) (frame : List Byte) : Validation :=
  match frameNumber frame, frameAmount frame with
  | some number, some amount =>
    if amount = 0 then .refused .badFrame
    else if maximum < amount then .refused .overLimit
    else .apply { kind := .topup, number, amount }
  | _, _ => .refused .badFrame

/-- The port's own tests of a complete frame (R145). -/
def validate (maximum : Nat) (frame : List Byte) : Validation :=
  if byteSum frame ≠ 0 then .refused .badFrame
  else if frame.head? = some 0x54 then validateTopup maximum frame
  else
    match frameNumber frame with
    | some number => .apply { kind := .enquire, number, amount := 0 }
    | none => .refused .badFrame

/-- The port with a complete frame (R142, R145): the APPLY request is raised with TSCL held, or the frame is refused at
once. -/
def TopUpPort.enterApply (port : TopUpPort) (frame : List Byte) : TopUpPort :=
  match validate port.maximum frame with
  | .refused status => { port.holding (zeroReply status) with acked := true }
  | .apply request => { port with state := .applying, receive := frame, acked := true, request := some request }

/-- The port at a byte of a frame (R142). -/
def TopUpPort.frameByte (port : TopUpPort) (byte : Byte) : TopUpPort :=
  if port.state = .receive then
    if (port.receive ++ [byte]).length < frameLength (port.receive ++ [byte]) then
      { port with receive := port.receive ++ [byte], acked := true }
    else port.enterApply (port.receive ++ [byte])
  else port.otherByte

/-- FRAME_BYTE (R142, R145). -/
def execFrameByte (byte : Byte) (s : State) : Host.Outcome State Fault Refusal := .next (s.setPort (s.port.frameByte byte))

/-- The port at a byte of a refused write (R143). -/
def TopUpPort.discardByte (port : TopUpPort) : TopUpPort :=
  if port.state = .discard then { port with acked := false } else port.otherByte

/-- DISCARD_BYTE (R143). -/
def execDiscardByte (_byte : Byte) (s : State) : Host.Outcome State Fault Refusal := .next (s.setPort s.port.discardByte)

/-! ### Sending (R148 to R150) -/

/-- The port after a byte has been sent, with the kiosk's acknowledge (R148). The ninth acknowledged byte consumes the
reply; filler follows. -/
def TopUpPort.byteSent (port : TopUpPort) (acknowledged : Bool) : TopUpPort :=
  if port.state = .sending then
    if acknowledged then
      if port.sent < 8 then { port with sent := port.sent + 1 } else { port with sent := 9, reply := [] }
    else port.toIdle
  else port

/-- REPLY_BYTE (R148). -/
def execReplyByte (acknowledged : Bool) (s : State) : Host.Outcome State Fault Refusal :=
  .next (s.setPort (s.port.byteSent acknowledged)).retestWait

/-- COLLISION (R150): the line is low at a bit for which the port has released it. -/
def execCollision (bit : Fin 8) (s : State) : Host.Outcome State Fault Refusal :=
  .next
    (if s.port.state = .sending ∧ s.sendingByte.getLsbD bit.val then (s.setPort s.port.toIdle).retestWait else s)

/-! ### APPLY (R35, R146, R147) -/

/-- The answer of an APPLY reaches the port, unless a PORT RESET has taken the frame away (R45, R153). -/
def State.answerKiosk (s : State) (owned : Bool) (reply : List Byte) : State :=
  if owned then s.setPort (s.port.holding reply) else s

/-- An accepted TOPUP: the last-top-up record, the count and TOPUP ready (R147). -/
def State.recordTopup (s : State) (slot : Fin 64) (amount : Nat) : State :=
  { s with
    port.lastSlot := slot, port.lastAmount := amount, port.topupCount := s.port.topupCount + 1, notice.topup := true }

/-- The engine's operation and the answer it gives (R35). -/
def State.applyRequest (s : State) (r : ApplyRequest) : State × List Byte :=
  match s.lookup r.number with
  | none => (s, zeroReply .unknown)
  | some slot =>
    if (s.slot slot).status = .suspended then (s, replyBytes .blocked (s.slot slot))
    else
      match r.kind with
      | .enquire => (s, replyBytes .accepted (s.slot slot))
      | .topup =>
        if creditOverflows (s.slot slot) r.amount then (s, replyBytes .overflow (s.slot slot))
        else
          let t := s.storeBalance slot ((s.slot slot).balance + r.amount) {} true
          (t.recordTopup slot r.amount, replyBytes .accepted (t.slot slot))

/-- APPLY (R35): the APPLY in progress completes. -/
def execApplyFrame (s : State) : Host.Outcome State Fault Refusal :=
  .next
    (match s.engine.op with
    | .busy (.applyFrame request owned) =>
      let (t, reply) := s.freeEngine.applyRequest request
      (t.answerKiosk owned reply).retestWait
    | _ => s)

end Sys2Proof.Machine
end

