-- ==== Sys2Proof/Machine/Dispatch.lean ====
section
/-! DEFINITION. The command table: each command runs its own meaning. -/

namespace Sys2Proof.Machine

/-- The effect of a command on everything but the queue. -/
def exec (i : Instr) (s : State) : Host.Outcome State Fault Refusal :=
  match i with
  | .reset => Sys2Proof.Machine.execReset s
  | .loadingStart => Sys2Proof.Machine.execLoadingStart s
  | .loadSettingsPage => Sys2Proof.Machine.execLoadSettingsPage s
  | .loadAccountPage => Sys2Proof.Machine.execLoadAccountPage s
  | .entryToHoldup conditionFirst => Sys2Proof.Machine.execEntryToHoldup conditionFirst s
  | .entryToSafe => Sys2Proof.Machine.execEntryToSafe s
  | .returnToRun => Sys2Proof.Machine.execReturnToRun s
  | .tick conditionFirst => Sys2Proof.Machine.execTick conditionFirst s
  | .periodBoundary => Sys2Proof.Machine.execPeriodBoundary s
  | .graceExpiry p => Sys2Proof.Machine.execGraceExpiry p s
  | .routinePageEligible page => Sys2Proof.Machine.execRoutinePageEligible page s
  | .waitTimeout => Sys2Proof.Machine.execWaitTimeout s
  | .meterLineChange p => Sys2Proof.Machine.execMeterLineChange p s
  | .debounceComplete p => Sys2Proof.Machine.execDebounceComplete p s
  | .engineGrant => Sys2Proof.Machine.execEngineGrant s
  | .charge => Sys2Proof.Machine.execCharge s
  | .standing => Sys2Proof.Machine.execStanding s
  | .applyFrame => Sys2Proof.Machine.execApplyFrame s
  | .gather => Sys2Proof.Machine.execGather s
  | .submit value => Sys2Proof.Machine.execSubmit value s
  | .commandStart => Sys2Proof.Machine.execCommandStart s
  | .badCommand => Sys2Proof.Machine.execBadCommand s
  | .pop value => Sys2Proof.Machine.execPop value s
  | .purge value => Sys2Proof.Machine.execPurge value s
  | .portReset value => Sys2Proof.Machine.execPortReset value s
  | .wait => Sys2Proof.Machine.execWait s
  | .mark => Sys2Proof.Machine.execMark s
  | .openAccount => Sys2Proof.Machine.execOpenAccount s
  | .closeAccount => Sys2Proof.Machine.execCloseAccount s
  | .credit => Sys2Proof.Machine.execCredit s
  | .debit => Sys2Proof.Machine.execDebit s
  | .transfer => Sys2Proof.Machine.execTransfer s
  | .query => Sys2Proof.Machine.execQuery s
  | .querySlot => Sys2Proof.Machine.execQuerySlot s
  | .scan => Sys2Proof.Machine.execScan s
  | .amend => Sys2Proof.Machine.execAmend s
  | .suspend => Sys2Proof.Machine.execSuspend s
  | .resume => Sys2Proof.Machine.execResume s
  | .repair => Sys2Proof.Machine.execRepair s
  | .discard => Sys2Proof.Machine.execDiscard s
  | .nextAttention => Sys2Proof.Machine.execNextAttention s
  | .bind => Sys2Proof.Machine.execBind s
  | .unbind => Sys2Proof.Machine.execUnbind s
  | .unbindDetach => Sys2Proof.Machine.execUnbindDetach s
  | .configurePoint => Sys2Proof.Machine.execConfigurePoint s
  | .hold => Sys2Proof.Machine.execHold s
  | .release => Sys2Proof.Machine.execRelease s
  | .queryPoint => Sys2Proof.Machine.execQueryPoint s
  | .setDefer => Sys2Proof.Machine.execSetDefer s
  | .setTariff => Sys2Proof.Machine.execSetTariff s
  | .setBand => Sys2Proof.Machine.execSetBand s
  | .setPeriod => Sys2Proof.Machine.execSetPeriod s
  | .setTopup => Sys2Proof.Machine.execSetTopup s
  | .setInterval => Sys2Proof.Machine.execSetInterval s
  | .commit => Sys2Proof.Machine.execCommit s
  | .commitStart => Sys2Proof.Machine.execCommitStart s
  | .eraseComplete => Sys2Proof.Machine.execEraseComplete s
  | .programComplete written => Sys2Proof.Machine.execProgramComplete written s
  | .verifyComplete => Sys2Proof.Machine.execVerifyComplete s
  | .busStart => Sys2Proof.Machine.execBusStart s
  | .busStop => Sys2Proof.Machine.execBusStop s
  | .addressByte byte => Sys2Proof.Machine.execAddressByte byte s
  | .kindByte byte => Sys2Proof.Machine.execKindByte byte s
  | .frameByte byte => Sys2Proof.Machine.execFrameByte byte s
  | .discardByte byte => Sys2Proof.Machine.execDiscardByte byte s
  | .replyByte acknowledged => Sys2Proof.Machine.execReplyByte acknowledged s
  | .collision bit => Sys2Proof.Machine.execCollision bit s
  | .busTimeout => Sys2Proof.Machine.execBusTimeout s
  | .noticeReadyWrite value => Sys2Proof.Machine.execNoticeReadyWrite value s
  | .noticeEnableWrite value => Sys2Proof.Machine.execNoticeEnableWrite value s
  | .noticeModeWrite value => Sys2Proof.Machine.execNoticeModeWrite value s
  | .noticeTake => Sys2Proof.Machine.execNoticeTake s
  | .noticeDone value => Sys2Proof.Machine.execNoticeDone value s
  | .errorsWrite value => Sys2Proof.Machine.execErrorsWrite value s
  | .pointFlagsWrite p value => Sys2Proof.Machine.execPointFlagsWrite p value s
  | .unassignedRead offset => Sys2Proof.Machine.execUnassignedRead offset s
  | .registerWrite offset value => Sys2Proof.Machine.execRegisterWrite offset value s

end Sys2Proof.Machine
end

