-- ==== Sys2Proof/Safety.lean ====
section
/-! DEFINITION. What it means for the block to be safe: the invariants its steps keep, and the words the statements are
written in (frames, results, reports). -/

namespace Sys2Proof.Machine

/-! ### Invariants -/

/-- The slots in use as the Command Processor counts them: held results and the reservation (R99). -/
def State.reservedResults (s : State) : Nat := s.proc.results.length + (if s.proc.executing.isSome then 1 else 0)

/-- The command queue and the result queue hold what they have room for (R97, R99, R103), and a granted command operation
that still has its requester is the command executing (R45, R100). -/
def QueuesFit (s : State) : Prop :=
  s.proc.queue.length ≤ 32 ∧ s.reservedResults ≤ 16 ∧
    ∀ cmd, s.engine.op = .busy (.command cmd true) → s.proc.executing = some { cmd, phase := .granted }

/-- The active stack (R160): each entry outranks the one beneath it, and the stack is empty in SUMMARY. -/
def StackOrdered (s : State) : Prop :=
  s.notice.stack.Pairwise (fun above below => above.val < below.val) ∧ (s.notice.mode = .summary → s.notice.stack = [])

/-- The eligible list and the dirty set (R173, R175, R176): a page in the list is dirty and stands there once, every urgent
page is in the list, and in HOLDUP and SAFE every dirty page is urgent. -/
def EligibleDirty (s : State) : Prop :=
  s.commit.eligible.Nodup ∧ (∀ page ∈ s.commit.eligible, (s.commit.dirty[page]).isSome = true) ∧
    ∀ (page : Fin 9) r, s.commit.dirty[page] = some r →
      (r.urgent = true → page ∈ s.commit.eligible) ∧ (s.warned = true → r.urgent = true)

/-- The repairs of a damaged page reach the array with its commit alone (R209, R171): a marked page is damaged, or in VERIFY
with its snapshot in the array; and a GATHER in progress is that of the commit under way. -/
def RepairsUnverified (s : State) : Prop :=
  (∀ page, s.engine.op = .busy (.gather page) → s.commit.phase = .gather page) ∧
    ∀ page : Fin 9, s.commit.unverified.getLsbD page.val = true →
      s.nv[page] = .damaged ∨
        (s.commit.phase = .verify page ∧ ∃ contents, s.commit.snapshot = some contents ∧ s.nv[page] = .good contents)

/-- A status that the directory holds (R15). -/
def Status.listed (status : Status) : Bool := status == .active || status == .suspended

/-- In RESET every slot is FREE; in LOADING the slots of the pages not yet loaded are (R14). -/
def UnloadedFree (s : State) : Prop :=
  ∀ i : Fin 64,
    (s.run.runState = .reset ∨ (s.run.runState = .loading ∧ (s.run.loadPage = 8 ∨ s.run.loadPage.val ≤ i.val / 8))) →
      (s.slot i).status = .free

/-- The directory (R15): strictly ascending numbers, and exactly one entry, with its number, for each ACTIVE or SUSPENDED
slot. -/
def DirectoryExact (s : State) : Prop :=
  s.engine.directory.Pairwise (fun a b => a.number < b.number) ∧
    (∀ e ∈ s.engine.directory, (s.slot e.slot).status.listed = true ∧ (s.slot e.slot).number = e.number) ∧
    ∀ i, (s.slot i).status.listed = true → ∃ e ∈ s.engine.directory, e.slot = i

/-- A point's state agrees with its account view and host-hold (R56, R57): LIVE, GRACE, CUT and AWAITING points have no
hold cause, LIVE and AWAITING ones see a level better than EXHAUSTED, GRACE and CUT ones EXHAUSTED; and pending units stay
within 255 (R49). -/
def Point.legal (p : Point) : Prop :=
  (p.state = .live ∨ p.state = .awaiting → p.hostHold = false ∧ ∃ l, p.view = some (.active, l) ∧ l ≠ .exhausted) ∧
    (p.state = .grace ∨ p.state = .cut → p.hostHold = false ∧ p.view = some (.active, .exhausted)) ∧ p.pending ≤ 255

def PointsLegal (s : State) : Prop := ∀ p, (s.point p).legal

/-- Before LOADING ends nothing is in hand: the engine is FREE, no command executes, no commit is under way, the sweep is
IDLE and owes nothing, and the period counter is stopped at 0 (R46, R99, R177, R84, R88). Outside LOADING no page is being
loaded (R201). -/
def LoadingQuiet (s : State) : Prop :=
  (s.operating = false →
      s.engine.op = .free ∧ s.proc.executing = none ∧ s.commit.phase = .idle ∧ s.timer.sweep = .idle ∧
        s.timer.owed = false ∧ s.timer.remaining = 0) ∧
    (s.run.runState ≠ .loading → s.run.loadPage = 0)

/-- The period counter and the sweep (R85, R86, R89, R92), beside a quiet LOADING: the count lies in 1 to the period length
while the counter runs, the sweep is PAUSED in HOLDUP and SAFE alone, and in RUN an IDLE sweep owes nothing. -/
def PeriodInRange (s : State) : Prop :=
  LoadingQuiet s ∧ 60 ≤ s.timer.periodLength ∧ s.timer.periodLength ≤ 86400 ∧
    (s.operating = true → 1 ≤ s.timer.remaining ∧ s.timer.remaining ≤ s.timer.periodLength) ∧
    (s.timer.sweep = .paused → s.warned = true) ∧
    (s.run.runState = .run → s.timer.sweep = .idle → s.timer.owed = false)

/-- The points bound to a slot. -/
def State.bindingsOf (s : State) (slot : Fin 64) : Nat :=
  (List.finRange 16).countP fun p => (s.point p).binding == some slot

/-- The directory through load (R14, R15, R187): a quiet LOADING with its unloaded slots FREE, and an exact directory. -/
def DirectorySound (s : State) : Prop := LoadingQuiet s ∧ UnloadedFree s ∧ DirectoryExact s

/-- Bindings (R8, R12, R48, R188), beside a sound directory: a point is DETACHED exactly when it has no binding, a FREE slot
has bound count 0, and a slot's bound count is the number of points bound to it, in RESET, in RUN, HOLDUP and SAFE, and in
LOADING once its page is loaded. -/
def BoundCountsAgree (s : State) : Prop :=
  DirectorySound s ∧ (∀ p, (s.point p).state = .detached ↔ (s.point p).binding = none) ∧
    (∀ i, (s.slot i).status = .free → (s.slot i).boundCount = 0) ∧
    ∀ i : Fin 64, (s.run.runState ≠ .loading ∨ (s.run.loadPage ≠ 8 ∧ i.val / 8 < s.run.loadPage.val)) →
      (s.slot i).boundCount = s.bindingsOf i

/-- What the points see of the accounts (R37, R49), beside agreeing bound counts: a point bound to a slot whose page is loaded
has the status and the level of its slot for its account view, and a CHARGE in progress names a slot in use (R29). -/
def ViewsAgree (s : State) : Prop :=
  BoundCountsAgree s ∧
    (∀ p slot, (s.point p).binding = some slot →
      (s.run.runState ≠ .loading ∨ (s.run.loadPage ≠ 8 ∧ slot.val / 8 < s.run.loadPage.val)) →
      (s.point p).view = some ((s.slot slot).status, (s.slot slot).level)) ∧
    ∀ p n slot price, s.engine.op = .busy (.charge p n slot price) → (s.slot slot).status.listed = true

/-- The attention list (R20, R21), beside agreeing views: no slot stands in it twice, the slot of an entry is not FREE, and
its reasons are not empty. -/
def AttentionSound (s : State) : Prop :=
  ViewsAgree s ∧ (s.engine.attention.map AttentionEntry.slot).Nodup ∧
    ∀ e ∈ s.engine.attention, (s.slot e.slot).status ≠ .free ∧ e.reasons.isEmpty = false

/-- Account records (R3, R4, R11): every field is in its range, and a slot that is not FREE has the level of its balance, L
and EC. -/
def AccountsInRange (s : State) : Prop :=
  ∀ i, (s.slot i).number ≤ 99999999 ∧ (s.slot i).ec ≤ 99999999 ∧ (s.slot i).low ≤ 99999999 ∧
    -9999999999 ≤ (s.slot i).balance ∧ (s.slot i).balance ≤ 9999999999 ∧
    ((s.slot i).status ≠ .free → (s.slot i).level = levelOf (s.slot i).balance (s.slot i).low (s.slot i).ec)

/-! ### Frames -/

/-- The blocks that no command operation of the Account Engine touches. -/
def CommandFrame (s t : State) : Prop :=
  t.run = s.run ∧ t.timer = s.timer ∧ t.port = s.port ∧ t.notice = s.notice ∧ t.nv = s.nv ∧ t.spi = s.spi ∧
    t.readData = s.readData ∧ t.freeCount = s.freeCount ∧ t.pending = s.pending

/-- The executing command has ended, and its result is the last one held (R102). -/
def Posted (s t : State) (r : Result) : Prop :=
  t.proc = { s.proc with executing := none, results := s.proc.results ++ [r] }

/-- Every slot but one is as it was. -/
def SlotsKept (s t : State) (slot : Fin 64) : Prop := ∀ i, i ≠ slot → t.slot i = s.slot i

/-- Nothing of the Commit Engine but the dirty set and the eligible list has changed. -/
def CommitFrame (s t : State) : Prop :=
  t.commit = { s.commit with dirty := t.commit.dirty, eligible := t.commit.eligible }

/-- Nothing of the Commit Engine but one page's record and the eligible list has changed. -/
def CommitKept (s t : State) (page : Fin 9) : Prop :=
  (∀ q, q ≠ page → t.commit.dirty[q] = s.commit.dirty[q]) ∧ CommitFrame s t

/-- Every point not bound to the slot is as it was. -/
def PointsKept (s t : State) (slot : Fin 64) : Prop :=
  (∀ p, (s.point p).binding ≠ some slot → t.point p = s.point p) ∧ t.points.deferral = s.points.deferral ∧
    t.points.tally = s.points.tally

/-- A point bound to a slot after an operation on that slot (R37): the notice of the slot's new status and level when one of
the two has changed, otherwise the point as it was. -/
def toldPoint (s t : State) (slot : Fin 64) (p : Fin 16) : Point :=
  if (t.slot slot).level ≠ (s.slot slot).level ∨ (t.slot slot).status ≠ (s.slot slot).status then
    (s.point p).notified s.points.deferral (t.slot slot).status (t.slot slot).level
  else s.point p

/-- Every point bound to the slot, which counts at least one, has been told of the change (R37). -/
def PointsTold (s t : State) (slot : Fin 64) : Prop :=
  0 < (s.slot slot).boundCount → ∀ p, (s.point p).binding = some slot → t.point p = toldPoint s t slot p

/-- The attention list after an operation that takes a slot from one level to another (R21, R22, R36): the reason of the change
and, for a clamp, LIMIT have joined the slot's entry together. -/
def attentionAfter (slot : Fin 64) (before after : Level) (clamped : Bool) (entries : List AttentionEntry) :
    List AttentionEntry :=
  let reasons := { levelReasons before after with limit := clamped }
  if reasons = {} then entries else joinReasons slot reasons entries

/-- A list of pages with those that join it at its tail: the pages of a kind that are not yet in it, in ascending order (R176,
R182). -/
def joinedAscending (pages : List (Fin 9)) (joins : Fin 9 → Bool) : List (Fin 9) :=
  pages ++ (List.finRange 9).filter fun page => joins page && !pages.contains page

/-- A change of the debounced level to the line's has been judged (R52, R53): r is the point before, q the point after.
STRAY on a DETACHED point; otherwise one more edge, and at the prescale one more pending unit, or, with 255 pending, LOCKED
with its flag; an edge that is not counted changes the debounced level alone. -/
def EdgeJudged (counting : Bool) (r q : Point) : Prop :=
  let counted := counting && (match r.config.edgeMode with
    | .rise => r.line
    | .fall => !r.line
    | .both => true)
  let taken : Point := { r with debounced := r.line, excursion := false }
  (counted = false → q = taken) ∧
    (counted = true → r.state = .detached → q = { taken with flags := { r.flags with stray := true } }) ∧
    (counted = true → r.state ≠ .detached → r.edgeCounter + 1 < r.config.prescale →
      q = { taken with edgeCounter := r.edgeCounter + 1 }) ∧
    (counted = true → r.state ≠ .detached → r.config.prescale ≤ r.edgeCounter + 1 →
      (r.pending < 255 → q = { taken with edgeCounter := 0, pending := r.pending + 1 }) ∧
      (255 ≤ r.pending → q = { taken with
        edgeCounter := 0, state := .locked, graceRemaining := 0, flags := { r.flags with locked := true } }))

/-- The eligible list after an urgent report of a page, from the record the page had (R173, R175): as it was when the record
was urgent or the page stands in the list, otherwise with the page at its tail. -/
def eligibleAfterUrgent (record : Option DirtyRecord) (page : Fin 9) (pages : List (Fin 9)) : List (Fin 9) :=
  if record.map DirtyRecord.urgent = some true ∨ page ∈ pages then pages else pages ++ [page]

/-- The record of a page after an urgent report of it (R173): urgent, its age kept. -/
def RecordedUrgent (s t : State) (page : Fin 9) : Prop :=
  t.commit.dirty[page] = some { urgent := true, age := (s.commit.dirty[page].map DirtyRecord.age).getD 0 }

/-- One urgent report of a page has been taken, and no other change report (R173, R175): the page's record, and the whole
eligible list. -/
def ReportedUrgent (s t : State) (page : Fin 9) : Prop :=
  RecordedUrgent s t page ∧
    t.commit.eligible = eligibleAfterUrgent s.commit.dirty[page] page s.commit.eligible

/-- Urgent reports of two pages, which may be one, have been taken in this order, and no other change report: their records,
and the whole eligible list. -/
def ReportedUrgentInOrder (s t : State) (first second : Fin 9) : Prop :=
  RecordedUrgent s t first ∧ RecordedUrgent s t second ∧
    t.commit.eligible = eligibleAfterUrgent s.commit.dirty[second] second
      (eligibleAfterUrgent s.commit.dirty[first] first s.commit.eligible)

/-- The commit of a page has ended with the page verified (R179, R209): array, dirty set and fault page are as they were, and
the page is no longer marked as damaged at load. -/
def PageVerified (s t : State) (page : Fin 9) : Prop :=
  t.nv = s.nv ∧ t.commit.dirty = s.commit.dirty ∧ t.commit.faultPage = s.commit.faultPage ∧
    t.commit.unverified = s.commit.unverified &&& ~~~pageBit page

/-- The commit of a page has ended with its second failure (R171, R180): the page is damaged and the fault page, NV_FAULT and
COMMIT ready are set, in RUN an absent page is in the dirty set again as routine with age 0, and its mark is kept. -/
def PageFailed (s t : State) (page : Fin 9) : Prop :=
  t.nv = s.nv.set page .damaged ∧ t.commit.faultPage = some page ∧ t.commit.unverified = s.commit.unverified ∧
    t.notice = { s.notice with errors := { s.notice.errors with nvFault := true }, commit := true } ∧
    t.commit.dirty =
      if s.run.runState = .run ∧ s.commit.dirty[page] = none then
        s.commit.dirty.set page (some { urgent := false, age := 0 })
      else s.commit.dirty

/-- A routine report of a page has been taken outside HOLDUP and SAFE (R173): a record that was there is kept, an absent
one is added with age 0, and the eligible list is unchanged. -/
def ReportedRoutine (s t : State) (page : Fin 9) : Prop :=
  t.commit.dirty[page] = some (s.commit.dirty[page].getD { urgent := false, age := 0 }) ∧
    t.commit.eligible = s.commit.eligible

/-- A command's operation about one slot is over (R114): the engine is FREE, the result is posted, and nothing but that
slot, its page and its points has changed. -/
def AccountStep (s t : State) (slot : Fin 64) (r : Result) : Prop :=
  t.engine.op = .free ∧ Posted s t r ∧ CommandFrame s t ∧ SlotsKept s t slot ∧ CommitKept s t (pageOf slot) ∧
    PointsKept s t slot

/-- A settings command has been answered: its block's fields and the report of the settings page are the caller's to state,
and engine, points, run state, notices and array are as they were. -/
def SettingStep (s t : State) (r : Result) : Prop :=
  Posted s t r ∧ t.engine = s.engine ∧ t.points = s.points ∧ t.run = s.run ∧ t.notice = s.notice ∧ t.nv = s.nv ∧
    t.spi = s.spi ∧ t.readData = s.readData ∧ t.freeCount = s.freeCount ∧ t.pending = s.pending

/-- The state after an operation that changes nothing: the engine is FREE, and the result is posted (R114). -/
def answered (s : State) (r : Result) : State :=
  { s with
    engine := { s.engine with op := .free }
    proc := { s.proc with executing := none, results := s.proc.results ++ [r] } }

/-- The state after a command that its block has answered (R100, R102). -/
def replied (s : State) (r : Result) : State :=
  { s with proc := { s.proc with executing := none, results := s.proc.results ++ [r] } }

/-- The state after the executing WAIT has ended with a status (R108, R109): its result carries the chosen conditions that
hold and the remaining timeout, and the period latch is clear. -/
def waitEnded (s : State) (cmd : QueuedCommand) (w : WaitState) (status : ResultStatus) : State :=
  { s with proc := { s.proc with
    executing := none, periodLatch := false,
    results := s.proc.results ++ [
      { tag := cmd.tag, code := cmd.code, status, slot := 0, number := 0, balance := 0, packed := 0,
        extraA := (w.conditions &&& s.conditionsHeld).zeroExtend 32, extraB := BitVec.ofNat 32 w.remaining }] } }

/-! ### Results -/

/-- A result with the tag, code and status alone (R115, R66). -/
def plainResult (cmd : QueuedCommand) (status : ResultStatus) : Result :=
  { tag := cmd.tag, code := cmd.code, status, slot := 0, number := 0, balance := 0, packed := 0, extraA := 0, extraB := 0 }

/-- A result with the record block of a slot (R115). -/
def recordResult (cmd : QueuedCommand) (status : ResultStatus) (slot : Fin 64) (a : Account) : Result :=
  { plainResult cmd status with
    slot := BitVec.ofNat 8 slot.val, number := bcdWord a.number, balance := a.balance, packed := packedField a }

/-- A result with the full record of a slot (R115). -/
def fullResult (cmd : QueuedCommand) (slot : Fin 64) (a : Account) : Result :=
  { recordResult cmd .done slot a with extraA := bcdWord a.ec, extraB := bcdWord a.low }

/-- A point command's result with the point block (R66, R204). -/
def pointResult (cmd : QueuedCommand) (status : ResultStatus) (p : Fin 16) (r : Point) : Result :=
  { plainResult cmd status with extraA := BitVec.ofNat 32 (p.val + r.state.code * 2 ^ 8 + r.pending * 2 ^ 16) }

/-! ### Register fields -/

/-- The head result stands in RESULT0 to RESULT6 (R204). -/
def ResultPlaced (s : State) (r : Result) : Prop :=
  bits (s.registerValue 0x0E) 0 8 = r.tag.toNat ∧ bits (s.registerValue 0x0E) 8 8 = r.code.toNat ∧
    bits (s.registerValue 0x0E) 16 8 = r.status.code ∧ bits (s.registerValue 0x0E) 24 8 = r.slot.toNat ∧
    s.registerValue 0x0F = r.number ∧ s.registerValue 0x10 = moneyHigh r.balance ∧
    s.registerValue 0x11 = moneyLow r.balance ∧ s.registerValue 0x12 = r.packed ∧ s.registerValue 0x13 = r.extraA ∧
    s.registerValue 0x14 = r.extraB

/-- The ready flags stand in NOTICE_READY by rank (R154, R156, R201). -/
def ReadyPlaced (s : State) : Prop :=
  let ready := s.registerValue 0x16
  ready.getLsbD 0 = s.notice.power ∧ ready.getLsbD 1 = s.notice.errors.any ∧
    (∀ p : Fin 16, ready.getLsbD (2 + p.val) = (s.point p).flags.any) ∧
    ready.getLsbD 18 = !s.engine.attention.isEmpty ∧ ready.getLsbD 19 = s.notice.topup ∧
    ready.getLsbD 20 = s.notice.commit ∧ ready.getLsbD 21 = s.notice.mark ∧
    ready.getLsbD 22 = !s.proc.results.isEmpty ∧ bits ready 23 9 = 0

/-- The registers of the Command Processor (R97, R98, R103). -/
def ProcessorPlaced (s : State) : Prop :=
  bits (s.registerValue 0x04) 0 6 = 32 - s.proc.queue.length ∧
    bits (s.registerValue 0x04) 8 2 = (match s.proc.executing with
      | some e => if e.cmd.code = 0x21 then 3 else 2
      | none => if s.proc.queue = [] then 0 else 1) ∧
    bits (s.registerValue 0x04) 16 8 = (match s.proc.executing with
      | some e => e.cmd.tag.toNat
      | none => 0) ∧
    ∀ r rest, s.proc.results = r :: rest → ResultPlaced s r

/-- The fields of the registers stand where the register map places them (R201). -/
def RegisterFieldsPlaced (s : State) : Prop :=
  (∀ i : Fin 6, (s.registerValue 0x03).getLsbD i.val =
      [s.notice.errors.queueOverflow, s.notice.errors.resultUnderflow, s.notice.errors.sweepLate,
        s.notice.errors.nvFault, s.notice.errors.loadDamage, s.notice.errors.badRegister][i.val]) ∧
    bits (s.registerValue 0x03) 6 26 = 0 ∧
    ProcessorPlaced s ∧ ReadyPlaced s ∧ s.registerValue 0x17 = s.notice.enables.zeroExtend 32 ∧
    (s.notice.stack.length ≤ 23 →
      (s.registerValue 0x18).getLsbD 0 = (s.notice.mode == .vectored) ∧ bits (s.registerValue 0x18) 1 7 = 0 ∧
        bits (s.registerValue 0x18) 8 8 = (match s.notice.stack with
          | top :: _ => top.val
          | [] => 0xFF) ∧
        bits (s.registerValue 0x18) 16 5 = s.notice.stack.length) ∧
    (s.timer.remaining ≤ 86400 →
      bits (s.registerValue 0x1C) 0 17 = s.timer.remaining ∧
        (s.registerValue 0x1C).getLsbD 24 = (s.timer.sweep != .idle) ∧
        (s.registerValue 0x1C).getLsbD 25 = s.timer.owed) ∧
    (∀ page : Fin 9, (s.registerValue 0x1D).getLsbD page.val = (s.commit.dirty[page]).isSome) ∧
    bits (s.registerValue 0x1D) 12 3 = s.commit.phase.code ∧
    bits (s.registerValue 0x1D) 16 4 = (match s.commit.faultPage with
      | some page => page.val
      | none => 0xF) ∧
    bits (s.registerValue 0x1E) 0 6 = s.port.lastSlot.val ∧ bits (s.registerValue 0x1E) 16 16 = s.port.topupCount.toNat ∧
    (s.port.lastAmount ≤ 9999999999 →
      bcdValue 2 (s.registerValue 0x1F).toNat = some (s.port.lastAmount / 10 ^ 8) ∧
        bcdValue 8 (s.registerValue 0x20).toNat = some (s.port.lastAmount % 10 ^ 8)) ∧
    (s.registerValue 0x21).getLsbD 0 = (s.timer.band == .b) ∧ (s.registerValue 0x21).getLsbD 1 = s.points.deferral ∧
    bits (s.registerValue 0x21) 2 30 = 0

/-- Bits not named for a register read 0 (R201). -/
def UnnamedBitsRead0 (s : State) : Prop :=
  bits (s.registerValue 0x01) 3 5 = 0 ∧ bits (s.registerValue 0x01) 12 20 = 0 ∧ bits (s.registerValue 0x04) 6 2 = 0 ∧
    bits (s.registerValue 0x04) 10 6 = 0 ∧ bits (s.registerValue 0x04) 24 8 = 0 ∧
    (s.notice.stack.length ≤ 23 → bits (s.registerValue 0x18) 21 11 = 0) ∧
    (s.timer.remaining ≤ 86400 → bits (s.registerValue 0x1C) 17 7 = 0 ∧ bits (s.registerValue 0x1C) 26 6 = 0) ∧
    bits (s.registerValue 0x1D) 9 3 = 0 ∧ bits (s.registerValue 0x1D) 15 1 = 0 ∧ bits (s.registerValue 0x1D) 20 12 = 0 ∧
    bits (s.registerValue 0x1E) 6 10 = 0 ∧
    (s.port.lastAmount ≤ 9999999999 → bits (s.registerValue 0x1F) 8 24 = 0) ∧
    (s.proc.results.length ≤ 16 → bits (s.registerValue 0x0D) 5 27 = 0)

/-! ### Digits -/

/-- Digit `j` of a packed field, counted from the least significant. -/
def nibble (w j : Nat) : Nat := w / 16 ^ j % 16

/-- None of the digits of a packed field is bad (R27). -/
def DigitsGood (digits w : Nat) : Prop := ∀ j, j < digits → nibble w j ≤ 9

/-- A byte of two decimal digits, the more significant in bits 7:4 (R206). -/
def DigitPair (b : Byte) : Prop := b.toNat / 16 ≤ 9 ∧ b.toNat % 16 ≤ 9

/-- The number the two digits of a byte make. -/
def pairValue (b : Byte) : Nat := b.toNat / 16 * 10 + b.toNat % 16

/-! ### Conditions of a statement -/

/-- The operation of an executing command is in progress, with this code. -/
def Granted (s : State) (code : Byte) (cmd : QueuedCommand) : Prop :=
  s.engine.op = .busy (.command cmd true) ∧ cmd.code = code

/-- A command with this code has been started and handed to its block. -/
def Handed (s : State) (code : Byte) (cmd : QueuedCommand) : Prop :=
  s.proc.executing = some { cmd, phase := .handed } ∧ cmd.code = code

/-- No WAIT is executing. -/
def NotWaiting (s : State) : Prop := ∀ cmd w, s.proc.executing ≠ some { cmd, phase := .waiting w }

/-- The settings at their defaults (R48, R79, R85, R137, R182). -/
def AtDefaults (t : State) : Prop :=
  (∀ p, (t.point p).binding = none ∧
      (t.point p).config = { edgeMode := .rise, prescale := 1, debounce := .ms1, grace := 300, restore := .automatic }) ∧
    (∀ i : Fin 8, t.timer.tariffs[i] = { priceA := 0, priceB := 0, standing := 0 }) ∧ t.timer.periodLength = 3600 ∧
    t.commit.interval = 60 ∧ t.port.enabled = false ∧ t.port.address = 0x3A ∧ t.port.maximum = 0

end Sys2Proof.Machine
end

