-- ==== Sys2Proof/Certificates/Slice0/Obligations.lean ====
section
/-! DEFINITION. The statements for the provers, by chapter. `exec c s = .next t` says that the command c completes in the
state s; an equation to a state written out is also its frame. -/

section Statements

open Sys2Proof Sys2Proof.Machine

/-! ### The step and reset -/

/-- A step runs the command at the front of the queue on the state with the rest of the queue. Idling on an empty queue is
the model's choice (log entry 2). -/
def Obligations.StepRunsFrontCommand : Prop :=
  (∀ (s : State) (c : Instr) (rest : List Instr), s.pending = c :: rest → step s = exec c { s with pending := rest }) ∧
    ∀ s : State, s.pending = [] → step s = .next s

/-- The volatile values the spec gives for reset, and a new part's nine erased pages. That the state after reset is the run
state RESET is the model's choice (log entry 6). -/
def Obligations.ResetHoldsResetValues : Prop :=
  State.reset.run.runState = .reset ∧
    (∀ i, State.reset.slot i =
      { number := 0, status := .free, balance := 0, ec := 0, low := 0, tariff := 0, level := .normal, boundCount := 0 }) ∧
    State.reset.engine.directory = [] ∧ State.reset.engine.attention = [] ∧ State.reset.engine.op = .free ∧
    (∀ p, (State.reset.point p).binding = none ∧
      (State.reset.point p).config =
        { edgeMode := .rise, prescale := 1, debounce := .ms1, grace := 300, restore := .automatic } ∧
      (State.reset.point p).edgeCounter = 0 ∧ (State.reset.point p).pending = 0 ∧
      (State.reset.point p).state = .detached ∧ (State.reset.point p).graceRemaining = 0 ∧
      (State.reset.point p).hostHold = false ∧ (State.reset.point p).view = none ∧
      (State.reset.point p).flags.any = false) ∧
    State.reset.points.deferral = false ∧
    (∀ i : Fin 8, State.reset.timer.tariffs[i] = { priceA := 0, priceB := 0, standing := 0 }) ∧
    State.reset.timer.band = .a ∧ State.reset.timer.periodLength = 3600 ∧ State.reset.timer.remaining = 0 ∧
    State.reset.timer.sweep = .idle ∧ State.reset.timer.owed = false ∧
    (∀ i : Fin 7, State.reset.proc.staging[i] = 0) ∧ State.reset.proc.queue = [] ∧
    State.reset.proc.executing = none ∧ State.reset.proc.results = [] ∧ State.reset.proc.mark = 0 ∧
    State.reset.port.state = .idle ∧ State.reset.port.receive = [] ∧ State.reset.port.reply = [] ∧
    State.reset.port.lastSlot = 0 ∧ State.reset.port.lastAmount = 0 ∧ State.reset.port.topupCount = 0 ∧
    State.reset.port.enabled = false ∧ State.reset.port.address = 0x3A ∧ State.reset.port.maximum = 0 ∧
    State.reset.notice.enables = 0 ∧ State.reset.readyFlags = 0 ∧ State.reset.notice.mode = .summary ∧
    State.reset.notice.stack = [] ∧ State.reset.notice.errors.any = false ∧
    (∀ page : Fin 9, State.reset.commit.dirty[page] = none) ∧ State.reset.commit.eligible = [] ∧
    State.reset.commit.phase = .idle ∧ State.reset.commit.snapshot = none ∧ State.reset.commit.faultPage = none ∧
    State.reset.commit.interval = 60 ∧ ∀ page : Fin 9, State.reset.nv[page] = .erased

/-- RESET from any state abandons all work, drives every output off, and leaves the array as it was but for a page in ERASE
or PROGRAM, which is damaged. A page in VERIFY is left as it was (R171; the model follows it where R209's words differ, log
entry 32).
A transaction at the register port is dropped, and TSDA and SDO are left undriven.
LOADING_START from RESET gives every volatile field its reset value and begins load with page 8.
The model's choice: that the volatile values stand already at entry to RESET (log entry 7), that the lines of the meters keep
their levels and the debounced levels are low (log entry 8), the values the spec does not give, as the sweep cursor 0, the
acknowledge clear, nothing sent, no start seen, no retry and no wanted pages (log entry 9). -/
def Obligations.ResetThenLoadingStart : Prop :=
  (∀ s : State, ∃ t, exec .reset s = .next t ∧ t.run.runState = .reset ∧
     (∀ p, t.supplyOn p = false) ∧ t.safeAsserted = false ∧ t.noticeAsserted = false ∧ t.clockHeld = false ∧
     (∀ place, t.tsdaDrive place = .released) ∧ t.acknowledgeDrive = .released ∧ t.sdo = .undriven ∧
     t.spi = { selected := s.spi.selected, transaction := none } ∧
     t.engine = AccountEngine.atReset ∧ t.timer = PeriodTimer.atReset ∧ t.proc = CommandProcessor.atReset ∧
     t.port = TopUpPort.atReset ∧ t.notice = NoticeController.atReset ∧ t.commit = CommitEngine.atReset ∧
     t.points.deferral = false ∧ t.points.tally = none ∧ (∀ p, t.point p = { line := (s.point p).line }) ∧
     (∀ page : Fin 9, t.nv[page] =
       if s.commit.phase = .erase page ∨ s.commit.phase = .program page then .damaged else s.nv[page]) ∧
     t.pending = s.pending) ∧
  (∀ s : State, s.run.runState = .reset → ∃ t, exec .loadingStart s = .next t ∧
     t.run = { s.run with runState := .loading, loadPage := 8 } ∧
     t.engine = AccountEngine.atReset ∧ t.timer = PeriodTimer.atReset ∧ t.proc = CommandProcessor.atReset ∧
     t.port = TopUpPort.atReset ∧ t.notice = NoticeController.atReset ∧ t.commit = CommitEngine.atReset ∧
     t.points.deferral = false ∧ t.points.tally = none ∧ (∀ p, t.point p = { line := (s.point p).line }) ∧
     t.spi = { selected := s.spi.selected, transaction := none } ∧ t.nv = s.nv ∧ t.pending = s.pending)

/-! ### Load -/

/-- LOAD_SETTINGS_PAGE by the class of page 8: an erased page gives the defaults and no error, a damaged one the defaults,
LOAD_DAMAGE and an urgent report, a good one its stored fields: bindings, edge modes, prescales, debounces, grace, restore
modes, the eight tariffs, period length, interval and the port's configuration, with a default for one out of range. In every
case a point with a binding is HELD and one without is DETACHED, its view not loaded, its debounced level the line's, and
nothing else of any block changes. A field is unusable when its code, count, digits, length, interval, enable or address is out
of its range. A packed field has a value exactly when none of its digits is bad, and the value is its digits'. -/
def Obligations.SettingsPageLoadsByClass : Prop :=
  (∀ stored : StoredSettings, stored.unusable = true ↔
    (∃ p : Fin 16, (∃ b, stored.points[p].binding = some b ∧ 64 ≤ b.toNat) ∨ 2 < stored.points[p].edgeMode.toNat ∨
      ¬(1 ≤ stored.points[p].prescale.toNat ∧ stored.points[p].prescale.toNat ≤ 16) ∨
      3 < stored.points[p].debounce.toNat ∨ 1 < stored.points[p].restore.toNat) ∨
    (∃ i : Fin 8, ¬DigitsGood 6 stored.tariffs[i].priceA.toNat ∨ ¬DigitsGood 6 stored.tariffs[i].priceB.toNat ∨
      ¬DigitsGood 6 stored.tariffs[i].standing.toNat) ∨
    ¬(60 ≤ stored.periodLength.toNat ∧ stored.periodLength.toNat ≤ 86400) ∨ stored.interval.toNat = 0 ∨
    1 < stored.enable.toNat ∨ ¬(0x08 ≤ stored.address.toNat ∧ stored.address.toNat ≤ 0x77) ∨
    ¬DigitsGood 8 stored.maximum.toNat) ∧
  (∀ digits w v : Nat, bcdValue digits w = some v ↔
    DigitsGood digits w ∧ v = ((List.range digits).map fun j => nibble w j * 10 ^ j).sum) ∧
  ∀ s : State, s.run.runState = .loading → s.run.loadPage = 8 → ∃ t, exec .loadSettingsPage s = .next t ∧
    let damage := { s.notice with errors := { s.notice.errors with loadDamage := true } }
    t.run = { s.run with loadPage := 0 } ∧ t.engine = s.engine ∧ t.proc = s.proc ∧ t.nv = s.nv ∧
    t.timer = { s.timer with tariffs := t.timer.tariffs, periodLength := t.timer.periodLength } ∧
    t.port = { s.port with enabled := t.port.enabled, address := t.port.address, maximum := t.port.maximum } ∧
    t.commit = { s.commit with
      dirty := t.commit.dirty, eligible := t.commit.eligible, interval := t.commit.interval } ∧
    (∀ q : Fin 9, q ≠ 8 → t.commit.dirty[q] = s.commit.dirty[q]) ∧
    t.points = { s.points with points := t.points.points } ∧
    t.spi = s.spi ∧ t.readData = s.readData ∧ t.freeCount = s.freeCount ∧ t.pending = s.pending ∧
    (∀ p, t.point p = { s.point p with
      binding := (t.point p).binding, config := (t.point p).config,
      state := (if (t.point p).binding = none then .detached else .held), view := none,
      debounced := (s.point p).line, excursion := false }) ∧
    (s.nv[8] = .erased → AtDefaults t ∧ t.notice = s.notice ∧ t.commit.dirty = s.commit.dirty ∧
      t.commit.eligible = s.commit.eligible) ∧
    (s.nv[8] = .damaged → AtDefaults t ∧ t.notice = damage ∧ ReportedUrgent s t 8) ∧
    ∀ stored, s.nv[8] = .good (.settings stored) →
      (∀ p : Fin 16, (t.point p).binding =
          (match stored.points[p].binding with
          | some b => if h : b.toNat < 64 then some ⟨b.toNat, h⟩ else none
          | none => none) ∧
        (t.point p).config.grace = stored.points[p].grace.toNat ∧
        (t.point p).config.prescale =
          (if 1 ≤ stored.points[p].prescale.toNat ∧ stored.points[p].prescale.toNat ≤ 16 then
            stored.points[p].prescale.toNat else 1) ∧
        (t.point p).config.edgeMode =
          (if stored.points[p].edgeMode = 1 then .fall else if stored.points[p].edgeMode = 2 then .both else .rise) ∧
        (t.point p).config.debounce =
          (if stored.points[p].debounce = 0 then .ms0 else if stored.points[p].debounce = 2 then .ms4
            else if stored.points[p].debounce = 3 then .ms16 else .ms1) ∧
        (t.point p).config.restore = (if stored.points[p].restore = 1 then .onCommand else .automatic)) ∧
      (∀ i : Fin 8, t.timer.tariffs[i] =
        { priceA := (bcdValue 6 stored.tariffs[i].priceA.toNat).getD 0,
          priceB := (bcdValue 6 stored.tariffs[i].priceB.toNat).getD 0,
          standing := (bcdValue 6 stored.tariffs[i].standing.toNat).getD 0 }) ∧
      t.timer.periodLength =
        (if 60 ≤ stored.periodLength.toNat ∧ stored.periodLength.toNat ≤ 86400 then stored.periodLength.toNat else 3600) ∧
      t.commit.interval = (if stored.interval = 0 then 60 else stored.interval.toNat) ∧
      (t.port.enabled = true ↔ stored.enable = 1) ∧
      t.port.address =
        (if 0x08 ≤ stored.address.toNat ∧ stored.address.toNat ≤ 0x77 then BitVec.ofNat 7 stored.address.toNat
          else 0x3A) ∧
      t.port.maximum = (bcdValue 8 stored.maximum.toNat).getD 0 ∧
      (stored.unusable = true → t.notice = damage ∧ ReportedUrgent s t 8) ∧
      (stored.unusable = false → t.notice = s.notice ∧ t.commit.dirty = s.commit.dirty ∧
        t.commit.eligible = s.commit.eligible)

/-- LOAD_ACCOUNT_PAGE by the class of the page: an erased page loads eight FREE slots; a damaged page loads eight QUARANTINED
slots with zeroed fields and level LOW, whose QUARANTINE entries join the attention list in ascending slot order behind those
there, sets LOAD_DAMAGE, and is marked until a commit of it verifies (log entry 32); a good page loads its eight records in
ascending order, each as loadSlot takes it; every other slot is as it was, and after pages 0 to 6 the next page follows. In each
class a point bound to a slot of the page that is now FREE is detached; any other point bound to the page is told its slot's
status and level, with evaluation on release; no other point changes. When a point has been detached the settings page is
reported urgent, once, and no account page is reported; nothing else of the Commit Engine changes but, at the end of load with
PFW_N asserted, the entry to HOLDUP. The end of load: after page 7 the period counter is loaded, and the part is in RUN, or,
with PFW_N asserted, in HOLDUP with POWER ready and every dirty page urgent, those not yet in the eligible list behind the
others in ascending order. -/
def Obligations.AccountPagesLoadByClass : Prop :=
  (∀ (s : State) (k : Fin 8), s.run.runState = .loading → s.run.loadPage = k.castSucc →
     ∃ t, exec .loadAccountPage s = .next t ∧ t.nv = s.nv ∧ t.engine.op = s.engine.op ∧
       (∀ i : Fin 64, i.val / 8 ≠ k.val → t.slot i = s.slot i) ∧
       (k ≠ 7 → t.run = { s.run with loadPage := k.succ } ∧ t.timer = s.timer ∧ t.proc = s.proc ∧ t.port = s.port) ∧
       (s.nv[k.castSucc] = .erased →
         (∀ j : Fin 8, t.slot (slotAt k j) = Account.free) ∧ t.engine.directory = s.engine.directory ∧
           t.engine.attention = s.engine.attention ∧ t.notice.errors = s.notice.errors) ∧
       (s.nv[k.castSucc] = .damaged →
         (∀ j : Fin 8, t.slot (slotAt k j) =
           { number := 0, status := .quarantined, balance := 0, ec := 0, low := 0, tariff := 0, level := .low,
             boundCount := (List.finRange 16).countP fun p => (s.point p).binding == some (slotAt k j) }) ∧
         t.engine.attention = (List.finRange 8).foldl (fun entries j =>
           joinReasons (slotAt k j) { quarantine := true } entries) s.engine.attention ∧
         t.engine.directory = s.engine.directory ∧
         t.notice.errors = { s.notice.errors with loadDamage := true }) ∧
       t.commit.unverified =
         (if s.nv[k.castSucc] = .damaged then s.commit.unverified ||| pageBit k.castSucc else s.commit.unverified) ∧
       (∀ stored, s.nv[k.castSucc] = .good (.accounts stored) →
         let u := (List.finRange 8).foldl (fun u j => u.loadSlot (slotAt k j) stored[j]) s
         (∀ j : Fin 8, t.slot (slotAt k j) =
           { u.slot (slotAt k j) with boundCount :=
               if (u.slot (slotAt k j)).status = .free then 0
               else (List.finRange 16).countP fun p => (s.point p).binding == some (slotAt k j) }) ∧
         t.engine.directory = u.engine.directory ∧ t.engine.attention = u.engine.attention ∧
         t.notice.errors = u.notice.errors) ∧
       (∀ (p : Fin 16) slot, (s.point p).binding = some slot → slot.val / 8 = k.val →
         ((t.slot slot).status = .free →
           t.point p = { s.point p with
             binding := none, state := .detached, edgeCounter := 0, pending := 0, graceRemaining := 0, hostHold := false,
             view := none, flags := { stray := (s.point p).flags.stray } }) ∧
         ((t.slot slot).status ≠ .free →
           t.point p = (s.point p).notified s.points.deferral (t.slot slot).status (t.slot slot).level)) ∧
       (∀ p : Fin 16, (∀ slot, (s.point p).binding = some slot → slot.val / 8 ≠ k.val) → t.point p = s.point p) ∧
       t.points = { s.points with points := t.points.points } ∧
       t.commit = { s.commit with
         dirty := t.commit.dirty, eligible := t.commit.eligible, unverified := t.commit.unverified } ∧
       let cleared := ∃ (p : Fin 16) (slot : Fin 64),
         (s.point p).binding = some slot ∧ slot.val / 8 = k.val ∧ (t.slot slot).status = .free
       let urgentAll := decide (k = 7) && s.run.pfwAsserted
       let joined := fun pages =>
         if urgentAll then joinedAscending pages (fun page => (t.commit.dirty[page]).isSome) else pages
       (∀ q : Fin 9, q ≠ 8 ∨ ¬cleared →
         t.commit.dirty[q] = s.commit.dirty[q].map fun r => { r with urgent := r.urgent || urgentAll }) ∧
       (cleared → RecordedUrgent s t 8 ∧
         t.commit.eligible = joined (eligibleAfterUrgent s.commit.dirty[8] 8 s.commit.eligible)) ∧
       (¬cleared → t.commit.eligible = joined s.commit.eligible)) ∧
  (∀ s : State, s.run.runState = .loading → s.run.loadPage = 7 → ∃ t, exec .loadAccountPage s = .next t ∧
     t.run.loadPage = 0 ∧ t.timer.remaining = s.timer.periodLength ∧
     (s.run.pfwAsserted = false → t.run.runState = .run) ∧
     (s.run.pfwAsserted = true → t.run.runState = .holdup ∧ t.notice.power = true ∧
       ∀ (page : Fin 9) r, t.commit.dirty[page] = some r → r.urgent = true))

/-- One stored record as load takes it: a record stored FREE loads the FREE values; one stored ACTIVE or SUSPENDED, sound, with
a number that is not 0 and not in the directory loads as an account with its entry; any other is QUARANTINED, and for every
cause but a stored QUARANTINED status LOAD_DAMAGE is set. A record that is not FREE has its stored fields, each bad digit read
as 0 and a tariff above 7 as 0, with the level they give; a QUARANTINED slot gets the reason QUARANTINE; no other slot changes.
A record is sound when its number, balance, EC and L have no bad digit and its tariff is at most 7. -/
def Obligations.StoredRecordLoadsOrQuarantines : Prop :=
  (∀ stored : StoredAccount, stored.sound = true ↔
    DigitsGood 8 stored.number.toNat ∧ DigitsGood 10 stored.balance.toNat ∧ DigitsGood 8 stored.ec.toNat ∧
      DigitsGood 8 stored.low.toNat ∧ stored.tariff.toNat ≤ 7) ∧
  (∀ digits w : Nat, bcdMended digits w =
    ((List.range digits).map fun j => (if nibble w j ≤ 9 then nibble w j else 0) * 10 ^ j).sum) ∧
  ∀ (s : State) (slot : Fin 64) (stored : StoredAccount),
    (stored.status = 0 → (s.loadSlot slot stored).slot slot = Account.free ∧
      (s.loadSlot slot stored).engine.directory = s.engine.directory ∧ (s.loadSlot slot stored).notice = s.notice) ∧
    (∀ number, (stored.status = 1 ∨ stored.status = 2) → stored.sound = true →
      bcdValue 8 stored.number.toNat = some number → number ≠ 0 → s.lookup number = none →
      ((s.loadSlot slot stored).slot slot).number = number ∧
        ((s.loadSlot slot stored).slot slot).status = (if stored.status = 1 then .active else .suspended) ∧
        ((s.loadSlot slot stored).slot slot).level =
          levelOf ((s.loadSlot slot stored).slot slot).balance ((s.loadSlot slot stored).slot slot).low
            ((s.loadSlot slot stored).slot slot).ec ∧
        { number, slot } ∈ (s.loadSlot slot stored).engine.directory ∧ (s.loadSlot slot stored).notice = s.notice) ∧
    (∀ number, (stored.status = 1 ∨ stored.status = 2) → bcdMended 8 stored.number.toNat = number →
      (stored.sound = false ∨ number = 0 ∨ (s.lookup number).isSome = true) →
      ((s.loadSlot slot stored).slot slot).status = .quarantined ∧
        (s.loadSlot slot stored).engine.directory = s.engine.directory ∧
        (s.loadSlot slot stored).notice.errors.loadDamage = true) ∧
    (stored.status = 3 → ((s.loadSlot slot stored).slot slot).status = .quarantined ∧
      (s.loadSlot slot stored).notice = s.notice) ∧
    (3 < stored.status.toNat → ((s.loadSlot slot stored).slot slot).status = .quarantined ∧
      (s.loadSlot slot stored).notice.errors.loadDamage = true) ∧
    (stored.status ≠ 0 →
      let a := (s.loadSlot slot stored).slot slot
      let magnitude := bcdMended 10 stored.balance.toNat
      a.number = bcdMended 8 stored.number.toNat ∧ a.balance = (if stored.sign = 0 then (magnitude : Int) else -magnitude) ∧
        a.ec = bcdMended 8 stored.ec.toNat ∧ a.low = bcdMended 8 stored.low.toNat ∧
        a.tariff.val = (if stored.tariff.toNat < 8 then stored.tariff.toNat else 0) ∧
        a.level = levelOf a.balance a.low a.ec ∧ a.boundCount = 0) ∧
    (((s.loadSlot slot stored).slot slot).status = .quarantined →
      (s.loadSlot slot stored).engine.attention = joinReasons slot { quarantine := true } s.engine.attention) ∧
    (((s.loadSlot slot stored).slot slot).status ≠ .quarantined →
      (s.loadSlot slot stored).engine.attention = s.engine.attention) ∧
    SlotsKept s (s.loadSlot slot stored) slot ∧ (s.loadSlot slot stored).points = s.points ∧
      (s.loadSlot slot stored).commit = s.commit

/-! ### Power warning -/

/-- Entry to HOLDUP from RUN: POWER is ready, every dirty page is urgent with its age kept, those not yet in the eligible list
join it behind the others in ascending order, a write in progress at the Top-up Port is abandoned and its rest left
unacknowledged (log entry 30), while a port in any other state is as it was, a WAITING WAIT ends with status HOLDUP or, when a
condition change of this event is taken first and meets it, DONE (the operand is the model's choice, log entry 4), its result
with the chosen conditions that hold and the remaining timeout; any other executing command goes on, and with none the Command
Processor is as it was; points, accounts, sweep and array are as they were. In every other run state the assertion of PFW_N is
recorded, and nothing else changes (log entry 26). -/
def Obligations.HoldupEntryActsOnEachBlock : Prop :=
  (∀ (s : State) (conditionFirst : Bool), s.run.runState ≠ .run →
    exec (.entryToHoldup conditionFirst) s = .next { s with run := { s.run with pfwAsserted := true } }) ∧
  ∀ (s : State) (conditionFirst : Bool), s.run.runState = .run → ∃ t, exec (.entryToHoldup conditionFirst) s = .next t ∧
    t.run.runState = .holdup ∧ t.run.pfwAsserted = true ∧ t.notice = { s.notice with power := true } ∧
    t.points = s.points ∧ t.engine = s.engine ∧ t.timer = s.timer ∧ t.nv = s.nv ∧
    CommitFrame s t ∧
    (∀ page : Fin 9, t.commit.dirty[page] = s.commit.dirty[page].map (fun r => { urgent := true, age := r.age })) ∧
    t.commit.eligible = joinedAscending s.commit.eligible (fun page => (s.commit.dirty[page]).isSome) ∧
    t.port =
      (if s.port.state = .addressedWrite ∨ s.port.state = .receive ∨ s.port.state = .discard then
        { s.port with state := .idle, receive := [], awaitsAddress := false, acked := false }
      else s.port) ∧
    (∀ cmd w, s.proc.executing = some { cmd, phase := .waiting w } →
      let v : State := { t with proc := s.proc }
      let met := w.conditions &&& v.conditionsHeld = w.conditions
      (conditionFirst = true → met → t.proc = (waitEnded v cmd w .done).proc) ∧
      (conditionFirst = true → ¬met → t.proc = (waitEnded v cmd w .holdup).proc) ∧
      (conditionFirst = false → t.proc = (waitEnded s cmd w .holdup).proc)) ∧
    (s.proc.executing = none → t.proc = s.proc) ∧
    (∀ cmd phase, s.proc.executing = some { cmd, phase } → cmd.code ≠ 0x21 → (∀ w, phase ≠ .waiting w) →
      t.proc = s.proc)

/-- Entry to SAFE: HOLDUP with the dirty set empty, the Commit Engine IDLE, the engine FREE with nothing waiting, no charge
outstanding, the port not in APPLY and no command executing; nothing else changes than the run state and POWER. While one of
these fails, or outside HOLDUP, nothing changes and the run state stays. The output SAFE is asserted in SAFE alone.
The return to RUN: a PAUSED sweep runs on at its cursor, an IDLE sweep that owes one starts anew, and nothing else changes.
Outside HOLDUP and SAFE the deassertion of PFW_N is recorded, and nothing else changes (log entry 26). -/
def Obligations.SafeEntryAndReturnToRun : Prop :=
  (∀ s : State, s.run.runState = .holdup → (∀ page : Fin 9, s.commit.dirty[page] = none) → s.commit.phase = .idle →
     s.engine.op = .free → s.port.request = none → (∀ p, (s.point p).chargeRequest = false) →
     s.timer.sweep ≠ .running → s.port.state ≠ .applying → s.proc.executing = none →
     exec .entryToSafe s =
       .next { s with run := { s.run with runState := .safe }, notice := { s.notice with power := true } }) ∧
  (∀ s : State, s.run.runState ≠ .holdup ∨ (∃ page : Fin 9, s.commit.dirty[page] ≠ none) ∨ s.commit.phase ≠ .idle ∨
       s.engine.op ≠ .free ∨ s.port.request ≠ none ∨ (∃ p, (s.point p).chargeRequest = true) ∨
       s.timer.sweep = .running ∨ s.port.state = .applying ∨ s.proc.executing ≠ none →
     exec .entryToSafe s = .next s) ∧
  (∀ s : State, s.safeAsserted = true ↔ s.run.runState = .safe) ∧
  (∀ s : State, (s.run.runState = .holdup ∨ s.run.runState = .safe) →
     exec .returnToRun s = .next { s with
       run := { s.run with runState := .run, pfwAsserted := false }
       timer :=
         if s.timer.sweep = .paused then { s.timer with sweep := .running }
         else if s.timer.sweep = .idle ∧ s.timer.owed = true then
           { s.timer with sweep := .running, cursor := 0, owed := false }
         else s.timer }) ∧
  ∀ s : State, s.run.runState ≠ .holdup → s.run.runState ≠ .safe →
    exec .returnToRun s = .next { s with run := { s.run with pfwAsserted := false } }

/-! ### Ticks -/

/-- A tick and the period count: while the counter runs the count falls by 1, and at a boundary it is loaded with the period
length; the band, the tariffs and the length are as they were.
The timeout of a WAITING WAIT: a tick that brings no boundary takes 1 from a remaining timeout, and at 0 the WAIT ends
with TIMEOUT, the conditions held in extra A and 0 in extra B; a timeout of 0 is never taken.
A tick that brings a boundary too sets the period latch: the WAIT is re-tested and is DONE when every chosen condition holds.
Which of the two, boundary and timeout, the WAIT meets first is an operand of the tick (the model's choice, log entry 4). -/
def Obligations.TickCountsPeriodAndTimeout : Prop :=
  (∀ (s : State) (conditionFirst : Bool), s.operating = true → 1 ≤ s.timer.remaining →
     ∃ t, exec (.tick conditionFirst) s = .next t ∧
       t.timer.remaining = (if s.timer.remaining = 1 then s.timer.periodLength else s.timer.remaining - 1) ∧
       t.timer.periodLength = s.timer.periodLength ∧ t.timer.band = s.timer.band ∧ t.timer.tariffs = s.timer.tariffs ∧
       (s.timer.remaining ≠ 1 → t.timer.sweep = s.timer.sweep ∧ t.timer.cursor = s.timer.cursor ∧
         t.timer.owed = s.timer.owed ∧ t.notice = s.notice) ∧
       t.run = s.run ∧ t.engine = s.engine ∧ t.port = s.port ∧ t.nv = s.nv) ∧
  (∀ (s : State) (conditionFirst : Bool) cmd w, s.operating = true → 1 < s.timer.remaining →
     s.proc.executing = some { cmd, phase := .waiting w } → ∃ t, exec (.tick conditionFirst) s = .next t ∧
       (w.timeout = 0 → t.proc = s.proc) ∧
       (w.timeout ≠ 0 → 1 < w.remaining →
         t.proc = { s.proc with
           executing := some { cmd, phase := .waiting { w with remaining := w.remaining - 1 } } }) ∧
       (w.timeout ≠ 0 → w.remaining = 1 →
         t.proc = { s.proc with
           executing := none, periodLatch := false,
           results := s.proc.results ++ [{ plainResult cmd .timeout with
             extraA := (w.conditions &&& s.conditionsHeld).zeroExtend 32 }] })) ∧
  (∀ (s u : State) (conditionFirst : Bool) cmd w, s.operating = true → s.timer.remaining = 1 →
     s.proc.executing = some { cmd, phase := .waiting w } →
     exec (.tick conditionFirst) { s with proc := { s.proc with executing := none } } = .next u →
     let v : State := { u with proc := { s.proc with periodLatch := true } }
     let met := w.conditions &&& v.conditionsHeld = w.conditions
     let expires := w.timeout ≠ 0 ∧ w.remaining ≤ 1
     let left : WaitState := if w.timeout = 0 then w else { w with remaining := w.remaining - 1 }
     let goesOn := Host.Outcome.next (φ := Fault) (ρ := Refusal)
       { v with proc := { v.proc with executing := some { cmd, phase := .waiting left } } }
     (conditionFirst = true →
       (met → exec (.tick conditionFirst) s = .next (waitEnded v cmd w .done)) ∧
       (¬met → expires → exec (.tick conditionFirst) s = .next (waitEnded v cmd { w with remaining := 0 } .timeout)) ∧
       (¬met → ¬expires → exec (.tick conditionFirst) s = goesOn)) ∧
     (conditionFirst = false →
       (expires → exec (.tick conditionFirst) s =
         .next { u with proc := (waitEnded s cmd { w with remaining := 0 } .timeout).proc }) ∧
       (¬expires → met → exec (.tick conditionFirst) s = .next (waitEnded v cmd left .done)) ∧
       (¬expires → ¬met → exec (.tick conditionFirst) s = goesOn)))

/-- Grace at a tick in RUN, HOLDUP and SAFE: every point in GRACE with some left has 1 less; at 0 the point goes to CUT, with
SUPp off and the CUT flag set, when deferral is off, and stays in GRACE with its supply on when it is on. No tick moves any
other point, and in RESET and LOADING a tick moves none.
Ageing at a tick, in LOADING, RUN, HOLDUP and SAFE: a routine record is one tick older up to 255, an urgent one is not aged, and
each stays what it was; the pages that were in the eligible list keep their places, and behind them join, each once, exactly the
pages outside it whose routine record the tick brings to the commit interval. Their order among themselves is a free value (log
entry 5), and nothing is stated of it. -/
def Obligations.TickCountsGraceAndAges : Prop :=
  (∀ (s : State) (conditionFirst : Bool), ∃ t, exec (.tick conditionFirst) s = .next t ∧
     (s.operating = false → t.points = s.points) ∧
     (s.operating = true → ∀ p,
       (¬((s.point p).state = .grace ∧ 0 < (s.point p).graceRemaining) → t.point p = s.point p) ∧
       ((s.point p).state = .grace → 1 < (s.point p).graceRemaining →
         t.point p = { s.point p with graceRemaining := (s.point p).graceRemaining - 1 }) ∧
       ((s.point p).state = .grace → (s.point p).graceRemaining = 1 → s.points.deferral = false →
         t.point p = { s.point p with
           state := .cut, graceRemaining := 0, flags := { (s.point p).flags with cut := true } } ∧
         t.supplyOn p = false) ∧
       ((s.point p).state = .grace → (s.point p).graceRemaining = 1 → s.points.deferral = true →
         t.point p = { s.point p with graceRemaining := 0 } ∧ t.supplyOn p = true))) ∧
  (∀ (s : State) (conditionFirst : Bool), s.run.runState ≠ .reset → ∃ t, exec (.tick conditionFirst) s = .next t ∧
     (∀ (page : Fin 9) r, s.commit.dirty[page] = some r →
       (r.urgent = true → t.commit.dirty[page] = some r) ∧
       (r.urgent = false → t.commit.dirty[page] = some { urgent := false, age := min (r.age + 1) 255 }) ∧
       (r.urgent = false → r.age + 1 = s.commit.interval → page ∈ t.commit.eligible)) ∧
     (∀ page : Fin 9, s.commit.dirty[page] = none → t.commit.dirty[page] = none) ∧
     (∃ joined, t.commit.eligible = s.commit.eligible ++ joined ∧ joined.Nodup ∧
       ∀ page : Fin 9, page ∈ joined ↔ page ∉ s.commit.eligible ∧
         ∃ r, s.commit.dirty[page] = some r ∧ r.urgent = false ∧ r.age + 1 = s.commit.interval) ∧
     CommitFrame s t)

/-- A period boundary by the table of run state, sweep state and owed: the count is loaded; in RUN an IDLE sweep starts at
slot 0; otherwise owed is set; and with owed set already the boundary is dropped with SWEEP_LATE. In operation the boundary is
taken by the tick that finds the remaining count at 1, in that tick's own step; that the row PERIOD_BOUNDARY acts on a count
that stands at 0 is the model's reading (log entry 3), and so is dropping the boundary that finds RUN, an IDLE sweep and owed
set, which no run reaches (log entry 21). -/
def Obligations.BoundaryActsByTable : Prop :=
  ∀ s : State, s.operating = true →
    let timer : PeriodTimer :=
      if s.timer.owed = true then { s.timer with remaining := s.timer.periodLength }
      else if s.run.runState = .run ∧ s.timer.sweep = .idle then
        { s.timer with remaining := s.timer.periodLength, sweep := .running, cursor := 0, owed := false }
      else { s.timer with remaining := s.timer.periodLength, owed := true }
    let notice : NoticeController :=
      if s.timer.owed = true then { s.notice with errors := { s.notice.errors with sweepLate := true } } else s.notice
    (∀ conditionFirst : Bool, s.timer.remaining = 1 → ∃ t, exec (.tick conditionFirst) s = .next t ∧ t.timer = timer ∧
      t.notice = notice ∧ t.run = s.run ∧ t.engine = s.engine ∧ t.port = s.port ∧ t.nv = s.nv) ∧
    (s.timer.remaining = 0 → NotWaiting s → exec .periodBoundary s = .next { s with timer, notice })

/-- The three counts at their ends: a point in GRACE with remaining 0 is cut unless deferral is on; a routine page at the
commit interval is in the eligible list; a WAIT with remaining timeout 0 ends with TIMEOUT. That the three are rows of their
own, beside the tick that brings them, is the model's reading (log entry 3). -/
def Obligations.EndedCountsTakeEffect : Prop :=
  (∀ (s : State) (p : Fin 16), s.operating = true → (s.point p).state = .grace → (s.point p).graceRemaining = 0 →
    ∃ t, exec (.graceExpiry p) s = .next t ∧
      (s.points.deferral = false →
        t.point p = { s.point p with state := .cut, flags := { (s.point p).flags with cut := true } } ∧
        t.supplyOn p = false) ∧
      (s.points.deferral = true → t.point p = s.point p ∧ t.supplyOn p = true) ∧
      (∀ q, q ≠ p → t.point q = s.point q) ∧ t.engine = s.engine ∧ t.timer = s.timer ∧ t.proc = s.proc ∧
      t.commit = s.commit ∧ t.notice = s.notice) ∧
  (∀ (s : State) (page : Fin 9) r, s.commit.dirty[page] = some r → r.urgent = false → s.commit.interval ≤ r.age →
    page ∉ s.commit.eligible →
    exec (.routinePageEligible page) s =
      .next { s with commit := { s.commit with eligible := s.commit.eligible ++ [page] } }) ∧
  ∀ (s : State) cmd w, s.proc.executing = some { cmd, phase := .waiting w } → w.timeout ≠ 0 → w.remaining = 0 →
    exec .waitTimeout s = .next { s with proc := { s.proc with
      executing := none, periodLatch := false,
      results := s.proc.results ++ [{ plainResult cmd .timeout with
        extraA := (w.conditions &&& s.conditionsHeld).zeroExtend 32 }] } }

/-! ### Meters -/

/-- A change of a meter line before the debouncers run changes the line alone (in RESET too: the model's reading, log entry 25);
afterwards, with a debounce time, it starts an excursion when the line leaves the debounced level and ends it when the line
returns; with debounce 0 it is judged at once like a completed excursion, and may count an edge.
A completed excursion, judged: while edges are counted, on an edge the mode counts, STRAY on a DETACHED point; otherwise one
more edge, and at the prescale one more pending unit, or, with 255 pending, LOCKED with its flag and the supply off. An edge
that is not counted changes the debounced level alone. No other point and no other block changes. Edges are counted in RUN, and
in LOADING after the settings page; the debouncers run from the load of the settings page on, in every run state but RESET. -/
def Obligations.LineChangesBecomeUnits : Prop :=
  (∀ s : State, (s.countsEdges = true ↔
      s.run.runState = .run ∨ (s.run.runState = .loading ∧ s.run.loadPage ≠ 8)) ∧
    (s.debouncing = true ↔ s.run.runState ≠ .reset ∧ ¬(s.run.runState = .loading ∧ s.run.loadPage = 8))) ∧
  (∀ (s : State) (p : Fin 16), ∃ q : Point,
     exec (.meterLineChange p) s = .next { s with points := { s.points with points := s.points.points.set p q } } ∧
     (s.debouncing = false → q = { s.point p with line := !(s.point p).line }) ∧
     (s.debouncing = true → (s.point p).config.debounce ≠ .ms0 →
       q = { s.point p with
         line := !(s.point p).line, excursion := ((!(s.point p).line) != (s.point p).debounced) }) ∧
     (s.debouncing = true → (s.point p).config.debounce = .ms0 →
       EdgeJudged s.countsEdges { s.point p with line := !(s.point p).line } q)) ∧
  (∀ (s : State) (p : Fin 16), s.debouncing = true → (s.point p).excursion = true → ∃ q : Point,
     exec (.debounceComplete p) s = .next { s with points := { s.points with points := s.points.points.set p q } } ∧
     EdgeJudged s.countsEdges (s.point p) q) ∧
  ∀ (s : State) (p : Fin 16), (s.point p).state = .locked → s.supplyOn p = false

/-! ### The Account Engine -/

/-- The grant order: the FREE engine grants the APPLY; else the charge of the lowest waiting point, with its pending count,
slot and unit price in the current band; else the GATHER of the Commit Engine's page; else the executing command's
operation; else the STANDING at the cursor. -/
def Obligations.GrantFollowsFixedOrder : Prop :=
  ∀ s : State, s.operating = true → s.engine.op = .free →
    (∀ r, s.port.request = some r →
      exec .engineGrant s = .next { s with
        engine := { s.engine with op := .busy (.applyFrame r true) }, port := { s.port with request := none } }) ∧
    (∀ (p : Fin 16) slot, s.port.request = none → (s.point p).chargeRequest = true →
      (∀ q, q < p → (s.point q).chargeRequest = false) → (s.point p).binding = some slot →
      exec .engineGrant s = .next { s with engine := { s.engine with
        op := .busy (.charge p (s.point p).pending slot
          (if s.timer.band = .a then s.timer.tariffs[(s.slot slot).tariff].priceA
            else s.timer.tariffs[(s.slot slot).tariff].priceB)) } }) ∧
    (s.port.request = none → (∀ q, (s.point q).chargeRequest = false) →
      (∀ page, s.commit.phase = .gather page →
        exec .engineGrant s = .next { s with engine := { s.engine with op := .busy (.gather page) } }) ∧
      ((∀ page, s.commit.phase ≠ .gather page) →
        (∀ cmd, s.proc.executing = some { cmd, phase := .requested } →
          exec .engineGrant s = .next { s with
            engine := { s.engine with op := .busy (.command cmd true) }
            proc := { s.proc with executing := some { cmd, phase := .granted } } }) ∧
        ((∀ cmd, s.proc.executing ≠ some { cmd, phase := .requested }) → s.timer.sweep = .running →
          exec .engineGrant s = .next { s with engine := { s.engine with
            op := .busy (.standing s.timer.cursor
              s.timer.tariffs[(s.slot s.timer.cursor).tariff].standing) } })))

/-- The completion of CHARGE: the amount n times price leaves the balance, which stops at -9,999,999,999; the level follows; the
reason of its change, and LIMIT for a clamp, join the attention list; nothing else of the slot changes; pending falls by n; the
page is reported, routine outside HOLDUP and SAFE; an UNBIND's tally for the point takes n and the amount (the whole n times
price, of a clamped CHARGE too: the model's reading, log entry 33); the points bound to the slot are told when its level has
changed. A CHARGE of a balance at -9,999,999,999 leaves slot and page unchanged and adds LIMIT. A CHARGE of amount 0 leaves
balance, level and page unchanged and still takes its units from pending; an UNBIND's tally for the point takes the units and no
amount. -/
def Obligations.ChargeTakesAmountAndUnits : Prop :=
  (∀ (s : State) (p : Fin 16) (n : Nat) (slot : Fin 64) (price : Nat),
     s.engine.op = .busy (.charge p n slot price) → NotWaiting s → n * price ≠ 0 →
     -9999999999 ≤ (s.slot slot).balance →
     ∃ t, exec .charge s = .next t ∧ t.engine.op = .free ∧ t.engine.directory = s.engine.directory ∧
       (-9999999999 < (s.slot slot).balance →
         (let balance := max ((s.slot slot).balance - (n * price : Nat)) (-9999999999)
          t.slot slot = { s.slot slot with
            balance, level := levelOf balance (s.slot slot).low (s.slot slot).ec }) ∧
         (s.warned = false → ReportedRoutine s t (pageOf slot)) ∧
         (s.warned = true → ReportedUrgent s t (pageOf slot))) ∧
       ((s.slot slot).balance = -9999999999 → t.slot slot = s.slot slot ∧ t.commit = s.commit) ∧
       t.engine.attention = attentionAfter slot (s.slot slot).level (t.slot slot).level
         (decide ((s.slot slot).balance - (n * price : Nat) < -9999999999)) s.engine.attention ∧
       (0 < (s.slot slot).boundCount → ∀ q, (s.point q).binding = some slot →
         t.point q = { toldPoint s t slot q with
           pending := if q = p then (s.point q).pending - n else (s.point q).pending }) ∧
       (t.point p).pending = (s.point p).pending - n ∧ SlotsKept s t slot ∧ CommitKept s t (pageOf slot) ∧
       (∀ q, (s.point q).binding ≠ some slot → q ≠ p → t.point q = s.point q) ∧
       (∀ y, s.points.tally = some y → t.points.tally =
         some (if y.point = p then { y with units := y.units + n, amount := y.amount + n * price } else y)) ∧
       (s.points.tally = none → t.points.tally = none) ∧ t.points.deferral = s.points.deferral ∧
       CommandFrame s t ∧ t.proc = s.proc) ∧
  (∀ (s : State) (p : Fin 16) (n : Nat) (slot : Fin 64) (price : Nat),
     s.engine.op = .busy (.charge p n slot price) → NotWaiting s → n * price = 0 →
     exec .charge s = .next { s with
       engine := { s.engine with op := .free }
       points := { s.points with
         points := s.points.points.set p { s.point p with pending := (s.point p).pending - n }
         tally := s.points.tally.map fun y => if y.point = p then { y with units := y.units + n } else y } })

/-- The completion of STANDING: a slot that is ACTIVE or SUSPENDED with a bound point pays the standing charge, clamped like a
CHARGE, and nothing else of it changes; the reason of a change of level, and LIMIT for a clamp, join the attention list; the
page is reported, routine outside HOLDUP and SAFE; the slot's points are told when its level has changed. Otherwise no slot
changes. Every other slot, every point not bound to the slot, the deferral flag and the tally are as they were. The visit moves
the sweep: to the next slot in RUN, PAUSED on the next slot in HOLDUP and SAFE, to its end after slot 63. -/
def Obligations.StandingPaysAndMovesSweep : Prop :=
  ∀ (s : State) (c : Fin 64) (amount : Nat), s.engine.op = .busy (.standing c amount) → s.timer.cursor = c →
    NotWaiting s →
    ∃ t, exec .standing s = .next t ∧ t.engine.op = .free ∧ t.engine.directory = s.engine.directory ∧ SlotsKept s t c ∧
      PointsKept s t c ∧ PointsTold s t c ∧ t.run = s.run ∧ t.port = s.port ∧ t.notice = s.notice ∧ t.proc = s.proc ∧
      t.nv = s.nv ∧ t.spi = s.spi ∧ t.readData = s.readData ∧ t.freeCount = s.freeCount ∧ t.pending = s.pending ∧
      t.timer = { s.timer with sweep := t.timer.sweep, cursor := t.timer.cursor, owed := t.timer.owed } ∧
      ((s.slot c).status.listed = true → 1 ≤ (s.slot c).boundCount → 0 < amount →
        -9999999999 ≤ (s.slot c).balance →
        CommitKept s t (pageOf c) ∧
        t.engine.attention = attentionAfter c (s.slot c).level (t.slot c).level
          (decide ((s.slot c).balance - (amount : Nat) < -9999999999)) s.engine.attention ∧
        (-9999999999 < (s.slot c).balance →
          (let balance := max ((s.slot c).balance - (amount : Nat)) (-9999999999)
           t.slot c = { s.slot c with balance, level := levelOf balance (s.slot c).low (s.slot c).ec }) ∧
          (s.warned = false → ReportedRoutine s t (pageOf c)) ∧ (s.warned = true → ReportedUrgent s t (pageOf c))) ∧
        ((s.slot c).balance = -9999999999 → t.slot c = s.slot c ∧ t.commit = s.commit)) ∧
      (((s.slot c).status.listed = false ∨ (s.slot c).boundCount = 0 ∨ amount = 0) →
        t.slot c = s.slot c ∧ t.commit = s.commit ∧ t.points = s.points ∧
          t.engine.attention = s.engine.attention) ∧
      (c.val < 63 → t.timer.cursor.val = c.val + 1 ∧ t.timer.owed = s.timer.owed ∧
        t.timer.sweep = (if s.warned = true then .paused else .running)) ∧
      (c.val = 63 → s.timer.owed = false → t.timer.sweep = .idle) ∧
      (c.val = 63 → s.timer.owed = true → s.warned = false →
        t.timer.sweep = .running ∧ t.timer.cursor = 0 ∧ t.timer.owed = false) ∧
      (c.val = 63 → s.timer.owed = true → s.warned = true → t.timer.sweep = .idle ∧ t.timer.owed = true)

/-- APPLY: UNKNOWN without an entry, BLOCKED for a SUSPENDED slot, OVERFLOW for a TOPUP past the range, ACCEPTED for an ENQUIRE,
each with nothing changed but the reply; the reply carries the slot's values, and TSCL is released. Of a frame that a PORT RESET
has taken away, none of these changes anything but the engine. An accepted TOPUP: the balance rises by the amount, the level
follows, the reason of its change joins the attention list, the slot's points are told when it has changed, the page is reported
urgent; the last-top-up record takes slot and amount, the count rises by 1 and TOPUP is ready, whether or not a PORT RESET has
taken the frame away; only a frame that is still there gets its reply. -/
def Obligations.ApplyAnswersKiosk : Prop :=
  (∀ (s : State) (r : ApplyRequest) (owned : Bool), s.engine.op = .busy (.applyFrame r owned) → NotWaiting s →
     let replied := fun reply : List Byte => Host.Outcome.next (φ := Fault) (ρ := Refusal) { s with
       engine := { s.engine with op := .free }
       port := if owned then { s.port with state := .replyReady, receive := [], reply, sent := 0 } else s.port }
     (owned = true → ∃ t, exec .applyFrame s = .next t ∧ t.clockHeld = false) ∧
     (s.lookup r.number = none → exec .applyFrame s = replied (replyBytes .unknown Account.free)) ∧
     ∀ slot, s.lookup r.number = some slot →
       ((s.slot slot).status = .suspended → exec .applyFrame s = replied (replyBytes .blocked (s.slot slot))) ∧
       ((s.slot slot).status ≠ .suspended → r.kind = .enquire →
         exec .applyFrame s = replied (replyBytes .accepted (s.slot slot))) ∧
       ((s.slot slot).status ≠ .suspended → r.kind = .topup → 9999999999 < (s.slot slot).balance + r.amount →
         exec .applyFrame s = replied (replyBytes .overflow (s.slot slot)))) ∧
  (∀ (s : State) (r : ApplyRequest) (owned : Bool) (slot : Fin 64), s.engine.op = .busy (.applyFrame r owned) →
     NotWaiting s → r.kind = .topup → r.amount ≠ 0 → s.lookup r.number = some slot → (s.slot slot).status ≠ .suspended →
     (s.slot slot).balance + r.amount ≤ 9999999999 →
     ∃ t, exec .applyFrame s = .next t ∧ t.engine.op = .free ∧
       t.slot slot = { s.slot slot with
         balance := (s.slot slot).balance + r.amount,
         level := levelOf ((s.slot slot).balance + r.amount) (s.slot slot).low (s.slot slot).ec } ∧
       SlotsKept s t slot ∧ PointsKept s t slot ∧ PointsTold s t slot ∧ CommitKept s t (pageOf slot) ∧
       ReportedUrgent s t (pageOf slot) ∧ t.engine.directory = s.engine.directory ∧
       t.engine.attention =
         attentionAfter slot (s.slot slot).level (t.slot slot).level false s.engine.attention ∧
       (let port := { s.port with lastSlot := slot, lastAmount := r.amount, topupCount := s.port.topupCount + 1 }
        t.port =
          if owned then
            { port with state := .replyReady, receive := [], reply := replyBytes .accepted (t.slot slot), sent := 0 }
          else port) ∧
       t.notice = { s.notice with topup := true } ∧ t.run = s.run ∧ t.timer = s.timer ∧ t.proc = s.proc ∧
       t.nv = s.nv ∧ t.spi = s.spi ∧ t.readData = s.readData ∧ t.freeCount = s.freeCount ∧ t.pending = s.pending)

/-- The consequence of a change for a bound point, by the state table of section 3.4: the whole point after a notice of the
slot's status and level, in each state. The account view becomes the notice's. Entry to HELD, LIVE, CUT and AWAITING leaves no
grace; entry to GRACE, CUT and AWAITING sets its own flag; a row that stays keeps all but the view. The output SUPp is on
exactly while the point is LIVE or GRACE, outside RESET. -/
def Obligations.NoticeMovesPointByTable : Prop :=
  (∀ (s : State) (p : Fin 16), s.supplyOn p = true ↔
    s.run.runState ≠ .reset ∧ ((s.point p).state = .live ∨ (s.point p).state = .grace)) ∧
  ∀ (deferral : Bool) (status : Status) (level : Level) (p : Point),
    let q := p.notified deferral status level
    let seen : Point := { p with view := some (status, level) }
    let held : Point := { seen with state := .held, graceRemaining := 0 }
    let live : Point := { seen with state := .live, graceRemaining := 0 }
    let grace : Point :=
      { seen with state := .grace, graceRemaining := p.config.grace, flags := { p.flags with grace := true } }
    let cut : Point := { seen with state := .cut, graceRemaining := 0, flags := { p.flags with cut := true } }
    let awaiting : Point :=
      { seen with state := .awaiting, graceRemaining := 0, flags := { p.flags with awaiting := true } }
    (p.state = .detached → q = p) ∧ (p.state = .locked → q = seen) ∧
    (p.state ≠ .detached → p.state ≠ .locked → p.state ≠ .held → status ≠ .active → q = held) ∧
    (p.state = .held → status ≠ .active → q = seen) ∧
    (p.state = .held → status = .active → p.hostHold = true → q = seen) ∧
    (p.state = .held → status = .active → p.hostHold = false → level ≠ .exhausted → q = live) ∧
    (p.state = .held → status = .active → p.hostHold = false → level = .exhausted → q = cut) ∧
    (p.state = .live → status = .active → level ≠ .exhausted → q = seen) ∧
    (p.state = .live → status = .active → level = .exhausted → (0 < p.config.grace ∨ deferral = true) → q = grace) ∧
    (p.state = .live → status = .active → level = .exhausted → p.config.grace = 0 → deferral = false → q = cut) ∧
    (p.state = .grace → status = .active → level = .exhausted → q = seen) ∧
    (p.state = .grace → status = .active → level ≠ .exhausted → q = live) ∧
    (p.state = .cut → status = .active → level = .exhausted → q = seen) ∧
    (p.state = .cut → status = .active → level ≠ .exhausted → p.config.restore = .automatic → q = live) ∧
    (p.state = .cut → status = .active → level ≠ .exhausted → p.config.restore = .onCommand → q = awaiting) ∧
    (p.state = .awaiting → status = .active → level ≠ .exhausted → q = seen) ∧
    (p.state = .awaiting → status = .active → level = .exhausted → q = cut)

/-- The level function, the attention reason of a change, and how reasons join the list: they join the slot's entry where it
stands, or make a new entry at the tail (R11, R21, R22). -/
def Obligations.LevelAndReasonOfChange : Prop :=
  (∀ (b : Int) (low ec : Nat),
    (levelOf b low ec = .normal ↔ (low : Int) < b) ∧ (levelOf b low ec = .low ↔ 0 ≤ b ∧ b ≤ low) ∧
    (levelOf b low ec = .emergency ↔ -(ec : Int) ≤ b ∧ b < 0) ∧ (levelOf b low ec = .exhausted ↔ b < -(ec : Int))) ∧
  (∀ before after : Level,
    levelReasons before after =
      if before.code < after.code then
        { low := after == .low, emergency := after == .emergency, exhausted := after == .exhausted }
      else if before = .exhausted ∧ after ≠ .exhausted then { restored := true } else {}) ∧
  ∀ (slot : Fin 64) (reasons old : Reasons) (ahead behind : List AttentionEntry), (∀ e ∈ ahead, e.slot ≠ slot) →
    joinReasons slot reasons ahead = ahead ++ [{ slot := slot, reasons := reasons }] ∧
    joinReasons slot reasons (ahead ++ { slot := slot, reasons := old } :: behind) =
      ahead ++ { slot := slot, reasons := {
        low := old.low || reasons.low, emergency := old.emergency || reasons.emergency,
        exhausted := old.exhausted || reasons.exhausted, restored := old.restored || reasons.restored,
        limit := old.limit || reasons.limit, quarantine := old.quarantine || reasons.quarantine } } :: behind

/-! ### The command queue -/

/-- SUBMIT: with room, a new entry with code, tag and a copy of the staging joins the tail; with 32 entries held, only
QUEUE_OVERFLOW is set.
COMMAND_START: in RUN with no command executing and fewer than 16 results held, the head leaves the queue and executes; while
one of the three conditions fails, nothing changes. An account command's operation is requested at once, and a BIND's when its
point is in range and DETACHED; any other BIND is handed over, to be refused. That a command with code 11h or above is handed
over and waits for its own row is the model's choice (log entry 13).
POP removes the head result whatever is written; with no result held it sets RESULT_UNDERFLOW. -/
def Obligations.QueueSubmitStartPop : Prop :=
  (∀ (s : State) (value : Word), s.run.runState ≠ .reset →
     (s.proc.queue.length < 32 →
       exec (.submit value) s = .next { s with proc := { s.proc with queue := s.proc.queue ++
         [{ code := value.extractLsb' 0 8, tag := value.extractLsb' 8 8, params := s.proc.staging }] } }) ∧
     (32 ≤ s.proc.queue.length →
       exec (.submit value) s =
         .next { s with notice := { s.notice with errors := { s.notice.errors with queueOverflow := true } } })) ∧
  (∀ (s : State) (cmd : QueuedCommand) (rest : List QueuedCommand), s.proc.queue = cmd :: rest →
     (s.run.runState = .run → s.proc.executing = none → s.proc.results.length < 16 →
       ∃ phase, exec .commandStart s =
           .next { s with proc := { s.proc with queue := rest, executing := some { cmd, phase } } } ∧
         (1 ≤ cmd.code.toNat → cmd.code.toNat ≤ 0x0E → phase = .requested) ∧
         (cmd.code = 0x10 →
           (∀ p, pointField cmd.params[0] = some p → (s.point p).state = .detached → phase = .requested) ∧
           ((∀ p, pointField cmd.params[0] = some p → (s.point p).state ≠ .detached) → phase = .handed)) ∧
         (0x11 ≤ cmd.code.toNat → phase = .handed)) ∧
     (s.run.runState ≠ .run ∨ s.proc.executing ≠ none ∨ 16 ≤ s.proc.results.length →
       exec .commandStart s = .next s)) ∧
  (∀ (s : State) (value : Word), s.run.runState ≠ .reset →
     (∀ r rest, s.proc.results = r :: rest →
       exec (.pop value) s = .next { s with proc := { s.proc with results := rest } }) ∧
     (s.proc.results = [] →
       exec (.pop value) s =
         .next { s with notice := { s.notice with errors := { s.notice.errors with resultUnderflow := true } } }))

/-- A command whose code is no command code, 00h included, is started like any other and answered BAD_COMMAND at once:
it makes no request, changes nothing in any block, and its result carries its tag and code with every other field 0. That the
start and the answer are two rows (log entry 13), and that BAD_COMMAND leaves the state as it is when the command handed over
has a known code (log entry 1), are the model's choice. -/
def Obligations.UnknownCodeIsBadCommand : Prop :=
  (∀ (s : State) (cmd : QueuedCommand) (rest : List QueuedCommand),
    cmd.code.toNat ∈ [0x00, 0x0F, 0x17, 0x1B, 0x1E, 0x1F] ∨ 0x23 ≤ cmd.code.toNat →
    s.proc.queue = cmd :: rest → s.run.runState = .run → s.proc.executing = none → s.proc.results.length < 16 →
    exec .commandStart s =
      .next { s with proc := { s.proc with queue := rest, executing := some { cmd, phase := .handed } } }) ∧
  (∀ (s : State) (cmd : QueuedCommand),
    cmd.code.toNat ∈ [0x00, 0x0F, 0x17, 0x1B, 0x1E, 0x1F] ∨ 0x23 ≤ cmd.code.toNat →
    s.proc.executing = some { cmd, phase := .handed } →
    exec .badCommand s = .next (replied s (plainResult cmd .badCommand))) ∧
  ∀ (s : State) (cmd : QueuedCommand),
    ¬(cmd.code.toNat ∈ [0x00, 0x0F, 0x17, 0x1B, 0x1E, 0x1F] ∨ 0x23 ≤ cmd.code.toNat) →
    s.proc.executing = some { cmd, phase := .handed } → exec .badCommand s = .next s

/-- PURGE empties the queue; a WAITING WAIT posts its result with status PURGED, the conditions that hold and its remaining
timeout; any other executing command goes on.
PORT RESET empties the Command Processor, the Notice Controller and the Top-up Port, whose configuration is kept; a granted
operation of a command or an APPLY goes on without its requester, and a CHARGE, a GATHER or a STANDING in progress stays as it
was; accounts, points, sweep, commits and run state are as they were, and both lines of the kiosk's bus are released. With both
bits of CONTROL set it is a PORT RESET alone. An operation of a command that a PORT RESET has abandoned completes: it does to
every block but the Command Processor what it does for a command that still executes, and posts no result; a WAIT that executes
by then is re-tested, and the tally of a later UNBIND is not its own. That a start whose address byte has yet to come is kept is
the model's reading (log entry 34). -/
def Obligations.PurgeAndPortResetEmptyQueues : Prop :=
  (∀ (s : State) (value : Word), s.run.runState ≠ .reset → value.getLsbD 0 = true → value.getLsbD 1 = false →
     (∀ cmd w, s.proc.executing = some { cmd, phase := .waiting w } →
       exec (.purge value) s = .next { s with proc := { s.proc with
         queue := [], executing := none, periodLatch := false,
         results := s.proc.results ++ [{ plainResult cmd .purged with
           extraA := (w.conditions &&& s.conditionsHeld).zeroExtend 32, extraB := BitVec.ofNat 32 w.remaining }] } }) ∧
     (s.proc.executing = none → exec (.purge value) s = .next { s with proc := { s.proc with queue := [] } }) ∧
     ∀ cmd phase, s.proc.executing = some { cmd, phase } → cmd.code ≠ 0x21 → (∀ w, phase ≠ .waiting w) →
       exec (.purge value) s = .next { s with proc := { s.proc with queue := [] } }) ∧
  (∀ (s : State) (value : Word), s.run.runState ≠ .reset → value.getLsbD 1 = true →
     ∃ t, exec (.portReset value) s = .next t ∧ t.run = s.run ∧ t.timer = s.timer ∧ t.nv = s.nv ∧
       t.engine.slots = s.engine.slots ∧ t.engine.directory = s.engine.directory ∧
       t.engine.attention = s.engine.attention ∧ t.points.points = s.points.points ∧
       t.points.deferral = s.points.deferral ∧ t.points.tally = none ∧ t.commit = { s.commit with wanted := none } ∧
       t.proc.queue = [] ∧ t.proc.results = [] ∧ t.proc.executing = none ∧ (∀ i : Fin 7, t.proc.staging[i] = 0) ∧
       t.proc.mark = 0 ∧ t.proc.periodLatch = false ∧ t.notice.enables = 0 ∧ t.notice.power = false ∧
       t.notice.topup = false ∧ t.notice.commit = false ∧ t.notice.mark = false ∧ t.notice.mode = .summary ∧
       t.notice.stack = [] ∧ t.notice.errors.any = false ∧ t.noticeAsserted = false ∧
       t.port.state = .idle ∧ t.port.receive = [] ∧ t.port.reply = [] ∧ t.port.request = none ∧
       t.port.lastSlot = 0 ∧ t.port.lastAmount = 0 ∧ t.port.topupCount = 0 ∧ t.port.enabled = s.port.enabled ∧
       t.port.address = s.port.address ∧ t.port.maximum = s.port.maximum ∧
       t.port.awaitsAddress = s.port.awaitsAddress ∧ t.acknowledgeDrive = .released ∧ t.clockHeld = false ∧
       (∀ place, t.tsdaDrive place = .released) ∧ t.spi = s.spi ∧
       (s.engine.op = .free → t.engine.op = .free) ∧
       (∀ cmd owned, s.engine.op = .busy (.command cmd owned) → t.engine.op = .busy (.command cmd false)) ∧
       (∀ r owned, s.engine.op = .busy (.applyFrame r owned) → t.engine.op = .busy (.applyFrame r false)) ∧
       (∀ p n slot price, s.engine.op = .busy (.charge p n slot price) → t.engine.op = .busy (.charge p n slot price)) ∧
       (∀ page, s.engine.op = .busy (.gather page) → t.engine.op = .busy (.gather page)) ∧
       ∀ slot amount, s.engine.op = .busy (.standing slot amount) → t.engine.op = .busy (.standing slot amount)) ∧
  ∀ (c : Instr) (code : Byte),
    (c, code) ∈ [(.openAccount, 0x01), (.closeAccount, 0x02), (.credit, 0x03), (.debit, 0x04), (.transfer, 0x05),
      (.query, 0x06), (.querySlot, 0x07), (.scan, 0x08), (.amend, 0x09), (.suspend, 0x0A), (.resume, 0x0B), (.repair, 0x0C),
      (.discard, 0x0D), (.nextAttention, 0x0E), (.bind, 0x10), (.unbindDetach, 0x11)] →
    ∀ (s : State) cmd, s.engine.op = .busy (.command cmd false) → cmd.code = code →
      ∃ u, exec c { s with engine := { s.engine with op := .busy (.command cmd true) } } = .next u ∧
        let v : State := { u with proc := s.proc, points := { u.points with tally := s.points.tally } }
        (NotWaiting s → exec c s = .next v) ∧
        ∀ waiting w, s.proc.executing = some { cmd := waiting, phase := .waiting w } →
          (w.conditions &&& v.conditionsHeld = w.conditions → exec c s = .next (waitEnded v waiting w .done)) ∧
          (w.conditions &&& v.conditionsHeld ≠ w.conditions → exec c s = .next v)

/-- WAIT at its start: a bit outside the six conditions gives BAD_FIELD; when every chosen condition holds, none chosen
included, it is DONE at once; otherwise the processor waits with the timeout loaded. NEXT_PERIOD cannot hold at the start: a
WAIT that chooses it waits. Each of the six conditions holds as its block has it: COMMIT_CLEAN with no dirty page and the Commit
Engine IDLE, SWEEP_IDLE with the sweep IDLE and nothing owed, CHARGES_CLEAR while no point with pending units sees its slot
ACTIVE or SUSPENDED, TOPUP_IDLE in IDLE alone, ATTENTION_EMPTY, and NEXT_PERIOD with the period latch. A WAIT that waits is DONE
at the event after which every chosen condition holds: the engine's own completions, a bus event that ends the port's work, the
end of a commit do to every other block what they do without it, and then the WAIT is done, with the conditions held and the
remaining timeout, or waits on. A WAIT handed over and not yet taken takes its start before a PURGE or an entry to HOLDUP (the
model's choice, log entry 13).
MARK writes the MARK register, sets the MARK ready flag and posts DONE with the value in extra A, together. -/
def Obligations.WaitAndMarkAct : Prop :=
  (∀ s : State,
    (s.conditionsHeld.getLsbD 0 = true ↔ (∀ page : Fin 9, s.commit.dirty[page] = none) ∧ s.commit.phase = .idle) ∧
    (s.conditionsHeld.getLsbD 1 = true ↔ s.timer.sweep = .idle ∧ s.timer.owed = false) ∧
    (s.conditionsHeld.getLsbD 2 = true ↔ ∀ p, (s.point p).pending = 0 ∨
      ∀ status level, (s.point p).view = some (status, level) → status ≠ .active ∧ status ≠ .suspended) ∧
    (s.conditionsHeld.getLsbD 3 = true ↔ s.port.state = .idle) ∧
    (s.conditionsHeld.getLsbD 4 = true ↔ s.engine.attention = []) ∧
    (s.conditionsHeld.getLsbD 5 = true ↔ s.proc.periodLatch = true)) ∧
  (∀ (s : State) (cmd : QueuedCommand), Handed s 0x21 cmd →
     let conditions := cmd.params[0].toNat % 256
     let timeout := cmd.params[1].toNat % 65536
     let s₀ : State := { s with proc := { s.proc with periodLatch := false } }
     (64 ≤ conditions → exec .wait s = .next (replied s (plainResult cmd .badField))) ∧
     (conditions < 64 → BitVec.ofNat 6 conditions &&& s₀.conditionsHeld = BitVec.ofNat 6 conditions →
       exec .wait s = .next (replied s₀ { plainResult cmd .done with
         extraA := BitVec.ofNat 32 conditions, extraB := BitVec.ofNat 32 timeout })) ∧
     (conditions < 64 →
       BitVec.ofNat 6 conditions &&& s₀.conditionsHeld ≠ BitVec.ofNat 6 conditions ∨ conditions.testBit 5 = true →
       exec .wait s = .next { s₀ with proc := { s₀.proc with
         executing := some { cmd, phase := .waiting { conditions := BitVec.ofNat 6 conditions, timeout, remaining := timeout } } } })) ∧
  (∀ (c : Instr) (s u : State) cmd w,
     (c ∈ [.charge, .standing, .applyFrame, .gather, .verifyComplete, .busStart, .busStop, .busTimeout] ∨
       (∃ acknowledged, c = .replyByte acknowledged) ∨ ∃ bit, c = .collision bit) →
     s.proc.executing = some { cmd, phase := .waiting w } → w.conditions &&& s.conditionsHeld ≠ w.conditions →
     exec c { s with proc := { s.proc with executing := none } } = .next u →
     let v : State := { u with proc := s.proc }
     (w.conditions &&& v.conditionsHeld = w.conditions → exec c s = .next (waitEnded v cmd w .done)) ∧
     (w.conditions &&& v.conditionsHeld ≠ w.conditions → exec c s = .next v)) ∧
  (∀ (s u : State) (cmd : QueuedCommand) (value : Word) (conditionFirst : Bool), Handed s 0x21 cmd →
     s.run.runState = .run → exec .wait s = .next u → value.getLsbD 0 = true → value.getLsbD 1 = false →
     exec (.purge value) s = exec (.purge value) u ∧
       exec (.entryToHoldup conditionFirst) s = exec (.entryToHoldup conditionFirst) u) ∧
  (∀ (s : State) (cmd : QueuedCommand), Handed s 0x22 cmd →
     exec .mark s = .next { s with
       proc := { s.proc with
         mark := cmd.params[0], executing := none,
         results := s.proc.results ++ [{ plainResult cmd .done with extraA := cmd.params[0] }] }
       notice := { s.notice with mark := true } })

/-! ### Account commands -/

/-- Commands refuse bad fields and unknown numbers before they change anything. BAD_FIELD, with every other field 0: CLOSE,
QUERY, SUSPEND, RESUME, CREDIT, DEBIT and AMEND for a bad digit in the number and for any other field out of range (AMEND of its
selected fields), OPEN, SCAN and REPAIR for a field out of range, DISCARD for a slot above 63, HOLD and RELEASE for a point
above 15. NOT_FOUND with the number looked up: the seven commands that name one account. -/
def Obligations.NumberRefusalsChangeNothing : Prop :=
  (∀ (c : Instr) (code : Byte),
    (c, code) ∈ [(.closeAccount, 0x02), (.query, 0x06), (.suspend, 0x0A), (.resume, 0x0B)] →
    ∀ (s : State) cmd, Granted s code cmd →
      (digits8 cmd.params[0] = none → exec c s = .next (answered s (plainResult cmd .badField))) ∧
      ∀ number, digits8 cmd.params[0] = some number → s.lookup number = none →
        exec c s = .next (answered s { plainResult cmd .notFound with number := bcdWord number })) ∧
  (∀ (s : State) cmd, Granted s 0x03 cmd →
    let bad := digits8 cmd.params[0] = none ∨ amountPair cmd.params[1] cmd.params[2] = none
    (bad → exec .credit s = .next (answered s (plainResult cmd .badField))) ∧
    ∀ number, ¬bad → digits8 cmd.params[0] = some number → s.lookup number = none →
      exec .credit s = .next (answered s { plainResult cmd .notFound with number := bcdWord number })) ∧
  (∀ (s : State) cmd, Granted s 0x04 cmd →
    let bad := digits8 cmd.params[0] = none ∨ amountPair cmd.params[1] cmd.params[2] = none ∨ 2 ≤ bits cmd.params[3] 0 8
    (bad → exec .debit s = .next (answered s (plainResult cmd .badField))) ∧
    ∀ number, ¬bad → digits8 cmd.params[0] = some number → s.lookup number = none →
      exec .debit s = .next (answered s { plainResult cmd .notFound with number := bcdWord number })) ∧
  (∀ (s : State) cmd, Granted s 0x09 cmd →
    let selects := fun i : Nat => cmd.params[1].getLsbD i = true
    let bad := digits8 cmd.params[0] = none ∨ 8 ≤ bits cmd.params[1] 0 8 ∨ (selects 0 ∧ 8 ≤ bits cmd.params[2] 0 8) ∨
      (selects 1 ∧ digits8 cmd.params[3] = none) ∨ (selects 2 ∧ digits8 cmd.params[4] = none)
    (bad → exec .amend s = .next (answered s (plainResult cmd .badField))) ∧
    ∀ number, ¬bad → digits8 cmd.params[0] = some number → s.lookup number = none →
      exec .amend s = .next (answered s { plainResult cmd .notFound with number := bcdWord number })) ∧
  (∀ (s : State) cmd, Granted s 0x01 cmd →
    digits8 cmd.params[0] = none ∨ digits8 cmd.params[0] = some 0 ∨ 8 ≤ bits cmd.params[1] 0 8 ∨
      digits8 cmd.params[2] = none ∨ digits8 cmd.params[3] = none ∨ amountPair cmd.params[4] cmd.params[5] = none →
    exec .openAccount s = .next (answered s (plainResult cmd .badField))) ∧
  (∀ (s : State) cmd, Granted s 0x08 cmd →
    digits8 cmd.params[2] = none ∨ 4 ≤ bits cmd.params[3] 0 8 ∨ 16 ≤ bits cmd.params[4] 0 8 →
    exec .scan s = .next (answered s (plainResult cmd .badField))) ∧
  (∀ (s : State) cmd, Granted s 0x0C cmd →
    64 ≤ bits cmd.params[0] 0 8 ∨ digits8 cmd.params[1] = none ∨ digits8 cmd.params[1] = some 0 ∨
      amountPair cmd.params[2] cmd.params[3] = none ∨ digits8 cmd.params[4] = none ∨ digits8 cmd.params[5] = none ∨
      8 ≤ bits cmd.params[6] 0 8 ∨ bits cmd.params[6] 8 8 = 0 ∨ 3 ≤ bits cmd.params[6] 8 8 →
    exec .repair s = .next (answered s (plainResult cmd .badField))) ∧
  (∀ (s : State) cmd, Granted s 0x0D cmd → 64 ≤ bits cmd.params[0] 0 8 →
    exec .discard s = .next (answered s (plainResult cmd .badField))) ∧
  ∀ (c : Instr) (code : Byte), (c, code) ∈ [(.hold, 0x13), (.release, 0x14)] →
    ∀ (s : State) cmd, Handed s code cmd → 16 ≤ bits cmd.params[0] 0 8 →
      exec c s = .next (replied s (plainResult cmd .badField))

/-- OPEN: the lowest FREE slot takes the record with the opening amount, ACTIVE, its level from the level function; the number
enters the directory; the page is reported urgent; a level below NORMAL joins the attention list.
OPEN refuses in order, with no change: BAD_FIELD for the number 00000000, DUPLICATE with the record of the slot that
holds the number, TABLE_FULL when no slot is FREE. -/
def Obligations.OpenTakesLowestFreeSlot : Prop :=
  (∀ (s : State) cmd number tariff ec low amount slot, Granted s 0x01 cmd → digits8 cmd.params[0] = some number →
     tariffIndex (lowByte cmd.params[1]) = some tariff → digits8 cmd.params[2] = some ec →
     digits8 cmd.params[3] = some low → amountPair cmd.params[4] cmd.params[5] = some amount → number ≠ 0 →
     s.lookup number = none → (s.slot slot).status = .free → (∀ i, i < slot → (s.slot i).status ≠ .free) →
     let a : Account :=
       { number, status := .active, balance := amount, ec, low, tariff, level := levelOf amount low ec, boundCount := 0 }
     ∃ t, exec .openAccount s = .next t ∧ AccountStep s t slot (fullResult cmd slot a) ∧ t.slot slot = a ∧
       t.engine.directory = insertEntry { number, slot } s.engine.directory ∧ ReportedUrgent s t (pageOf slot) ∧
       (low < amount → t.engine.attention = s.engine.attention) ∧
       (amount ≤ low → t.engine.attention = joinReasons slot { low := true } s.engine.attention) ∧ t.points = s.points) ∧
  (∀ (s : State) cmd number tariff ec low amount, Granted s 0x01 cmd → digits8 cmd.params[0] = some number →
     tariffIndex (lowByte cmd.params[1]) = some tariff → digits8 cmd.params[2] = some ec →
     digits8 cmd.params[3] = some low → amountPair cmd.params[4] cmd.params[5] = some amount →
     (number = 0 → exec .openAccount s = .next (answered s (plainResult cmd .badField))) ∧
     (number ≠ 0 → ∀ slot, s.lookup number = some slot →
       exec .openAccount s = .next (answered s (recordResult cmd .duplicate slot (s.slot slot)))) ∧
     (number ≠ 0 → s.lookup number = none → (∀ i, (s.slot i).status ≠ .free) →
       exec .openAccount s = .next (answered s { plainResult cmd .tableFull with number := bcdWord number })))

/-- CLOSE: BOUND while a point is bound; otherwise the slot takes the FREE values, its directory and attention entries
leave, its page is reported urgent, and the result is the full record as it stood. -/
def Obligations.CloseFreesUnboundSlot : Prop :=
  ∀ (s : State) cmd number slot, Granted s 0x02 cmd → digits8 cmd.params[0] = some number →
    s.lookup number = some slot →
    (0 < (s.slot slot).boundCount →
      exec .closeAccount s = .next (answered s (recordResult cmd .bound slot (s.slot slot)))) ∧
    ((s.slot slot).boundCount = 0 → ∃ t, exec .closeAccount s = .next t ∧
      AccountStep s t slot (fullResult cmd slot (s.slot slot)) ∧ t.slot slot = Account.free ∧
      t.engine.directory = s.engine.directory.filter (fun e => e.slot != slot) ∧
      t.engine.attention = s.engine.attention.filter (fun e => e.slot != slot) ∧ ReportedUrgent s t (pageOf slot) ∧
      t.points = s.points)

/-- CREDIT: OVERFLOW past +9,999,999,999 with no change; otherwise the balance rises, the level follows, and the page is
reported urgent; an amount of 0 changes nothing. The slot's points are told when its level has changed, and the reason of the
change joins the attention list.
DEBIT: without force INSUFFICIENT below -EC, with force OVERFLOW below -9,999,999,999, each with no change; otherwise the
balance falls, the level follows, its points are told when it has changed, the reason joins the attention list, and the page is
reported urgent. -/
def Obligations.CreditAndDebitMoveBalance : Prop :=
  (∀ (s : State) cmd number amount slot, Granted s 0x03 cmd → digits8 cmd.params[0] = some number →
     amountPair cmd.params[1] cmd.params[2] = some amount → s.lookup number = some slot →
     let a := { s.slot slot with
       balance := (s.slot slot).balance + amount,
       level := levelOf ((s.slot slot).balance + amount) (s.slot slot).low (s.slot slot).ec }
     (9999999999 < (s.slot slot).balance + amount →
       exec .credit s = .next (answered s (recordResult cmd .overflow slot (s.slot slot)))) ∧
     (amount = 0 → (s.slot slot).balance ≤ 9999999999 →
       exec .credit s = .next (answered s (recordResult cmd .done slot (s.slot slot)))) ∧
     (amount ≠ 0 → (s.slot slot).balance + amount ≤ 9999999999 → ∃ t, exec .credit s = .next t ∧
       AccountStep s t slot (recordResult cmd .done slot a) ∧ t.slot slot = a ∧
       t.engine.directory = s.engine.directory ∧ ReportedUrgent s t (pageOf slot) ∧ PointsTold s t slot ∧
       t.engine.attention = attentionAfter slot (s.slot slot).level a.level false s.engine.attention ∧
       ((s.slot slot).level = .exhausted → a.level ≠ .exhausted →
         ∃ e ∈ t.engine.attention, e.slot = slot ∧ e.reasons.restored = true))) ∧
  (∀ (s : State) cmd number amount force slot, Granted s 0x04 cmd → digits8 cmd.params[0] = some number →
     amountPair cmd.params[1] cmd.params[2] = some amount → forceField cmd.params[3] = some force →
     s.lookup number = some slot →
     let a := { s.slot slot with
       balance := (s.slot slot).balance - amount,
       level := levelOf ((s.slot slot).balance - amount) (s.slot slot).low (s.slot slot).ec }
     let floor : Int := if force then -9999999999 else -((s.slot slot).ec : Int)
     ((s.slot slot).balance - amount < floor →
       exec .debit s =
         .next (answered s (recordResult cmd (if force then .overflow else .insufficient) slot (s.slot slot)))) ∧
     (amount = 0 → floor ≤ (s.slot slot).balance →
       exec .debit s = .next (answered s (recordResult cmd .done slot (s.slot slot)))) ∧
     (amount ≠ 0 → floor ≤ (s.slot slot).balance - amount → ∃ t, exec .debit s = .next t ∧
       AccountStep s t slot (recordResult cmd .done slot a) ∧ t.slot slot = a ∧
       t.engine.directory = s.engine.directory ∧ ReportedUrgent s t (pageOf slot) ∧ PointsTold s t slot ∧
       t.engine.attention = attentionAfter slot (s.slot slot).level a.level false s.engine.attention))

/-- TRANSFER that passes its tests moves the amount: the source falls and the destination rises by it, both levels follow, both
pages are reported urgent, the source's first (the model's choice, log entry 17), the points of each are told when its level has
changed, the reasons of the two changes join the attention list, the source's first, and every other slot, the other pages'
records, the rest of the Commit Engine, the deferral flag and the tally are as they were. A TRANSFER of 0 that passes them
changes nothing. TRANSFER refuses in order with no change: BAD_FIELD, NOT_FOUND naming the source first, SAME_ACCOUNT, the
source's INSUFFICIENT or OVERFLOW, the destination's OVERFLOW; extra A tells which account. -/
def Obligations.TransferMovesAmount : Prop :=
  (∀ (s : State) cmd x src dst, Granted s 0x05 cmd → transferFields cmd.params = some x →
     s.lookup x.source = some src → s.lookup x.destination = some dst → src ≠ dst → x.amount ≠ 0 →
     (if x.force then (-9999999999 : Int) else -((s.slot src).ec : Int)) ≤ (s.slot src).balance - x.amount →
     (s.slot dst).balance + x.amount ≤ 9999999999 →
     ∃ t r, exec .transfer s = .next t ∧ t.engine.op = .free ∧ Posted s t r ∧ CommandFrame s t ∧
       t.slot src = { s.slot src with
         balance := (s.slot src).balance - x.amount,
         level := levelOf ((s.slot src).balance - x.amount) (s.slot src).low (s.slot src).ec } ∧
       t.slot dst = { s.slot dst with
         balance := (s.slot dst).balance + x.amount,
         level := levelOf ((s.slot dst).balance + x.amount) (s.slot dst).low (s.slot dst).ec } ∧
       (t.slot src).balance + (t.slot dst).balance = (s.slot src).balance + (s.slot dst).balance ∧
       (∀ i, i ≠ src → i ≠ dst → t.slot i = s.slot i) ∧ t.engine.directory = s.engine.directory ∧
       t.engine.attention = attentionAfter dst (s.slot dst).level (t.slot dst).level false
         (attentionAfter src (s.slot src).level (t.slot src).level false s.engine.attention) ∧
       ReportedUrgentInOrder s t (pageOf src) (pageOf dst) ∧ PointsTold s t src ∧ PointsTold s t dst ∧
       (∀ q, q ≠ pageOf src → q ≠ pageOf dst → t.commit.dirty[q] = s.commit.dirty[q]) ∧ CommitFrame s t ∧
       t.points.deferral = s.points.deferral ∧ t.points.tally = s.points.tally ∧
       (∀ p, (s.point p).binding ≠ some src → (s.point p).binding ≠ some dst → t.point p = s.point p) ∧
       r = { recordResult cmd .done src (t.slot src) with
         extraA := moneyHigh (t.slot dst).balance +
           BitVec.ofNat 32 (dst.val * 2 ^ 16 + (t.slot dst).level.code * 2 ^ 24),
         extraB := moneyLow (t.slot dst).balance }) ∧
  (∀ (s : State) cmd x src dst, Granted s 0x05 cmd → transferFields cmd.params = some x →
     s.lookup x.source = some src → s.lookup x.destination = some dst → src ≠ dst → x.amount = 0 →
     (if x.force then (-9999999999 : Int) else -((s.slot src).ec : Int)) ≤ (s.slot src).balance →
     (s.slot dst).balance ≤ 9999999999 →
     exec .transfer s = .next (answered s { recordResult cmd .done src (s.slot src) with
       extraA := moneyHigh (s.slot dst).balance +
         BitVec.ofNat 32 (dst.val * 2 ^ 16 + (s.slot dst).level.code * 2 ^ 24),
       extraB := moneyLow (s.slot dst).balance })) ∧
  (∀ (f : Vector Word 7) x, transferFields f = some x ↔
     digits8 f[0] = some x.source ∧ digits8 f[1] = some x.destination ∧ amountPair f[2] f[3] = some x.amount ∧
       bits f[4] 0 8 = x.force.toNat) ∧
  (∀ (s : State) cmd, Granted s 0x05 cmd →
     (transferFields cmd.params = none → exec .transfer s = .next (answered s (plainResult cmd .badField))) ∧
     ∀ x, transferFields cmd.params = some x →
       (s.lookup x.source = none →
         exec .transfer s =
           .next (answered s { plainResult cmd .notFound with number := bcdWord x.source, extraA := 1 })) ∧
       ∀ src, s.lookup x.source = some src →
         (s.lookup x.destination = none →
           exec .transfer s =
             .next (answered s { plainResult cmd .notFound with number := bcdWord x.destination, extraA := 2 })) ∧
         ∀ dst, s.lookup x.destination = some dst →
           let r := (s.slot src).balance - x.amount
           (src = dst → exec .transfer s = .next (answered s (recordResult cmd .sameAccount src (s.slot src)))) ∧
           (src ≠ dst → x.force = false → r < -((s.slot src).ec : Int) →
             exec .transfer s = .next (answered s (recordResult cmd .insufficient src (s.slot src)))) ∧
           (src ≠ dst → x.force = true → r < -9999999999 →
             exec .transfer s =
               .next (answered s { recordResult cmd .overflow src (s.slot src) with extraA := 1 })) ∧
           (src ≠ dst → (if x.force then (-9999999999 : Int) else -((s.slot src).ec : Int)) ≤ r →
             9999999999 < (s.slot dst).balance + x.amount →
             exec .transfer s =
               .next (answered s { recordResult cmd .overflow src (s.slot src) with extraA := 2 })))

/-- QUERY and QUERY_SLOT give the full record, QUERY_SLOT of a slot of any status, and change nothing.
SCAN: the first entry at or beyond the start position whose number, status and level pass, with its position and the
count; EMPTY with the count when none does; nothing changes. A number passes when each digit the mask selects is the pattern's,
bit 0 of the mask selecting the last digit; a status passes by bit 0 for ACTIVE and bit 1 for SUSPENDED, a level by the bit of
its code.
NEXT_ATTENTION takes the head entry and reports the slot as it stands with the entry's reasons; EMPTY on an empty list. -/
def Obligations.ReadingCommandsAnswer : Prop :=
  ((∀ (s : State) cmd number slot, Granted s 0x06 cmd → digits8 cmd.params[0] = some number →
     s.lookup number = some slot → exec .query s = .next (answered s (fullResult cmd slot (s.slot slot)))) ∧
   ∀ (s : State) cmd, Granted s 0x07 cmd →
     (∀ slot : Fin 64, cmd.params[0].toNat % 256 = slot.val →
       exec .querySlot s = .next (answered s (fullResult cmd slot (s.slot slot)))) ∧
     (64 ≤ cmd.params[0].toNat % 256 → exec .querySlot s = .next (answered s (plainResult cmd .badField)))) ∧
  (∀ (f : Vector Word 7) x, scanFields f = some x ↔
     x.start = bits f[0] 0 8 ∧ x.mask = bits f[1] 0 8 ∧ digits8 f[2] = some x.pattern ∧ x.statuses = bits f[3] 0 8 ∧
       x.levels = bits f[4] 0 8 ∧ x.statuses < 4 ∧ x.levels < 16) ∧
  (∀ (s : State) x e, s.scanMatches x e = true ↔
     (∀ j, j < 8 → x.mask.testBit j = true → e.number / 10 ^ j % 10 = x.pattern / 10 ^ j % 10) ∧
       ((s.slot e.slot).status = .active ∧ x.statuses.testBit 0 = true ∨
         (s.slot e.slot).status = .suspended ∧ x.statuses.testBit 1 = true) ∧
       x.levels.testBit (s.slot e.slot).level.code = true) ∧
  (∀ (s : State) cmd x, Granted s 0x08 cmd → scanFields cmd.params = some x →
     (∀ (pos : Nat) (h : pos < s.engine.directory.length), x.start ≤ pos →
       s.scanMatches x s.engine.directory[pos] = true →
       (∀ (q : Nat) (hq : q < pos), x.start ≤ q → s.scanMatches x (s.engine.directory[q]'(by omega)) = false) →
       exec .scan s = .next (answered s { recordResult cmd .done s.engine.directory[pos].slot
           (s.slot s.engine.directory[pos].slot) with
         extraA := BitVec.ofNat 32 pos, extraB := BitVec.ofNat 32 s.engine.directory.length })) ∧
     ((∀ (pos : Nat) (h : pos < s.engine.directory.length), x.start ≤ pos →
         s.scanMatches x s.engine.directory[pos] = false) →
       exec .scan s = .next (answered s { plainResult cmd .empty with
         extraB := BitVec.ofNat 32 s.engine.directory.length }))) ∧
  (∀ (s : State) cmd, Granted s 0x0E cmd →
     (s.engine.attention = [] → exec .nextAttention s = .next (answered s (plainResult cmd .empty))) ∧
     ∀ e rest, s.engine.attention = e :: rest →
       exec .nextAttention s =
         .next (answered { s with engine := { s.engine with attention := rest } }
           { recordResult cmd .done e.slot (s.slot e.slot) with extraA := BitVec.ofNat 32 e.reasons.code }))

/-- AMEND writes the selected fields alone, which bits 0, 1 and 2 of the selection say, and recomputes the level; the slot's
points are told when it has changed, and the reason joins the attention list; when no selected field changes, nothing does. -/
def Obligations.AmendWritesSelectedFields : Prop :=
  (∀ (f : Vector Word 7) x, amendFields f = some x ↔
    digits8 f[0] = some x.number ∧ bits f[1] 0 8 < 8 ∧
      (if f[1].getLsbD 0 then x.tariff ≠ none ∧ x.tariff = tariffIndex (bits f[2] 0 8) else x.tariff = none) ∧
      (if f[1].getLsbD 1 then x.ec ≠ none ∧ x.ec = digits8 f[3] else x.ec = none) ∧
      (if f[1].getLsbD 2 then x.low ≠ none ∧ x.low = digits8 f[4] else x.low = none)) ∧
  ∀ (s : State) cmd x slot, Granted s 0x09 cmd → amendFields cmd.params = some x → s.lookup x.number = some slot →
    let a := { s.slot slot with
      tariff := x.tariff.getD (s.slot slot).tariff, ec := x.ec.getD (s.slot slot).ec,
      low := x.low.getD (s.slot slot).low }
    let b := { a with level := levelOf a.balance a.low a.ec }
    (a = s.slot slot → exec .amend s = .next (answered s (fullResult cmd slot (s.slot slot)))) ∧
    (a ≠ s.slot slot → ∃ t, exec .amend s = .next t ∧ AccountStep s t slot (fullResult cmd slot b) ∧
      t.slot slot = b ∧ t.engine.directory = s.engine.directory ∧ ReportedUrgent s t (pageOf slot) ∧
      t.engine.attention = attentionAfter slot (s.slot slot).level b.level false s.engine.attention ∧
      PointsTold s t slot)

/-- SUSPEND and RESUME: WRONG_STATE with no change when the slot already has the status; otherwise the status changes and
nothing else of the record, the page is reported urgent, and each bound point takes the notice. -/
def Obligations.SuspendAndResumeSetStatus : Prop :=
  ∀ (c : Instr) (code : Byte) (status : Status),
    (c, code, status) ∈ [(.suspend, 0x0A, .suspended), (.resume, 0x0B, .active)] →
    ∀ (s : State) cmd number slot, Granted s code cmd → digits8 cmd.params[0] = some number →
      s.lookup number = some slot →
      ((s.slot slot).status = status →
        exec c s = .next (answered s (recordResult cmd .wrongState slot (s.slot slot)))) ∧
      ((s.slot slot).status ≠ status →
        (s.slot slot).level = levelOf (s.slot slot).balance (s.slot slot).low (s.slot slot).ec →
        let a := { s.slot slot with status }
        ∃ t, exec c s = .next t ∧ AccountStep s t slot (fullResult cmd slot a) ∧ t.slot slot = a ∧
          t.engine.directory = s.engine.directory ∧ t.engine.attention = s.engine.attention ∧
          ReportedUrgent s t (pageOf slot) ∧
          (0 < a.boundCount → ∀ p, (s.point p).binding = some slot →
            t.point p = (s.point p).notified s.points.deferral status a.level))

/-- REPAIR of a QUARANTINED slot writes the staged record, keeps the bound count, enters the number in the directory, adds the
attention reason of a change from the quarantined level and reports the page urgent; WRONG_STATE and DUPLICATE change nothing.
DISCARD of a QUARANTINED slot frees it: its points are DETACHED with their units discarded and STRAY kept, its attention entry
leaves, its page and then the settings page are reported urgent (their order is the model's choice, log entry 17), every other
page's record and the rest of the Commit Engine are as they were; WRONG_STATE changes nothing. -/
def Obligations.RepairAndDiscardEndQuarantine : Prop :=
  (∀ (f : Vector Word 7) x, repairFields f = some x ↔
    slotField f[0] = some x.slot ∧ digits8 f[1] = some x.number ∧ x.number ≠ 0 ∧
      (∃ magnitude : Nat, amountPair f[2] f[3] = some magnitude ∧
        x.balance = if bits f[2] 8 8 = 0 then (magnitude : Int) else -magnitude) ∧
      digits8 f[4] = some x.ec ∧ digits8 f[5] = some x.low ∧ tariffIndex (bits f[6] 0 8) = some x.tariff ∧
      (bits f[6] 8 8 = 1 ∧ x.status = .active ∨ bits f[6] 8 8 = 2 ∧ x.status = .suspended)) ∧
  (∀ (s : State) cmd x, Granted s 0x0C cmd → repairFields cmd.params = some x →
     let a : Account :=
       { number := x.number, status := x.status, balance := x.balance, ec := x.ec, low := x.low, tariff := x.tariff,
         level := levelOf x.balance x.low x.ec, boundCount := (s.slot x.slot).boundCount }
     ((s.slot x.slot).status ≠ .quarantined →
       exec .repair s = .next (answered s (recordResult cmd .wrongState x.slot (s.slot x.slot)))) ∧
     ((s.slot x.slot).status = .quarantined →
       (∀ holder, s.lookup x.number = some holder →
         exec .repair s = .next (answered s (recordResult cmd .duplicate holder (s.slot holder)))) ∧
       (s.lookup x.number = none → ∃ t, exec .repair s = .next t ∧
         AccountStep s t x.slot (fullResult cmd x.slot a) ∧ t.slot x.slot = a ∧
         t.engine.directory = insertEntry { number := x.number, slot := x.slot } s.engine.directory ∧
         ReportedUrgent s t (pageOf x.slot) ∧
         t.engine.attention = attentionAfter x.slot (s.slot x.slot).level a.level false s.engine.attention ∧
         (0 < a.boundCount → ∀ p, (s.point p).binding = some x.slot →
           t.point p = (s.point p).notified s.points.deferral x.status a.level)))) ∧
  (∀ (s : State) cmd slot, Granted s 0x0D cmd → slotField cmd.params[0] = some slot →
     ((s.slot slot).status ≠ .quarantined →
       exec .discard s = .next (answered s (recordResult cmd .wrongState slot (s.slot slot)))) ∧
     ((s.slot slot).status = .quarantined → ∃ t, exec .discard s = .next t ∧ t.engine.op = .free ∧
       CommandFrame s t ∧ SlotsKept s t slot ∧ PointsKept s t slot ∧ t.slot slot = Account.free ∧
       t.engine.directory = s.engine.directory ∧
       t.engine.attention = s.engine.attention.filter (fun e => e.slot != slot) ∧
       (∀ p, (s.point p).binding = some slot →
         t.point p = { s.point p with
           binding := none, state := .detached, edgeCounter := 0, pending := 0, graceRemaining := 0, hostHold := false,
           view := none, flags := { stray := (s.point p).flags.stray } }) ∧
       ReportedUrgentInOrder s t (pageOf slot) 8 ∧
       (∀ q, q ≠ pageOf slot → q ≠ 8 → t.commit.dirty[q] = s.commit.dirty[q]) ∧ CommitFrame s t ∧
       Posted s t { recordResult cmd .done slot (s.slot slot) with
         extraA := BitVec.ofNat 32 (((List.finRange 16).map fun p =>
           if (s.point p).binding = some slot then (s.point p).pending else 0).sum),
         extraB := BitVec.ofNat 32 ((List.finRange 16).countP fun p => (s.point p).binding == some slot) }))

/-! ### Point commands -/

/-- BIND of a DETACHED point to an account found: the bound count rises by 1; the point takes the binding and the view, its
counts are 0 and its host-hold clear; it is HELD for a SUSPENDED slot, CUT with its flag for an EXHAUSTED one, LIVE
otherwise; the settings page is reported urgent. A bad digit or a number not found refuses it in the operation; a point out
of range or not DETACHED refuses it at its start, without an engine request. -/
def Obligations.BindAttachesOrRefuses : Prop :=
  (∀ (s : State) cmd p number slot, Granted s 0x10 cmd → pointField cmd.params[0] = some p →
     (s.point p).state = .detached → digits8 cmd.params[1] = some number → s.lookup number = some slot →
     let a := { s.slot slot with boundCount := (s.slot slot).boundCount + 1 }
     ∃ t, exec .bind s = .next t ∧ t.engine.op = .free ∧ t.slot slot = a ∧ SlotsKept s t slot ∧
       t.engine.directory = s.engine.directory ∧ t.engine.attention = s.engine.attention ∧
       (∀ q, q ≠ p → t.point q = s.point q) ∧ t.points.deferral = s.points.deferral ∧
       t.points.tally = s.points.tally ∧
       (let q : Point := { s.point p with
          binding := some slot, view := some (a.status, a.level), edgeCounter := 0, pending := 0, hostHold := false,
          graceRemaining := 0 }
        (a.status = .suspended → t.point p = { q with state := .held }) ∧
        (a.status = .active → a.level = .exhausted →
          t.point p = { q with state := .cut, flags := { (s.point p).flags with cut := true } }) ∧
        (a.status = .active → a.level ≠ .exhausted → t.point p = { q with state := .live })) ∧
       ReportedUrgent s t 8 ∧ CommitKept s t 8 ∧ CommandFrame s t ∧
       Posted s t { pointResult cmd .done p (t.point p) with
         slot := BitVec.ofNat 8 slot.val, number := bcdWord number, packed := packedField a }) ∧
  (∀ (s : State) cmd p, Granted s 0x10 cmd → pointField cmd.params[0] = some p → (s.point p).state = .detached →
    (digits8 cmd.params[1] = none → exec .bind s = .next (answered s (pointResult cmd .badField p (s.point p)))) ∧
    ∀ number, digits8 cmd.params[1] = some number → s.lookup number = none →
      exec .bind s =
        .next (answered s { pointResult cmd .notFound p (s.point p) with number := bcdWord number })) ∧
  ∀ (s : State) cmd, Handed s 0x10 cmd →
    (∀ other owned, s.engine.op = .busy (.command other owned) → other.code ≠ 0x10) →
    (pointField cmd.params[0] = none → exec .bind s = .next (replied s (plainResult cmd .badField))) ∧
    ∀ p, pointField cmd.params[0] = some p → (s.point p).state ≠ .detached →
      exec .bind s = .next (replied s (pointResult cmd .wrongState p (s.point p)))

/-- UNBIND at its start: BAD_FIELD, WRONG_STATE for a DETACHED point, otherwise its detach waits for the engine with the
tally at 0. The detach: the bound count falls by 1, the point is DETACHED with its supply off, its units discarded and STRAY
kept; the settings page is reported urgent; the result carries the tally and the units discarded. -/
def Obligations.UnbindTalliesThenDetaches : Prop :=
  (∀ (s : State) cmd, Handed s 0x11 cmd →
    (pointField cmd.params[0] = none → exec .unbind s = .next (replied s (plainResult cmd .badField))) ∧
    ∀ p, pointField cmd.params[0] = some p →
      ((s.point p).state = .detached →
        exec .unbind s = .next (replied s (pointResult cmd .wrongState p (s.point p)))) ∧
      ((s.point p).state ≠ .detached →
        exec .unbind s = .next { s with
          points := { s.points with tally := some { point := p, units := 0, amount := 0 } }
          proc := { s.proc with executing := some { cmd, phase := .requested } } })) ∧
  ∀ (s : State) cmd p slot, Granted s 0x11 cmd → pointField cmd.params[0] = some p → (s.point p).state ≠ .detached →
    (s.point p).binding = some slot →
    ∃ t, exec .unbindDetach s = .next t ∧ t.engine.op = .free ∧
      t.slot slot = { s.slot slot with boundCount := (s.slot slot).boundCount - 1 } ∧ SlotsKept s t slot ∧
      t.engine.directory = s.engine.directory ∧ t.engine.attention = s.engine.attention ∧
      (∀ q, q ≠ p → t.point q = s.point q) ∧
      t.point p = { s.point p with
        binding := none, state := .detached, edgeCounter := 0, pending := 0, graceRemaining := 0, hostHold := false,
        view := none, flags := { stray := (s.point p).flags.stray } } ∧
      t.supplyOn p = false ∧ t.points.tally = none ∧ t.points.deferral = s.points.deferral ∧
      ReportedUrgent s t 8 ∧ CommitKept s t 8 ∧ CommandFrame s t ∧
      ∀ y, s.points.tally = some y → y.point = p → y.amount ≤ 9999999999 →
        Posted s t { pointResult cmd .done p (t.point p) with
          slot := BitVec.ofNat 8 slot.val, balance := y.amount,
          extraB := BitVec.ofNat 32 (y.units % 65536 + (s.point p).pending * 65536) }

/-- CONFIGURE_POINT: with every code in range the five fields are written as staged, the edge counter returns to 0, the
debouncer takes the line's level, and the settings page is reported urgent; any code out of range refuses all five.
QUERY_POINT gives binding, configuration, grace remaining and the point block, and changes nothing. -/
def Obligations.ConfigureWritesAndQueryReads : Prop :=
  (∀ (s : State) cmd, Handed s 0x12 cmd →
    let w := cmd.params[1]
    let legal :=
      bits w 0 8 ≤ 2 ∧ 1 ≤ bits w 8 8 ∧ bits w 8 8 ≤ 16 ∧ bits w 16 8 ≤ 3 ∧ bits w 24 8 ≤ 1
    (pointField cmd.params[0] = none → exec .configurePoint s = .next (replied s (plainResult cmd .badField))) ∧
    ∀ p, pointField cmd.params[0] = some p →
      (¬legal → exec .configurePoint s = .next (replied s (pointResult cmd .badField p (s.point p)))) ∧
      (legal → ∃ t config, exec .configurePoint s = .next t ∧ config.edgeMode.code = bits w 0 8 ∧
        config.prescale = bits w 8 8 ∧ config.debounce.code = bits w 16 8 ∧ config.restore.code = bits w 24 8 ∧
        config.grace = bits cmd.params[2] 0 16 ∧
        t.point p = { s.point p with config, edgeCounter := 0, debounced := (s.point p).line, excursion := false } ∧
        (∀ q, q ≠ p → t.point q = s.point q) ∧ t.points.deferral = s.points.deferral ∧
        t.points.tally = s.points.tally ∧ t.engine = s.engine ∧
        ReportedUrgent s t 8 ∧ CommitKept s t 8 ∧ CommandFrame s t ∧
        Posted s t (pointResult cmd .done p (s.point p)))) ∧
  ∀ (s : State) cmd, Handed s 0x15 cmd →
    (pointField cmd.params[0] = none → exec .queryPoint s = .next (replied s (plainResult cmd .badField))) ∧
    ∀ p, pointField cmd.params[0] = some p →
      let c := (s.point p).config
      exec .queryPoint s = .next (replied s { pointResult cmd .done p (s.point p) with
        slot := (match (s.point p).binding with
          | some slot => BitVec.ofNat 8 slot.val
          | none => 0xFF),
        number := BitVec.ofNat 32
          (c.grace + c.prescale * 2 ^ 16 + c.edgeMode.code * 2 ^ 21 + c.debounce.code * 2 ^ 24 + c.restore.code * 2 ^ 26),
        extraB := BitVec.ofNat 32 (s.point p).graceRemaining })

/-- HOLD of a bound point sets host-hold and takes every state but LOCKED to HELD; RELEASE clears it and takes HELD, LOCKED
and AWAITING where the view leads: HELD while the slot is not ACTIVE, CUT at EXHAUSTED, LIVE otherwise. Both refuse a
DETACHED point with WRONG_STATE. SET_DEFER writes the cut-deferral flag; turning it off cuts every point in GRACE with none
left. -/
def Obligations.HoldReleaseAndDeferAct : Prop :=
  (∀ (s : State) cmd p, Handed s 0x13 cmd → pointField cmd.params[0] = some p →
    let r := { s.point p with
      hostHold := true
      state := if (s.point p).state = .locked then .locked else .held
      graceRemaining :=
        if (s.point p).state = .locked ∨ (s.point p).state = .held then (s.point p).graceRemaining else 0 }
    ((s.point p).state = .detached → exec .hold s = .next (replied s (pointResult cmd .wrongState p (s.point p)))) ∧
    ((s.point p).state ≠ .detached →
      exec .hold s = .next (replied { s with points := { s.points with points := s.points.points.set p r } }
        (pointResult cmd .done p r)))) ∧
  (∀ (s : State) cmd p, Handed s 0x14 cmd → pointField cmd.params[0] = some p →
    let done := fun r : Point =>
      exec .release s = .next (replied { s with points := { s.points with points := s.points.points.set p r } }
        (pointResult cmd .done p r))
    let leaves := (s.point p).state = .held ∨ (s.point p).state = .locked ∨ (s.point p).state = .awaiting
    ((s.point p).state = .detached → exec .release s = .next (replied s (pointResult cmd .wrongState p (s.point p)))) ∧
    ((s.point p).state ≠ .detached → ¬leaves → done { s.point p with hostHold := false }) ∧
    (leaves → (∀ level, (s.point p).view ≠ some (.active, level)) →
      done { s.point p with hostHold := false, state := .held, graceRemaining := 0 }) ∧
    (leaves → (s.point p).view = some (.active, .exhausted) →
      done { s.point p with
        hostHold := false, state := .cut, graceRemaining := 0, flags := { (s.point p).flags with cut := true } }) ∧
    ∀ level, leaves → (s.point p).view = some (.active, level) → level ≠ .exhausted →
      done { s.point p with hostHold := false, state := .live, graceRemaining := 0 }) ∧
  ∀ (s : State) cmd, Handed s 0x16 cmd →
    (1 < lowByte cmd.params[0] → exec .setDefer s = .next (replied s (plainResult cmd .badField))) ∧
    (lowByte cmd.params[0] = 1 →
      exec .setDefer s =
        .next (replied { s with points := { s.points with deferral := true } } { plainResult cmd .done with extraA := 1 })) ∧
    (lowByte cmd.params[0] = 0 → ∃ t, exec .setDefer s = .next t ∧ t.points.deferral = false ∧
      t.points.tally = s.points.tally ∧ t.engine = s.engine ∧ t.commit = s.commit ∧ CommandFrame s t ∧
      Posted s t (plainResult cmd .done) ∧
      ∀ p, t.point p =
        if s.points.deferral = true ∧ (s.point p).state = .grace ∧ (s.point p).graceRemaining = 0 then
          { s.point p with state := .cut, graceRemaining := 0, flags := { (s.point p).flags with cut := true } }
        else s.point p)

/-! ### Settings -/

/-- SET_TARIFF, SET_BAND, SET_PERIOD, SET_TOPUP and SET_INTERVAL write the staged values when every one is in range, report
the settings page urgent (SET_BAND reports nothing), and give back what they wrote; a value out of range refuses the command
with BAD_FIELD. That a refused SET_BAND's result gives the band as it stands is the model's reading of R82 (log entry 16).
SET_PERIOD loads the counter too; SET_INTERVAL puts the routine pages it finds old enough at the tail of the eligible list, in
ascending order, and no younger one, and the report of the settings page then puts that page there. -/
def Obligations.SettingsCommandsWriteFields : Prop :=
  (∀ (s : State) cmd, Handed s 0x18 cmd →
    (tariffIndex (lowByte cmd.params[0]) = none ∨ digits6 cmd.params[1] = none ∨ digits6 cmd.params[2] = none ∨
        digits6 cmd.params[3] = none →
      exec .setTariff s = .next (replied s (plainResult cmd .badField))) ∧
    ∀ index a b standing, tariffIndex (lowByte cmd.params[0]) = some index → digits6 cmd.params[1] = some a →
      digits6 cmd.params[2] = some b → digits6 cmd.params[3] = some standing →
      ∃ t, exec .setTariff s = .next t ∧
        t.timer = { s.timer with tariffs := s.timer.tariffs.set index { priceA := a, priceB := b, standing } } ∧
        t.port = s.port ∧ CommitKept s t 8 ∧ ReportedUrgent s t 8 ∧ SettingStep s t { plainResult cmd .done with
          slot := BitVec.ofNat 8 index.val, number := bcdWord standing, extraA := bcdWord a, extraB := bcdWord b }) ∧
  (∀ (s : State) cmd, Handed s 0x19 cmd →
    (lowByte cmd.params[0] = 0 →
      exec .setBand s = .next (replied { s with timer := { s.timer with band := .a } } (plainResult cmd .done))) ∧
    (lowByte cmd.params[0] = 1 →
      exec .setBand s =
        .next (replied { s with timer := { s.timer with band := .b } } { plainResult cmd .done with extraA := 1 })) ∧
    (1 < lowByte cmd.params[0] →
      exec .setBand s =
        .next (replied s { plainResult cmd .badField with extraA := if s.timer.band = .b then 1 else 0 }))) ∧
  (∀ (s : State) cmd, Handed s 0x1A cmd →
    let n := cmd.params[0].toNat
    (¬(60 ≤ n ∧ n ≤ 86400) → exec .setPeriod s = .next (replied s (plainResult cmd .badField))) ∧
    (60 ≤ n ∧ n ≤ 86400 → ∃ t, exec .setPeriod s = .next t ∧
      t.timer = { s.timer with periodLength := n, remaining := n } ∧ t.port = s.port ∧ CommitKept s t 8 ∧
      ReportedUrgent s t 8 ∧ SettingStep s t { plainResult cmd .done with extraA := cmd.params[0], extraB := cmd.params[0] })) ∧
  (∀ (s : State) cmd, Handed s 0x1C cmd →
    let enable := bits cmd.params[0] 0 8
    let address := bits cmd.params[0] 8 8
    (1 < enable ∨ address < 0x08 ∨ 0x77 < address ∨ digits8 cmd.params[1] = none →
      exec .setTopup s = .next (replied s (plainResult cmd .badField))) ∧
    ∀ maximum, enable ≤ 1 → 0x08 ≤ address → address ≤ 0x77 → digits8 cmd.params[1] = some maximum →
      ∃ t, exec .setTopup s = .next t ∧
        t.port = { s.port with enabled := decide (enable = 1), address := BitVec.ofNat 7 address, maximum } ∧
        t.timer = s.timer ∧ CommitKept s t 8 ∧ ReportedUrgent s t 8 ∧ SettingStep s t { plainResult cmd .done with
          extraA := BitVec.ofNat 32 (enable + address * 2 ^ 8), extraB := bcdWord maximum }) ∧
  ∀ (s : State) cmd, Handed s 0x1D cmd →
    let n := cmd.params[0].toNat
    (¬(1 ≤ n ∧ n ≤ 255) → exec .setInterval s = .next (replied s (plainResult cmd .badField))) ∧
    (1 ≤ n ∧ n ≤ 255 → ∃ t, exec .setInterval s = .next t ∧ t.timer = s.timer ∧ t.port = s.port ∧
      t.commit = { s.commit with dirty := t.commit.dirty, eligible := t.commit.eligible, interval := n } ∧
      (∀ page : Fin 9, page ≠ 8 → t.commit.dirty[page] = s.commit.dirty[page]) ∧
      RecordedUrgent s t 8 ∧
      (let due := joinedAscending s.commit.eligible fun page => match s.commit.dirty[page] with
          | some r => !r.urgent && decide (n ≤ r.age)
          | none => false
      t.commit.eligible = eligibleAfterUrgent s.commit.dirty[8] 8 due) ∧
      SettingStep s t { plainResult cmd .done with extraA := cmd.params[0] })

/-! ### Commits -/

/-- COMMIT: with nothing dirty and no page in flight it is DONE at once with COMMIT ready; otherwise the dirty pages and the
page in flight are wanted, every dirty page is urgent, those not yet in the eligible list join it behind the others in ascending
order, and the command goes on executing. -/
def Obligations.CommitMakesDirtyPagesUrgent : Prop :=
  ∀ (s : State) cmd, Handed s 0x20 cmd →
    ((∀ page : Fin 9, s.commit.dirty[page] = none) → s.commit.phase.inFlight = none →
      exec .commit s = .next (replied { s with notice := { s.notice with commit := true } } (plainResult cmd .done))) ∧
    ((∃ page : Fin 9, s.commit.dirty[page] ≠ none) ∨ s.commit.phase.inFlight ≠ none →
      ∃ t w, exec .commit s = .next t ∧ t.proc = { s.proc with executing := some { cmd, phase := .committing } } ∧
        t.commit = { s.commit with dirty := t.commit.dirty, eligible := t.commit.eligible, wanted := some w } ∧
        w.failed = 0 ∧ w.flight = s.commit.phase.inFlight.isSome ∧
        (∀ page : Fin 9, w.pages.getLsbD page.val =
          ((s.commit.dirty[page]).isSome || s.commit.phase.inFlight == some page)) ∧
        (∀ page : Fin 9, w.awaiting.getLsbD page.val = (s.commit.dirty[page]).isSome) ∧
        (∀ page : Fin 9, t.commit.dirty[page] = s.commit.dirty[page].map (fun r => { urgent := true, age := r.age })) ∧
        t.commit.eligible = joinedAscending s.commit.eligible (fun page => (s.commit.dirty[page]).isSome) ∧
        t.run = s.run ∧ t.engine = s.engine ∧ t.points = s.points ∧ t.timer = s.timer ∧ t.port = s.port ∧
        t.notice = s.notice ∧ t.nv = s.nv ∧ t.spi = s.spi ∧ t.readData = s.readData ∧ t.freeCount = s.freeCount ∧
        t.pending = s.pending)

/-- The steps of a commit. COMMIT_START takes the head of the eligible list: an account page waits for its GATHER, the settings
page is copied at once. GATHER copies the stored fields of the page's eight slots. Either copy takes the page out of the
eligible list and the dirty set and enters ERASE. The erased page reads as damaged. The program leaves the snapshot in the page;
that PROGRAM_COMPLETE carries whether it did, and that a program that failed leaves the page damaged, is the model's reading
(log entry 11). Slot i lies on page i / 8, and record j of page k is slot 8k + j. -/
def Obligations.CommitStepsWritePage : Prop :=
  (∀ slot : Fin 64, (pageOf slot).val = slot.val / 8) ∧
  (∀ k j : Fin 8, (slotAt k j).val = 8 * k.val + j.val) ∧
  (∀ (s : State) (page : Fin 9) rest, s.operating = true → s.commit.phase = .idle → s.commit.eligible = page :: rest →
    (page ≠ 8 → exec .commitStart s = .next { s with commit := { s.commit with phase := .gather page } }) ∧
    (page = 8 → exec .commitStart s = .next { s with commit := { s.commit with
      snapshot := some s.gatherSettings
      eligible := s.commit.eligible.filter fun q => q != 8
      dirty := s.commit.dirty.set 8 none
      phase := .erase 8
      retried := false } })) ∧
  (∀ (s : State) (k : Fin 8), s.engine.op = .busy (.gather k.castSucc) → NotWaiting s →
    exec .gather s = .next { s with
      engine := { s.engine with op := .free }
      commit := { s.commit with
        snapshot := some (.accounts (Vector.ofFn fun j => storeAccount (s.slot (slotAt k j))))
        eligible := s.commit.eligible.filter fun q => q != k.castSucc
        dirty := s.commit.dirty.set k.castSucc none
        phase := .erase k.castSucc
        retried := false } }) ∧
  (∀ (s : State) (page : Fin 9), s.commit.phase = .erase page →
    exec .eraseComplete s =
      .next { s with nv := s.nv.set page .damaged, commit := { s.commit with phase := .program page } }) ∧
  ∀ (s : State) (page : Fin 9) contents, s.commit.phase = .program page → s.commit.snapshot = some contents →
    exec (.programComplete true) s =
      .next { s with nv := s.nv.set page (.good contents), commit := { s.commit with phase := .verify page } } ∧
    exec (.programComplete false) s =
      .next { s with nv := s.nv.set page .damaged, commit := { s.commit with phase := .verify page } }

/-- VERIFY: a page that equals the snapshot ends the commit; the first failure erases again with the same snapshot; the second
sets NV_FAULT, COMMIT ready and the fault page, leaves the page damaged, and in RUN returns it to the dirty set as routine
unless it is there. A page of which a commit has verified is no longer marked as damaged at load (R209). The end of a commit
settles a wanted page of an executing COMMIT: the page in flight at its start, or a page dirty then; while wanted pages are left
the command goes on, and the commit that settles the last one ends it, DONE or NV_FAILED, with the wanted and the failed pages,
and sets COMMIT ready. Under a COMMIT too a second failure, of the last wanted page or of another, has all it has without. -/
def Obligations.VerifyEndsOrRetriesCommit : Prop :=
  (∀ (s : State) (page : Fin 9) contents, s.commit.phase = .verify page → s.commit.snapshot = some contents →
    (s.nv[page] = .good contents → s.commit.wanted = none → NotWaiting s →
      exec .verifyComplete s =
        .next { s with commit := { s.commit with
          phase := .idle, snapshot := none, retried := false, unverified := s.commit.unverified &&& ~~~pageBit page } }) ∧
    (s.nv[page] ≠ .good contents → s.commit.retried = false →
      exec .verifyComplete s = .next { s with commit := { s.commit with phase := .erase page, retried := true } }) ∧
    (s.nv[page] ≠ .good contents → s.commit.retried = true → s.commit.wanted = none → NotWaiting s →
      exec .verifyComplete s = .next { s with
        notice := { s.notice with errors := { s.notice.errors with nvFault := true }, commit := true }
        nv := s.nv.set page .damaged
        commit := { s.commit with
          phase := .idle
          snapshot := none
          retried := false
          faultPage := some page
          dirty :=
            if s.run.runState = .run ∧ s.commit.dirty[page] = none then
              s.commit.dirty.set page (some { urgent := false, age := 0 })
            else s.commit.dirty } })) ∧
  (∀ (s : State) (page : Fin 9) contents cmd w, s.commit.phase = .verify page → s.commit.snapshot = some contents →
    s.proc.executing = some { cmd, phase := .committing } → s.commit.wanted = some w →
    s.nv[page] = .good contents ∨ s.commit.retried = true →
    let failed := if s.nv[page] = .good contents then w.failed else w.failed ||| pageBit page
    ∃ t v, exec .verifyComplete s = .next t ∧
      (w.flight = true → v = { w with flight := false, failed }) ∧
      (w.flight = false → w.awaiting.getLsbD page.val = true →
        v = { w with awaiting := w.awaiting &&& ~~~pageBit page, failed }) ∧
      (w.flight = false → w.awaiting.getLsbD page.val = false → v = w) ∧
      (v.flight = true ∨ v.awaiting ≠ 0 → t.commit.wanted = some v ∧ t.proc = s.proc ∧
        (s.nv[page] = .good contents → t.notice = s.notice)) ∧
      (s.nv[page] = .good contents → PageVerified s t page) ∧ (s.nv[page] ≠ .good contents → PageFailed s t page) ∧
      (v.flight = false → v.awaiting = 0 → t.commit.wanted = none ∧
        (s.nv[page] = .good contents → t.notice = { s.notice with commit := true }) ∧
        Posted s t { plainResult cmd (if v.failed = 0 then .done else .nvFailed) with
          extraA := v.pages.zeroExtend 32, extraB := v.failed.zeroExtend 32 }) ∧
      t.commit = { s.commit with
        phase := .idle, snapshot := none, retried := false, dirty := t.commit.dirty, faultPage := t.commit.faultPage,
        wanted := t.commit.wanted, unverified := t.commit.unverified } ∧
      t.run = s.run ∧ t.engine = s.engine ∧ t.points = s.points ∧ t.timer = s.timer ∧ t.port = s.port ∧
      t.spi = s.spi ∧ t.readData = s.readData ∧ t.freeCount = s.freeCount ∧ t.pending = s.pending) ∧
  ∀ (s : State) (page : Fin 9) contents cmd w, s.commit.phase = .verify page → s.commit.snapshot = some contents →
    s.proc.executing = some { cmd, phase := .committing } → s.commit.wanted = some w → w.flight = false →
    w.awaiting = pageBit page →
    (s.nv[page] = .good contents → ∃ t, exec .verifyComplete s = .next t ∧ t.commit.phase = .idle ∧
      t.commit.wanted = none ∧ t.notice = { s.notice with commit := true } ∧ PageVerified s t page ∧
      Posted s t { plainResult cmd (if w.failed = 0 then .done else .nvFailed) with
        extraA := w.pages.zeroExtend 32, extraB := w.failed.zeroExtend 32 }) ∧
    (s.nv[page] ≠ .good contents → s.commit.retried = true → ∃ t, exec .verifyComplete s = .next t ∧
      t.commit.phase = .idle ∧ t.commit.wanted = none ∧ PageFailed s t page ∧
      Posted s t { plainResult cmd .nvFailed with
        extraA := w.pages.zeroExtend 32, extraB := (w.failed ||| pageBit page).zeroExtend 32 })

/-- What a commit stores, load takes back: an account with its status and its fields in range (its bound count is counted anew),
a point's binding and configuration, a tariff, and the period length, the commit interval and the port's configuration. -/
def Obligations.StoredFieldsLoadBack : Prop :=
  (∀ a : Account, a.status ≠ .free → a.number ≤ 99999999 → a.ec ≤ 99999999 → a.low ≤ 99999999 →
    -9999999999 ≤ a.balance → a.balance ≤ 9999999999 → a.level = levelOf a.balance a.low a.ec →
    (storeAccount a).status.toNat = a.status.code ∧ (storeAccount a).sound = true ∧
      loadRecord (storeAccount a) a.status = { a with boundCount := 0 }) ∧
  (storeAccount Account.free).status = 0 ∧
  (∀ p : Point, 1 ≤ p.config.prescale → p.config.prescale ≤ 16 → p.config.grace ≤ 65535 →
    (storePoint p).unusable = false ∧ loadBinding (storePoint p).binding = p.binding ∧
      loadConfig (storePoint p) = p.config) ∧
  (∀ t : Tariff, t.priceA ≤ 999999 → t.priceB ≤ 999999 → t.standing ≤ 999999 →
    (storeTariff t).unusable = false ∧ loadTariff (storeTariff t) = t) ∧
  ∀ s : State, 60 ≤ s.timer.periodLength → s.timer.periodLength ≤ 86400 → 1 ≤ s.commit.interval →
    s.commit.interval ≤ 255 → 0x08 ≤ s.port.address.toNat → s.port.address.toNat ≤ 0x77 → s.port.maximum ≤ 99999999 →
    ∃ stored, s.gatherSettings = .settings stored ∧ (∀ p : Fin 16, stored.points[p] = storePoint (s.point p)) ∧
      (∀ i : Fin 8, stored.tariffs[i] = storeTariff s.timer.tariffs[i]) ∧
      loadPeriod stored.periodLength = some s.timer.periodLength ∧ loadInterval stored.interval = some s.commit.interval ∧
      loadEnable stored.enable = some s.port.enabled ∧ loadAddress stored.address = some s.port.address ∧
      bcdValue 8 stored.maximum.toNat = some s.port.maximum

/-! ### The Top-up Port -/

/-- A start, a stop and the bus timeout by port state: each ends a write or a read in progress in IDLE with empty buffers, but a
stop in RECEIVE or DISCARD leaves a BAD_FRAME reply to be read; IDLE and REPLY_READY keep their reply and their state. After a
start the port awaits an address byte. A timeout that ends a write or a read releases both lines; that a start or a stop that
leads to IDLE ends the acknowledge too is the model's choice (log entry 30). That a start, a stop and a timeout leave a port in
APPLY as it is, where the spec says that none occurs, is the model's choice (log entry 1). -/
def Obligations.BusConditionsByPortState : Prop :=
  ∀ s : State, NotWaiting s →
    let idle := { s.port with state := .idle, awaitsAddress := false, receive := [], reply := [], sent := 0, acked := false }
    let engaged := s.port.state = .addressedWrite ∨ s.port.state = .receive ∨ s.port.state = .discard ∨
      s.port.state = .sending
    exec .busStart s = .next { s with
      port :=
        if s.port.state = .applying then s.port
        else { (if engaged then idle else s.port) with awaitsAddress := true } } ∧
    (∃ t, exec .busTimeout s = .next t ∧ t = { s with port := if engaged then idle else s.port } ∧
      (engaged → t.clockHeld = false ∧ t.acknowledgeDrive = .released ∧ ∀ place, t.tsdaDrive place = .released)) ∧
    exec .busStop s = .next { s with
      port :=
        if s.port.state = .addressedWrite ∨ s.port.state = .sending then idle
        else if s.port.state = .receive ∨ s.port.state = .discard then
          { s.port with state := .replyReady, receive := [], reply := replyBytes .badFrame Account.free, sent := 0 }
        else s.port }

/-- The bytes that open a write or a read. An address byte, the first byte after a start, is acknowledged when the port is
enabled, the run state is RUN and the address agrees; without a start, or when a test fails, it is left unacknowledged and the
port ignores the bus until the next start. Its direction leads to ADDRESSED_WRITE, with any reply discarded, or to SENDING, with
the held reply or NO_REPLY. The kind byte leads to RECEIVE, or, unacknowledged, to DISCARD, where every byte is refused. An
acknowledge holds TSDA low in the ninth clock, a refusal leaves it released. A byte that is not the port's is left
unacknowledged (log entry 20). -/
def Obligations.AddressAndKindBytesByState : Prop :=
  (∀ s : State, s.acknowledgeDrive = if s.port.acked then .low else .released) ∧
  ∀ (s : State) (byte : Byte),
    let waiting := s.port.state = .idle ∨ s.port.state = .replyReady
    let admitted := s.port.awaitsAddress = true ∧ s.port.enabled = true ∧ s.run.runState = .run ∧
      byte.toNat / 2 = s.port.address.toNat
    let ignored := Host.Outcome.next (φ := Fault) (ρ := Refusal)
      { s with port := { s.port with acked := false, awaitsAddress := false } }
    (waiting → ¬admitted → exec (.addressByte byte) s = ignored) ∧
    (waiting → admitted → byte.getLsbD 0 = false →
      exec (.addressByte byte) s = .next { s with port := { s.port with
        state := .addressedWrite, awaitsAddress := false, receive := [], reply := [], sent := 0, acked := true } }) ∧
    (s.port.state = .idle → admitted → byte.getLsbD 0 = true →
      exec (.addressByte byte) s = .next { s with port := { s.port with
        state := .sending, awaitsAddress := false, reply := replyBytes .noReply Account.free, sent := 0,
        acked := true } }) ∧
    (s.port.state = .replyReady → admitted → byte.getLsbD 0 = true →
      exec (.addressByte byte) s =
        .next { s with port := { s.port with state := .sending, awaitsAddress := false, sent := 0, acked := true } }) ∧
    (s.port.state = .addressedWrite → (byte = 0x54 ∨ byte = 0x51) →
      exec (.kindByte byte) s =
        .next { s with port := { s.port with state := .receive, receive := [byte], acked := true } }) ∧
    (s.port.state = .addressedWrite → byte ≠ 0x54 → byte ≠ 0x51 →
      exec (.kindByte byte) s = .next { s with port := { s.port with state := .discard, acked := false } }) ∧
    (s.port.state = .discard →
      exec (.discardByte byte) s = .next { s with port := { s.port with acked := false } }) ∧
    (waiting → exec (.kindByte byte) s = ignored ∧ exec (.frameByte byte) s = ignored ∧
      exec (.discardByte byte) s = ignored)

/-- A byte of a frame joins the receive buffer; the last byte of the frame is acknowledged and the frame validated, in this
order: the sum, bad digits, a TOPUP of 0, a TOPUP above the maximum. A refusal is answered at once with zero fields; a frame
that passes raises its APPLY request with the clock held: TSCL is held low in APPLY and in no other state. The number is the
eight digits of the second to fifth bytes, and the amount of a TOPUP the ten digits of the sixth to tenth, more significant
digits first; there is none exactly when one of these bytes has a bad digit. -/
def Obligations.FrameBytesBuildAndValidate : Prop :=
  (∀ s : State, s.clockHeld = true ↔ s.port.state = .applying) ∧
  (∀ (kind n₁ n₂ n₃ n₄ : Byte) (rest : List Byte),
    let number := frameNumber (kind :: n₁ :: n₂ :: n₃ :: n₄ :: rest)
    ((∀ b ∈ [n₁, n₂, n₃, n₄], DigitPair b) →
      number = some (((pairValue n₁ * 100 + pairValue n₂) * 100 + pairValue n₃) * 100 + pairValue n₄)) ∧
    ((∃ b ∈ [n₁, n₂, n₃, n₄], ¬DigitPair b) → number = none)) ∧
  (∀ (kind n₁ n₂ n₃ n₄ a₁ a₂ a₃ a₄ a₅ : Byte) (rest : List Byte),
    let amount := frameAmount (kind :: n₁ :: n₂ :: n₃ :: n₄ :: a₁ :: a₂ :: a₃ :: a₄ :: a₅ :: rest)
    ((∀ b ∈ [a₁, a₂, a₃, a₄, a₅], DigitPair b) →
      amount = some ((((pairValue a₁ * 100 + pairValue a₂) * 100 + pairValue a₃) * 100 + pairValue a₄) * 100 + pairValue a₅)) ∧
    ((∃ b ∈ [a₁, a₂, a₃, a₄, a₅], ¬DigitPair b) → amount = none)) ∧
  ∀ (s : State) (byte : Byte), s.port.state = .receive →
    let frame := s.port.receive ++ [byte]
    let topup := frame.head? = some 0x54
    let length := if topup then 11 else 6
    let refused := fun status => Host.Outcome.next (φ := Fault) (ρ := Refusal) { s with port := { s.port with
      state := .replyReady, receive := [], reply := replyBytes status Account.free, sent := 0, acked := true } }
    let applied := fun request => Host.Outcome.next (φ := Fault) (ρ := Refusal) { s with port := { s.port with
      state := .applying, receive := frame, acked := true, request := some request } }
    (frame.length < length →
      exec (.frameByte byte) s = .next { s with port := { s.port with receive := frame, acked := true } }) ∧
    (length ≤ frame.length →
      (byteSum frame ≠ 0 → exec (.frameByte byte) s = refused .badFrame) ∧
      (frameNumber frame = none → exec (.frameByte byte) s = refused .badFrame) ∧
      (topup → frameAmount frame = none → exec (.frameByte byte) s = refused .badFrame) ∧
      ∀ number, byteSum frame = 0 → frameNumber frame = some number →
        (¬topup → exec (.frameByte byte) s = applied { kind := .enquire, number, amount := 0 }) ∧
        ∀ amount, topup → frameAmount frame = some amount →
          (amount = 0 → exec (.frameByte byte) s = refused .badFrame) ∧
          (amount ≠ 0 → s.port.maximum < amount → exec (.frameByte byte) s = refused .overLimit) ∧
          (amount ≠ 0 → amount ≤ s.port.maximum →
            exec (.frameByte byte) s = applied { kind := .topup, number, amount }))

/-- Sending: an acknowledged byte leads to the next one, and the ninth consumes the reply; a byte not acknowledged, or a line
found low where the port sends a one, ends the read in IDLE, where the port ignores the bus until the next start. That a
collision named at a bit the port drives low changes nothing is the model's choice (log entry 19). The byte sent is the reply's
next one, FFh after the ninth; its bits go out on TSDA most significant first, low for a 0 and released for a 1, and outside
SENDING the port sends no bit.
Every reply has nine bytes whose sum is 0 modulo 256: the status code, the slot's status code in bits 1:0 and its level code in
bits 3:2, the sign, 80h for a negative balance, five bytes of two digits that carry the magnitude, and the check; the codes are
the manual's. An enquiry of an ACTIVE, NORMAL account with +460 and a read without a reply are answered as the manual's example
gives. -/
def Obligations.RepliesAreSentAndChecked : Prop :=
  (∀ s : State, s.port.state = .sending → NotWaiting s →
    let idle := { s.port with state := .idle, awaitsAddress := false, receive := [], reply := [], sent := 0, acked := false }
    exec (.replyByte false) s = .next { s with port := idle } ∧
    (s.port.sent < 8 → exec (.replyByte true) s = .next { s with port := { s.port with sent := s.port.sent + 1 } }) ∧
    (8 ≤ s.port.sent → exec (.replyByte true) s = .next { s with port := { s.port with sent := 9, reply := [] } }) ∧
    (∀ bit : Fin 8, s.sendingByte.getLsbD bit.val = true → exec (.collision bit) s = .next { s with port := idle }) ∧
    (∀ bit : Fin 8, s.sendingByte.getLsbD bit.val = false → exec (.collision bit) s = .next s) ∧
    (∀ (n : Nat) (h : n < s.port.reply.length), s.port.sent = n → s.sendingByte = s.port.reply[n]) ∧
    (s.port.reply.length ≤ s.port.sent → s.sendingByte = 0xFF) ∧
    ∀ place : Fin 8, s.tsdaDrive place = if s.sendingByte.getLsbD (7 - place.val) then .released else .low) ∧
  (∀ s : State, s.port.state ≠ .sending → ∀ place, s.tsdaDrive place = .released) ∧
  (∀ (status : ReplyStatus) (a : Account),
    (replyBytes status a).length = 9 ∧ ((replyBytes status a).map BitVec.toNat).sum % 256 = 0 ∧
    (-9999999999 ≤ a.balance → a.balance ≤ 9999999999 → ∃ d₁ d₂ d₃ d₄ d₅ check : Byte,
      replyBytes status a =
        [BitVec.ofNat 8 status.code, BitVec.ofNat 8 (a.status.code + 4 * a.level.code),
          if a.balance < 0 then 0x80 else 0x00, d₁, d₂, d₃, d₄, d₅, check] ∧
      (∀ b ∈ [d₁, d₂, d₃, d₄, d₅], DigitPair b) ∧
      (((pairValue d₁ * 100 + pairValue d₂) * 100 + pairValue d₃) * 100 + pairValue d₄) * 100 + pairValue d₅ =
        a.balance.natAbs)) ∧
  [ReplyStatus.accepted, .unknown, .blocked, .overLimit, .badFrame, .overflow, .noReply].map ReplyStatus.code =
    [0x00, 0x01, 0x02, 0x03, 0x04, 0x05, 0x06] ∧
  [Status.free, .active, .suspended, .quarantined].map Status.code = [0, 1, 2, 3] ∧
  [Level.normal, .low, .emergency, .exhausted].map Level.code = [0, 1, 2, 3] ∧
  replyBytes .accepted { Account.free with number := 31000274, status := .active, balance := 460 } =
    [0x00, 0x01, 0x00, 0x00, 0x00, 0x00, 0x04, 0x60, 0x9B] ∧
  replyBytes .noReply Account.free = [0x06, 0, 0, 0, 0, 0, 0, 0, 0xFA]

/-! ### Notices and the register port -/

/-- The writes of the Notice Controller: NOTICE_READY clears the latched flags written with one and no level flag; NOTICE_ENABLE
takes 23 places; NOTICE_MODE acts by its table; ERRORS clears the flags written with one. A read of NOTICE_TAKE gives the
highest requesting source, in VECTORED among those that outrank the top, which is pushed, or FFh. A write to NOTICE_DONE in
SUMMARY does nothing. A source requests while it is ready and enabled, and in SUMMARY NOTICE_N is asserted exactly while some
source requests. -/
def Obligations.NoticeAccessesActByMode : Prop :=
  ∀ (s : State) (value : Word), s.run.runState ≠ .reset →
    exec (.noticeReadyWrite value) s = .next { s with notice := { s.notice with
      power := s.notice.power && !value.getLsbD 0, topup := s.notice.topup && !value.getLsbD 19,
      commit := s.notice.commit && !value.getLsbD 20, mark := s.notice.mark && !value.getLsbD 21 } } ∧
    exec (.noticeEnableWrite value) s = .next { s with notice := { s.notice with enables := value.extractLsb' 0 23 } } ∧
    exec (.noticeModeWrite value) s = .next { s with
      notice :=
        if value.getLsbD 0 = true then
          if s.notice.mode = .vectored then s.notice else { s.notice with mode := .vectored, stack := [] }
        else { s.notice with mode := .summary, stack := [] } } ∧
    exec (.errorsWrite value) s = .next { s with notice := { s.notice with errors :=
      { queueOverflow := s.notice.errors.queueOverflow && !value.getLsbD 0
        resultUnderflow := s.notice.errors.resultUnderflow && !value.getLsbD 1
        sweepLate := s.notice.errors.sweepLate && !value.getLsbD 2
        nvFault := s.notice.errors.nvFault && !value.getLsbD 3
        loadDamage := s.notice.errors.loadDamage && !value.getLsbD 4
        badRegister := s.notice.errors.badRegister && !value.getLsbD 5 } } } ∧
    (let outranks := fun rank : Fin 23 => s.notice.mode = .vectored → ∀ top ∈ s.notice.stack.head?, rank < top
    (∀ rank : Fin 23, s.requests.getLsbD rank.val = true → outranks rank →
      (∀ r, r < rank → s.requests.getLsbD r.val = true → ¬outranks r) →
      exec .noticeTake s = .next { s with
        readData := BitVec.ofNat 32 rank.val
        notice :=
          if s.notice.mode = .vectored then { s.notice with stack := rank :: s.notice.stack } else s.notice }) ∧
    ((∀ r : Fin 23, s.requests.getLsbD r.val = true → ¬outranks r) →
      exec .noticeTake s = .next { s with readData := 0xFF })) ∧
    (∀ rank : Fin 23, s.requests.getLsbD rank.val = (s.readyFlags.getLsbD rank.val && s.notice.enables.getLsbD rank.val)) ∧
    (s.notice.mode = .summary → exec (.noticeDone value) s = .next s ∧
      (s.noticeAsserted = true ↔ ∃ rank : Fin 23, s.requests.getLsbD rank.val = true))

/-- R163: in VECTORED mode a write to NOTICE_DONE removes the top entry of the stack whatever is written, and the entry
beneath becomes the top; on an empty stack it does nothing. NOTICE_N then follows the new top: it is asserted exactly when a
requesting source outranks it, or requests at all with the stack empty; a removed source that still requests asserts it. A
read of NOTICE_DONE gives 0 and changes nothing. -/
def Obligations.DoneWriteRemovesTop : Prop :=
  ∀ (s : State) (value : Word), s.run.runState ≠ .reset → s.notice.mode = .vectored →
    (∃ t, exec (.noticeDone value) s = .next t ∧
      t = { s with notice := { s.notice with stack := s.notice.stack.tail } } ∧
      (t.noticeAsserted = true ↔
        ∃ rank : Fin 23, s.requests.getLsbD rank.val = true ∧ ∀ top ∈ s.notice.stack.tail.head?, rank < top) ∧
      (∀ top rest, s.notice.stack = top :: rest → StackOrdered s → s.requests.getLsbD top.val = true →
        t.noticeAsserted = true)) ∧
    (s.notice.stack = [] → exec (.noticeDone value) s = .next s) ∧
    exec (.unassignedRead 0x1A) s = .next { s with readData := 0 }

/-- R205: POINTp at 30h + p shows grace remaining, pending units, the five event flags and the state code of point p, all taken
at one moment; a write clears each flag written with one in bits 28:24, ignores every other bit and sets no error; when no flag
is left set, POINTp is not ready. The state codes are the manual's. -/
def Obligations.PointRegisterShowsAndClears : Prop :=
  [PointState.detached, .held, .live, .grace, .cut, .awaiting, .locked].map PointState.code = [0, 1, 2, 3, 4, 5, 6] ∧
  ∀ (s : State) (p : Fin 16) (value : Word), s.run.runState ≠ .reset →
    let r := s.point p
    let flags := fun f : PointFlags => [f.grace, f.cut, f.awaiting, f.locked, f.stray]
    (r.graceRemaining ≤ 65535 → r.pending ≤ 255 → ∃ w : Word,
      exec (.unassignedRead (BitVec.ofNat 7 (0x30 + p.val))) s = .next { s with readData := w } ∧
      bits w 0 16 = r.graceRemaining ∧ bits w 16 8 = r.pending ∧
      (∀ i : Fin 5, w.getLsbD (24 + i.val) = (flags r.flags)[i.val]) ∧ bits w 29 3 = r.state.code) ∧
    ∃ t, exec (.pointFlagsWrite p value) s = .next t ∧
      (∀ i : Fin 5, (flags (t.point p).flags)[i.val] = ((flags r.flags)[i.val] && !value.getLsbD (24 + i.val))) ∧
      t.point p = { r with flags := (t.point p).flags } ∧
      t = { s with points := { s.points with points := s.points.points.set p (t.point p) } } ∧
      ((∀ i : Fin 5, (flags (t.point p).flags)[i.val] = false) → t.readyFlags.getLsbD (2 + p.val) = false)

/-- R105: RESULT, rank 22, is ready exactly while a result is held: from the posting that makes the count 1 to the POP, PORT
RESET or reset that makes it 0; a write to NOTICE_READY does not change it. -/
def Obligations.ResultSourceFollowsCount : Prop :=
  (∀ s : State, s.readyFlags.getLsbD 22 = true ↔ 0 < s.proc.results.length) ∧
  (∀ (s : State) (r : Result), (replied s r).readyFlags.getLsbD 22 = true) ∧
  (∀ (s : State) (value : Word) r, s.run.runState ≠ .reset → s.proc.results = [r] →
    ∃ t, exec (.pop value) s = .next t ∧ t.readyFlags.getLsbD 22 = false) ∧
  (∀ (s : State) (value : Word), s.run.runState ≠ .reset → value.getLsbD 1 = true →
    ∃ t, exec (.portReset value) s = .next t ∧ t.readyFlags.getLsbD 22 = false) ∧
  (∀ s : State, ∃ t, exec .reset s = .next t ∧ t.readyFlags.getLsbD 22 = false) ∧
  ∀ (s : State) (value : Word), ∃ t, exec (.noticeReadyWrite value) s = .next t ∧
    t.readyFlags.getLsbD 22 = s.readyFlags.getLsbD 22

/-- The register window: an unassigned offset reads 0 and sets BAD_REGISTER; a read of any other offset but NOTICE_TAKE takes
its value and changes nothing; a write-only register reads 0; a write to a staging register stores the value; a write to a
read-only or unassigned offset sets BAD_REGISTER and nothing else. Every register's fields stand where the register map and the
result layout place them. The forms that the fields take: eight packed digits, the packed field of a slot, the money pair of a
balance, and the set of reasons, each with its bits written out, and every code the host sees with its number. Bits not named
for a register read 0. -/
def Obligations.RegisterWindowServesAccesses : Prop :=
  (∀ (w : Word) (v : Nat), digits8 w = some v ↔
    (∀ j, j < 8 → bits w (4 * j) 4 ≤ 9) ∧ v = ((List.range 8).map fun j => bits w (4 * j) 4 * 10 ^ j).sum) ∧
  (∀ n, n ≤ 99999999 → digits8 (bcdWord n) = some n) ∧
  (∀ a : Account, a.boundCount ≤ 16 →
    bits (packedField a) 0 2 = a.status.code ∧ bits (packedField a) 2 2 = a.level.code ∧
      bits (packedField a) 4 3 = a.tariff.val ∧ bits (packedField a) 7 1 = 0 ∧ bits (packedField a) 8 5 = a.boundCount ∧
      bits (packedField a) 13 19 = 0) ∧
  (∀ b : Int, -9999999999 ≤ b → b ≤ 9999999999 →
    bits (moneyHigh b) 8 8 = (if b < 0 then 0x80 else 0x00) ∧ bits (moneyHigh b) 16 16 = 0 ∧
      bits (moneyHigh b) 4 4 ≤ 9 ∧ bits (moneyHigh b) 0 4 ≤ 9 ∧ digits8 (moneyLow b) = some (b.natAbs % 10 ^ 8) ∧
      bits (moneyHigh b) 4 4 * 10 + bits (moneyHigh b) 0 4 = b.natAbs / 10 ^ 8) ∧
  (∀ r : Reasons, r.code < 64 ∧ r.code.testBit 0 = r.low ∧ r.code.testBit 1 = r.emergency ∧
    r.code.testBit 2 = r.exhausted ∧ r.code.testBit 3 = r.restored ∧ r.code.testBit 4 = r.limit ∧
    r.code.testBit 5 = r.quarantine) ∧
  [Status.free, .active, .suspended, .quarantined].map Status.code = [0, 1, 2, 3] ∧
  [Level.normal, .low, .emergency, .exhausted].map Level.code = [0, 1, 2, 3] ∧
  [RunState.reset, .loading, .run, .holdup, .safe].map RunState.code = [0, 1, 2, 3, 4] ∧
  (∀ page : Fin 9,
    [CommitPhase.idle, .gather page, .erase page, .program page, .verify page].map CommitPhase.code = [0, 1, 2, 3, 4]) ∧
  [ResultStatus.done, .badCommand, .badField, .notFound, .duplicate, .tableFull, .insufficient, .overflow, .bound, .wrongState,
    .sameAccount, .empty, .timeout, .purged, .nvFailed, .holdup].map ResultStatus.code = List.range 16 ∧
  [EdgeMode.rise, .fall, .both].map EdgeMode.code = [0, 1, 2] ∧
  [Debounce.ms0, .ms1, .ms4, .ms16].map Debounce.code = [0, 1, 2, 3] ∧
  [RestoreMode.automatic, .onCommand].map RestoreMode.code = [0, 1] ∧
  ∀ (s : State) (offset : BitVec 7) (value : Word), s.run.runState ≠ .reset →
    let bad := { s.notice with errors := { s.notice.errors with badRegister := true } }
    (unassignedOffset offset = true →
      exec (.unassignedRead offset) s = .next { s with readData := 0, notice := bad } ∧
      exec (.registerWrite offset value) s = .next { s with notice := bad }) ∧
    (unassignedOffset offset = false → offset ≠ 0x19 →
      exec (.unassignedRead offset) s = .next { s with readData := s.registerValue offset.toNat }) ∧
    (offset.toNat ∈ [0x00, 0x01, 0x04, 0x0D, 0x0E, 0x0F, 0x10, 0x11, 0x12, 0x13, 0x14, 0x19, 0x1B, 0x1C, 0x1D, 0x1E, 0x1F,
        0x20, 0x21] →
      exec (.registerWrite offset value) s = .next { s with notice := bad }) ∧
    (∀ n : Fin 7, offset.toNat = 5 + n.val →
      exec (.registerWrite offset value) s =
        .next { s with proc := { s.proc with staging := s.proc.staging.set n value } }) ∧
    (∀ n : Fin 7, s.registerValue (5 + n.val) = s.proc.staging[n]) ∧
    s.registerValue 0x00 = 0x64160103#32 ∧ s.registerValue 0x1B = s.proc.mark ∧
    s.registerValue 0x0D = BitVec.ofNat 32 s.proc.results.length ∧
    (∀ writeOnly ∈ [0x02, 0x0C, 0x15, 0x1A], s.registerValue writeOnly = 0) ∧
    (s.proc.results = [] → ∀ n, n < 7 → s.registerValue (0x0E + n) = 0) ∧
    bits (s.registerValue 0x01) 0 3 = s.run.runState.code ∧ bits (s.registerValue 0x01) 8 4 = s.run.loadPage.val ∧
    RegisterFieldsPlaced s ∧ UnnamedBitsRead0 s

/-- A transaction on the register port spells the access it frames: a write takes a 0, seven offset bits and 32 value bits, most
significant first, and ignores what follows; a read acts on its command byte; a write cut short is no access. The command
spelled does what a write of the offset, or a read of it, does. Edge by edge: a transaction puts the command it spells, and
nothing else, at the end of the queue; with no transaction, as after a reset, clock edges do nothing; SDO is driven while CS_N
is low outside RESET, at a level that is a free value while no transaction runs (log entry 35), and undriven otherwise: it sends
0 through the command byte and in a write, and, when the command of a read is taken between its command byte and its first data
bit, the register's value as it stood then, most significant bit first, and 0 after its 32 bits. That a transaction is one
command of the queue is the model's choice (log entry 22). In RESET the port follows the level of CS_N alone: no transaction
begins, clock edges do nothing, and no register access changes anything (log entry 31). -/
def Obligations.SpiTransactionsSpellAccesses : Prop :=
  ∀ (offset : BitVec 7) (value : Word) (later : List Bool),
    let offsetBits := List.ofFn fun i : Fin 7 => offset.getMsbD i.val
    let valueBits := List.ofFn fun i : Fin 32 => value.getMsbD i.val
    spiCommand (false :: offsetBits ++ valueBits ++ later) = some (writeCommand offset value) ∧
    spiCommand (true :: offsetBits ++ later) = some (readCommand offset) ∧
    (later.length < 32 → spiCommand (false :: offsetBits ++ later) = none) ∧
    (writeCommand offset value).wellFormed = (offset.toNat != 0x02 || value.getLsbD 0 || value.getLsbD 1) ∧
    (∀ s : State, exec (writeCommand offset value) s = exec (.registerWrite offset value) s ∧
      exec (readCommand offset) s = exec (.unassignedRead offset) s) ∧
    (∀ s : State, s.run.runState ≠ .reset →
      ((s.spiEdge .select).spiClock later).spiEdge .deselect =
        { s with
          pending := s.pending ++ (spiCommand later).toList, spi := { selected := false, transaction := none } } ∧
      (∀ n, n ≤ later.length → n < 8 ∨ later.head? = some false →
        ((s.spiEdge .select).spiClock (later.take n)).sdo = .driven false) ∧
      (s.pending = [] → ∃ t, step ((s.spiEdge .select).spiClock (true :: offsetBits)) = .next t ∧
        ∀ k, k ≤ later.length → (t.spiClock (later.take k)).sdo = .driven (decide (k < 32) &&
          (if offset = 0x19 then BitVec.ofNat 32 s.takenRank else s.registerValue offset.toNat).getMsbD k))) ∧
    (∀ s : State, s.spi.transaction = none → s.spiClock later = s ∧
      (s.run.runState ≠ .reset → s.spi.selected = true → s.sdo = .driven (Config.sdoOutsideTransaction s.freeCount))) ∧
    (∀ s : State, s.run.runState = .reset ∨ s.spi.selected = false → s.sdo = .undriven) ∧
    ∀ s : State, s.run.runState = .reset →
      s.spiEdge .select = { s with spi := { selected := true, transaction := none } } ∧
      s.spiEdge .deselect = { s with spi := { selected := false, transaction := none } } ∧
      (∀ sdi, s.spiEdge (.clockRise sdi) = s) ∧ s.spiEdge .clockFall = s ∧
      ∀ p, ∀ c ∈ [Instr.submit value, .pop value, .purge value, .portReset value, .noticeReadyWrite value,
        .noticeEnableWrite value, .noticeModeWrite value, .noticeTake, .noticeDone value, .errorsWrite value,
        .pointFlagsWrite p value, .unassignedRead offset, .registerWrite offset value], exec c s = .next s

/-! ### Invariants -/

/-- Every invariant below holds of the state after reset. -/
def Obligations.InvariantsHoldAtReset : Prop :=
  QueuesFit State.reset ∧ StackOrdered State.reset ∧ EligibleDirty State.reset ∧ RepairsUnverified State.reset ∧
    PointsLegal State.reset ∧
    PeriodInRange State.reset ∧ DirectorySound State.reset ∧ BoundCountsAgree State.reset ∧ AccountsInRange State.reset ∧
    ViewsAgree State.reset ∧ AttentionSound State.reset

/-- Every step keeps the queues within their sizes: 32 commands, 16 results with the reservation. -/
def Obligations.EveryStepKeepsQueuesFit : Prop := ∀ s t : State, QueuesFit s → step s = .next t → QueuesFit t

/-- Every step keeps the active stack ordered by rank, and empty in SUMMARY. -/
def Obligations.EveryStepKeepsStackOrdered : Prop := ∀ s t : State, StackOrdered s → step s = .next t → StackOrdered t

/-- Every step keeps the eligible list within the dirty set, without repetition, holding every urgent page, and every dirty
page urgent in HOLDUP and SAFE. And every step keeps each page that load found damaged, and of which no commit has verified
since, damaged in the array, but for a page in VERIFY that holds its snapshot (log entry 32), and a GATHER in progress that of
the commit under way. -/
def Obligations.EveryStepKeepsEligibleDirty : Prop :=
  (∀ s t : State, EligibleDirty s → step s = .next t → EligibleDirty t) ∧
    ∀ s t : State, RepairsUnverified s → step s = .next t → RepairsUnverified t

/-- Every step keeps each point's state in agreement with its hold causes and the level its account view shows: a supply is on
only for a view of an ACTIVE slot without a host-hold, LIVE while not EXHAUSTED and GRACE while EXHAUSTED. And every step keeps
the view of each bound point equal to its slot's status and level, once the slot's page is loaded. -/
def Obligations.EveryStepKeepsPointsLegal : Prop :=
  (∀ s t : State, PointsLegal s → step s = .next t → PointsLegal t) ∧
    ∀ s t : State, ViewsAgree s → step s = .next t → ViewsAgree t

/-- Every step keeps the period counter in its range, the sweep PAUSED in HOLDUP and SAFE alone, and LOADING quiet. -/
def Obligations.EveryStepKeepsPeriodInRange : Prop := ∀ s t : State, PeriodInRange s → step s = .next t → PeriodInRange t

/-- Every step keeps the directory exact: strictly ascending numbers, one entry for each ACTIVE or SUSPENDED slot and no other.
And in an exact directory a lookup of a number finds the ACTIVE or SUSPENDED slot with that number, and none when there is no
such slot. -/
def Obligations.EveryStepKeepsDirectorySound : Prop :=
  (∀ s t : State, DirectorySound s → step s = .next t → DirectorySound t) ∧
    ∀ (s : State) (number : Nat), DirectoryExact s →
      let holds := fun i => ((s.slot i).status = .active ∨ (s.slot i).status = .suspended) ∧ (s.slot i).number = number
      (∀ i, s.lookup number = some i ↔ holds i) ∧ (s.lookup number = none ↔ ∀ i, ¬holds i)

/-- Every step keeps each slot's bound count the number of points bound to it. -/
def Obligations.EveryStepKeepsBoundCounts : Prop := ∀ s t : State, BoundCountsAgree s → step s = .next t → BoundCountsAgree t

/-- Every step keeps every account's fields in range and its level that of its balance, L and EC. And every step keeps the
attention list without a slot twice, without a FREE slot and without an entry that has no reason. -/
def Obligations.EveryStepKeepsAccountsInRange : Prop :=
  (∀ s t : State, AccountsInRange s → step s = .next t → AccountsInRange t) ∧
    ∀ s t : State, AttentionSound s → step s = .next t → AttentionSound t

end Statements
end

