-- ==== Sys2Proof/Laws/State.lean ====
section
/-! SUPPORT. For each update of the state, each block it does not touch. A proof reads a field through an update by
these, and unfolds none. -/

namespace Sys2Proof.Machine.Laws

/-! ### setSlot -/

@[simp] theorem setSlot_run (s : State) (i : Fin 64) (a : Account) : (s.setSlot i a).run = s.run := rfl
@[simp] theorem setSlot_points (s : State) (i : Fin 64) (a : Account) : (s.setSlot i a).points = s.points := rfl
@[simp] theorem setSlot_timer (s : State) (i : Fin 64) (a : Account) : (s.setSlot i a).timer = s.timer := rfl
@[simp] theorem setSlot_proc (s : State) (i : Fin 64) (a : Account) : (s.setSlot i a).proc = s.proc := rfl
@[simp] theorem setSlot_port (s : State) (i : Fin 64) (a : Account) : (s.setSlot i a).port = s.port := rfl
@[simp] theorem setSlot_notice (s : State) (i : Fin 64) (a : Account) : (s.setSlot i a).notice = s.notice := rfl
@[simp] theorem setSlot_commit (s : State) (i : Fin 64) (a : Account) : (s.setSlot i a).commit = s.commit := rfl
@[simp] theorem setSlot_nv (s : State) (i : Fin 64) (a : Account) : (s.setSlot i a).nv = s.nv := rfl
@[simp] theorem setSlot_spi (s : State) (i : Fin 64) (a : Account) : (s.setSlot i a).spi = s.spi := rfl
@[simp] theorem setSlot_readData (s : State) (i : Fin 64) (a : Account) : (s.setSlot i a).readData = s.readData := rfl
@[simp] theorem setSlot_freeCount (s : State) (i : Fin 64) (a : Account) : (s.setSlot i a).freeCount = s.freeCount := rfl
@[simp] theorem setSlot_pending (s : State) (i : Fin 64) (a : Account) : (s.setSlot i a).pending = s.pending := rfl

/-! ### setPoint -/

@[simp] theorem setPoint_run (s : State) (p : Fin 16) (r : Point) : (s.setPoint p r).run = s.run := rfl
@[simp] theorem setPoint_engine (s : State) (p : Fin 16) (r : Point) : (s.setPoint p r).engine = s.engine := rfl
@[simp] theorem setPoint_timer (s : State) (p : Fin 16) (r : Point) : (s.setPoint p r).timer = s.timer := rfl
@[simp] theorem setPoint_proc (s : State) (p : Fin 16) (r : Point) : (s.setPoint p r).proc = s.proc := rfl
@[simp] theorem setPoint_port (s : State) (p : Fin 16) (r : Point) : (s.setPoint p r).port = s.port := rfl
@[simp] theorem setPoint_notice (s : State) (p : Fin 16) (r : Point) : (s.setPoint p r).notice = s.notice := rfl
@[simp] theorem setPoint_commit (s : State) (p : Fin 16) (r : Point) : (s.setPoint p r).commit = s.commit := rfl
@[simp] theorem setPoint_nv (s : State) (p : Fin 16) (r : Point) : (s.setPoint p r).nv = s.nv := rfl
@[simp] theorem setPoint_spi (s : State) (p : Fin 16) (r : Point) : (s.setPoint p r).spi = s.spi := rfl
@[simp] theorem setPoint_readData (s : State) (p : Fin 16) (r : Point) : (s.setPoint p r).readData = s.readData := rfl
@[simp] theorem setPoint_freeCount (s : State) (p : Fin 16) (r : Point) : (s.setPoint p r).freeCount = s.freeCount := rfl
@[simp] theorem setPoint_pending (s : State) (p : Fin 16) (r : Point) : (s.setPoint p r).pending = s.pending := rfl

/-! ### mapPoints -/

@[simp] theorem mapPoints_run (s : State) (f : Point → Point) : (s.mapPoints f).run = s.run := rfl
@[simp] theorem mapPoints_engine (s : State) (f : Point → Point) : (s.mapPoints f).engine = s.engine := rfl
@[simp] theorem mapPoints_timer (s : State) (f : Point → Point) : (s.mapPoints f).timer = s.timer := rfl
@[simp] theorem mapPoints_proc (s : State) (f : Point → Point) : (s.mapPoints f).proc = s.proc := rfl
@[simp] theorem mapPoints_port (s : State) (f : Point → Point) : (s.mapPoints f).port = s.port := rfl
@[simp] theorem mapPoints_notice (s : State) (f : Point → Point) : (s.mapPoints f).notice = s.notice := rfl
@[simp] theorem mapPoints_commit (s : State) (f : Point → Point) : (s.mapPoints f).commit = s.commit := rfl
@[simp] theorem mapPoints_nv (s : State) (f : Point → Point) : (s.mapPoints f).nv = s.nv := rfl
@[simp] theorem mapPoints_spi (s : State) (f : Point → Point) : (s.mapPoints f).spi = s.spi := rfl
@[simp] theorem mapPoints_readData (s : State) (f : Point → Point) : (s.mapPoints f).readData = s.readData := rfl
@[simp] theorem mapPoints_freeCount (s : State) (f : Point → Point) : (s.mapPoints f).freeCount = s.freeCount := rfl
@[simp] theorem mapPoints_pending (s : State) (f : Point → Point) : (s.mapPoints f).pending = s.pending := rfl

/-! ### insertDirectory -/

@[simp] theorem insertDirectory_run (s : State) (number : Nat) (slot : Fin 64) : (s.insertDirectory number slot).run = s.run := rfl
@[simp] theorem insertDirectory_points (s : State) (number : Nat) (slot : Fin 64) : (s.insertDirectory number slot).points = s.points := rfl
@[simp] theorem insertDirectory_timer (s : State) (number : Nat) (slot : Fin 64) : (s.insertDirectory number slot).timer = s.timer := rfl
@[simp] theorem insertDirectory_proc (s : State) (number : Nat) (slot : Fin 64) : (s.insertDirectory number slot).proc = s.proc := rfl
@[simp] theorem insertDirectory_port (s : State) (number : Nat) (slot : Fin 64) : (s.insertDirectory number slot).port = s.port := rfl
@[simp] theorem insertDirectory_notice (s : State) (number : Nat) (slot : Fin 64) : (s.insertDirectory number slot).notice = s.notice := rfl
@[simp] theorem insertDirectory_commit (s : State) (number : Nat) (slot : Fin 64) : (s.insertDirectory number slot).commit = s.commit := rfl
@[simp] theorem insertDirectory_nv (s : State) (number : Nat) (slot : Fin 64) : (s.insertDirectory number slot).nv = s.nv := rfl
@[simp] theorem insertDirectory_spi (s : State) (number : Nat) (slot : Fin 64) : (s.insertDirectory number slot).spi = s.spi := rfl
@[simp] theorem insertDirectory_readData (s : State) (number : Nat) (slot : Fin 64) : (s.insertDirectory number slot).readData = s.readData := rfl
@[simp] theorem insertDirectory_freeCount (s : State) (number : Nat) (slot : Fin 64) : (s.insertDirectory number slot).freeCount = s.freeCount := rfl
@[simp] theorem insertDirectory_pending (s : State) (number : Nat) (slot : Fin 64) : (s.insertDirectory number slot).pending = s.pending := rfl

/-! ### removeDirectory -/

@[simp] theorem removeDirectory_run (s : State) (slot : Fin 64) : (s.removeDirectory slot).run = s.run := rfl
@[simp] theorem removeDirectory_points (s : State) (slot : Fin 64) : (s.removeDirectory slot).points = s.points := rfl
@[simp] theorem removeDirectory_timer (s : State) (slot : Fin 64) : (s.removeDirectory slot).timer = s.timer := rfl
@[simp] theorem removeDirectory_proc (s : State) (slot : Fin 64) : (s.removeDirectory slot).proc = s.proc := rfl
@[simp] theorem removeDirectory_port (s : State) (slot : Fin 64) : (s.removeDirectory slot).port = s.port := rfl
@[simp] theorem removeDirectory_notice (s : State) (slot : Fin 64) : (s.removeDirectory slot).notice = s.notice := rfl
@[simp] theorem removeDirectory_commit (s : State) (slot : Fin 64) : (s.removeDirectory slot).commit = s.commit := rfl
@[simp] theorem removeDirectory_nv (s : State) (slot : Fin 64) : (s.removeDirectory slot).nv = s.nv := rfl
@[simp] theorem removeDirectory_spi (s : State) (slot : Fin 64) : (s.removeDirectory slot).spi = s.spi := rfl
@[simp] theorem removeDirectory_readData (s : State) (slot : Fin 64) : (s.removeDirectory slot).readData = s.readData := rfl
@[simp] theorem removeDirectory_freeCount (s : State) (slot : Fin 64) : (s.removeDirectory slot).freeCount = s.freeCount := rfl
@[simp] theorem removeDirectory_pending (s : State) (slot : Fin 64) : (s.removeDirectory slot).pending = s.pending := rfl

/-! ### addReasons -/

@[simp] theorem addReasons_run (s : State) (slot : Fin 64) (reasons : Reasons) : (s.addReasons slot reasons).run = s.run := by
  unfold State.addReasons; split <;> rfl
@[simp] theorem addReasons_points (s : State) (slot : Fin 64) (reasons : Reasons) : (s.addReasons slot reasons).points = s.points := by
  unfold State.addReasons; split <;> rfl
@[simp] theorem addReasons_timer (s : State) (slot : Fin 64) (reasons : Reasons) : (s.addReasons slot reasons).timer = s.timer := by
  unfold State.addReasons; split <;> rfl
@[simp] theorem addReasons_proc (s : State) (slot : Fin 64) (reasons : Reasons) : (s.addReasons slot reasons).proc = s.proc := by
  unfold State.addReasons; split <;> rfl
@[simp] theorem addReasons_port (s : State) (slot : Fin 64) (reasons : Reasons) : (s.addReasons slot reasons).port = s.port := by
  unfold State.addReasons; split <;> rfl
@[simp] theorem addReasons_notice (s : State) (slot : Fin 64) (reasons : Reasons) : (s.addReasons slot reasons).notice = s.notice := by
  unfold State.addReasons; split <;> rfl
@[simp] theorem addReasons_commit (s : State) (slot : Fin 64) (reasons : Reasons) : (s.addReasons slot reasons).commit = s.commit := by
  unfold State.addReasons; split <;> rfl
@[simp] theorem addReasons_nv (s : State) (slot : Fin 64) (reasons : Reasons) : (s.addReasons slot reasons).nv = s.nv := by
  unfold State.addReasons; split <;> rfl
@[simp] theorem addReasons_spi (s : State) (slot : Fin 64) (reasons : Reasons) : (s.addReasons slot reasons).spi = s.spi := by
  unfold State.addReasons; split <;> rfl
@[simp] theorem addReasons_readData (s : State) (slot : Fin 64) (reasons : Reasons) : (s.addReasons slot reasons).readData = s.readData := by
  unfold State.addReasons; split <;> rfl
@[simp] theorem addReasons_freeCount (s : State) (slot : Fin 64) (reasons : Reasons) : (s.addReasons slot reasons).freeCount = s.freeCount := by
  unfold State.addReasons; split <;> rfl
@[simp] theorem addReasons_pending (s : State) (slot : Fin 64) (reasons : Reasons) : (s.addReasons slot reasons).pending = s.pending := by
  unfold State.addReasons; split <;> rfl

/-! ### removeAttention -/

@[simp] theorem removeAttention_run (s : State) (slot : Fin 64) : (s.removeAttention slot).run = s.run := rfl
@[simp] theorem removeAttention_points (s : State) (slot : Fin 64) : (s.removeAttention slot).points = s.points := rfl
@[simp] theorem removeAttention_timer (s : State) (slot : Fin 64) : (s.removeAttention slot).timer = s.timer := rfl
@[simp] theorem removeAttention_proc (s : State) (slot : Fin 64) : (s.removeAttention slot).proc = s.proc := rfl
@[simp] theorem removeAttention_port (s : State) (slot : Fin 64) : (s.removeAttention slot).port = s.port := rfl
@[simp] theorem removeAttention_notice (s : State) (slot : Fin 64) : (s.removeAttention slot).notice = s.notice := rfl
@[simp] theorem removeAttention_commit (s : State) (slot : Fin 64) : (s.removeAttention slot).commit = s.commit := rfl
@[simp] theorem removeAttention_nv (s : State) (slot : Fin 64) : (s.removeAttention slot).nv = s.nv := rfl
@[simp] theorem removeAttention_spi (s : State) (slot : Fin 64) : (s.removeAttention slot).spi = s.spi := rfl
@[simp] theorem removeAttention_readData (s : State) (slot : Fin 64) : (s.removeAttention slot).readData = s.readData := rfl
@[simp] theorem removeAttention_freeCount (s : State) (slot : Fin 64) : (s.removeAttention slot).freeCount = s.freeCount := rfl
@[simp] theorem removeAttention_pending (s : State) (slot : Fin 64) : (s.removeAttention slot).pending = s.pending := rfl

/-! ### report -/

@[simp] theorem report_run (s : State) (page : Fin 9) (urgent : Bool) : (s.report page urgent).run = s.run := rfl
@[simp] theorem report_engine (s : State) (page : Fin 9) (urgent : Bool) : (s.report page urgent).engine = s.engine := rfl
@[simp] theorem report_points (s : State) (page : Fin 9) (urgent : Bool) : (s.report page urgent).points = s.points := rfl
@[simp] theorem report_timer (s : State) (page : Fin 9) (urgent : Bool) : (s.report page urgent).timer = s.timer := rfl
@[simp] theorem report_proc (s : State) (page : Fin 9) (urgent : Bool) : (s.report page urgent).proc = s.proc := rfl
@[simp] theorem report_port (s : State) (page : Fin 9) (urgent : Bool) : (s.report page urgent).port = s.port := rfl
@[simp] theorem report_notice (s : State) (page : Fin 9) (urgent : Bool) : (s.report page urgent).notice = s.notice := rfl
@[simp] theorem report_nv (s : State) (page : Fin 9) (urgent : Bool) : (s.report page urgent).nv = s.nv := rfl
@[simp] theorem report_spi (s : State) (page : Fin 9) (urgent : Bool) : (s.report page urgent).spi = s.spi := rfl
@[simp] theorem report_readData (s : State) (page : Fin 9) (urgent : Bool) : (s.report page urgent).readData = s.readData := rfl
@[simp] theorem report_freeCount (s : State) (page : Fin 9) (urgent : Bool) : (s.report page urgent).freeCount = s.freeCount := rfl
@[simp] theorem report_pending (s : State) (page : Fin 9) (urgent : Bool) : (s.report page urgent).pending = s.pending := rfl

/-! ### makeAllUrgent -/

@[simp] theorem makeAllUrgent_run (s : State) : s.makeAllUrgent.run = s.run := rfl
@[simp] theorem makeAllUrgent_engine (s : State) : s.makeAllUrgent.engine = s.engine := rfl
@[simp] theorem makeAllUrgent_points (s : State) : s.makeAllUrgent.points = s.points := rfl
@[simp] theorem makeAllUrgent_timer (s : State) : s.makeAllUrgent.timer = s.timer := rfl
@[simp] theorem makeAllUrgent_proc (s : State) : s.makeAllUrgent.proc = s.proc := rfl
@[simp] theorem makeAllUrgent_port (s : State) : s.makeAllUrgent.port = s.port := rfl
@[simp] theorem makeAllUrgent_notice (s : State) : s.makeAllUrgent.notice = s.notice := rfl
@[simp] theorem makeAllUrgent_nv (s : State) : s.makeAllUrgent.nv = s.nv := rfl
@[simp] theorem makeAllUrgent_spi (s : State) : s.makeAllUrgent.spi = s.spi := rfl
@[simp] theorem makeAllUrgent_readData (s : State) : s.makeAllUrgent.readData = s.readData := rfl
@[simp] theorem makeAllUrgent_freeCount (s : State) : s.makeAllUrgent.freeCount = s.freeCount := rfl
@[simp] theorem makeAllUrgent_pending (s : State) : s.makeAllUrgent.pending = s.pending := rfl

/-! ### notifyPoints -/

@[simp] theorem notifyPoints_run (s : State) (slot : Fin 64) (status : Status) (level : Level) : (s.notifyPoints slot status level).run = s.run := rfl
@[simp] theorem notifyPoints_engine (s : State) (slot : Fin 64) (status : Status) (level : Level) : (s.notifyPoints slot status level).engine = s.engine := rfl
@[simp] theorem notifyPoints_timer (s : State) (slot : Fin 64) (status : Status) (level : Level) : (s.notifyPoints slot status level).timer = s.timer := rfl
@[simp] theorem notifyPoints_proc (s : State) (slot : Fin 64) (status : Status) (level : Level) : (s.notifyPoints slot status level).proc = s.proc := rfl
@[simp] theorem notifyPoints_port (s : State) (slot : Fin 64) (status : Status) (level : Level) : (s.notifyPoints slot status level).port = s.port := rfl
@[simp] theorem notifyPoints_notice (s : State) (slot : Fin 64) (status : Status) (level : Level) : (s.notifyPoints slot status level).notice = s.notice := rfl
@[simp] theorem notifyPoints_commit (s : State) (slot : Fin 64) (status : Status) (level : Level) : (s.notifyPoints slot status level).commit = s.commit := rfl
@[simp] theorem notifyPoints_nv (s : State) (slot : Fin 64) (status : Status) (level : Level) : (s.notifyPoints slot status level).nv = s.nv := rfl
@[simp] theorem notifyPoints_spi (s : State) (slot : Fin 64) (status : Status) (level : Level) : (s.notifyPoints slot status level).spi = s.spi := rfl
@[simp] theorem notifyPoints_readData (s : State) (slot : Fin 64) (status : Status) (level : Level) : (s.notifyPoints slot status level).readData = s.readData := rfl
@[simp] theorem notifyPoints_freeCount (s : State) (slot : Fin 64) (status : Status) (level : Level) : (s.notifyPoints slot status level).freeCount = s.freeCount := rfl
@[simp] theorem notifyPoints_pending (s : State) (slot : Fin 64) (status : Status) (level : Level) : (s.notifyPoints slot status level).pending = s.pending := rfl

/-! ### freeEngine -/

@[simp] theorem freeEngine_run (s : State) : s.freeEngine.run = s.run := rfl
@[simp] theorem freeEngine_points (s : State) : s.freeEngine.points = s.points := rfl
@[simp] theorem freeEngine_timer (s : State) : s.freeEngine.timer = s.timer := rfl
@[simp] theorem freeEngine_proc (s : State) : s.freeEngine.proc = s.proc := rfl
@[simp] theorem freeEngine_port (s : State) : s.freeEngine.port = s.port := rfl
@[simp] theorem freeEngine_notice (s : State) : s.freeEngine.notice = s.notice := rfl
@[simp] theorem freeEngine_commit (s : State) : s.freeEngine.commit = s.commit := rfl
@[simp] theorem freeEngine_nv (s : State) : s.freeEngine.nv = s.nv := rfl
@[simp] theorem freeEngine_spi (s : State) : s.freeEngine.spi = s.spi := rfl
@[simp] theorem freeEngine_readData (s : State) : s.freeEngine.readData = s.readData := rfl
@[simp] theorem freeEngine_freeCount (s : State) : s.freeEngine.freeCount = s.freeCount := rfl
@[simp] theorem freeEngine_pending (s : State) : s.freeEngine.pending = s.pending := rfl

/-! ### startOperation -/

@[simp] theorem startOperation_run (s : State) (op : EngineOperation) : (s.startOperation op).run = s.run := rfl
@[simp] theorem startOperation_points (s : State) (op : EngineOperation) : (s.startOperation op).points = s.points := rfl
@[simp] theorem startOperation_timer (s : State) (op : EngineOperation) : (s.startOperation op).timer = s.timer := rfl
@[simp] theorem startOperation_proc (s : State) (op : EngineOperation) : (s.startOperation op).proc = s.proc := rfl
@[simp] theorem startOperation_port (s : State) (op : EngineOperation) : (s.startOperation op).port = s.port := rfl
@[simp] theorem startOperation_notice (s : State) (op : EngineOperation) : (s.startOperation op).notice = s.notice := rfl
@[simp] theorem startOperation_commit (s : State) (op : EngineOperation) : (s.startOperation op).commit = s.commit := rfl
@[simp] theorem startOperation_nv (s : State) (op : EngineOperation) : (s.startOperation op).nv = s.nv := rfl
@[simp] theorem startOperation_spi (s : State) (op : EngineOperation) : (s.startOperation op).spi = s.spi := rfl
@[simp] theorem startOperation_readData (s : State) (op : EngineOperation) : (s.startOperation op).readData = s.readData := rfl
@[simp] theorem startOperation_freeCount (s : State) (op : EngineOperation) : (s.startOperation op).freeCount = s.freeCount := rfl
@[simp] theorem startOperation_pending (s : State) (op : EngineOperation) : (s.startOperation op).pending = s.pending := rfl

/-! ### setPort -/

@[simp] theorem setPort_run (s : State) (port : TopUpPort) : (s.setPort port).run = s.run := rfl
@[simp] theorem setPort_engine (s : State) (port : TopUpPort) : (s.setPort port).engine = s.engine := rfl
@[simp] theorem setPort_points (s : State) (port : TopUpPort) : (s.setPort port).points = s.points := rfl
@[simp] theorem setPort_timer (s : State) (port : TopUpPort) : (s.setPort port).timer = s.timer := rfl
@[simp] theorem setPort_proc (s : State) (port : TopUpPort) : (s.setPort port).proc = s.proc := rfl
@[simp] theorem setPort_notice (s : State) (port : TopUpPort) : (s.setPort port).notice = s.notice := rfl
@[simp] theorem setPort_commit (s : State) (port : TopUpPort) : (s.setPort port).commit = s.commit := rfl
@[simp] theorem setPort_nv (s : State) (port : TopUpPort) : (s.setPort port).nv = s.nv := rfl
@[simp] theorem setPort_spi (s : State) (port : TopUpPort) : (s.setPort port).spi = s.spi := rfl
@[simp] theorem setPort_readData (s : State) (port : TopUpPort) : (s.setPort port).readData = s.readData := rfl
@[simp] theorem setPort_freeCount (s : State) (port : TopUpPort) : (s.setPort port).freeCount = s.freeCount := rfl
@[simp] theorem setPort_pending (s : State) (port : TopUpPort) : (s.setPort port).pending = s.pending := rfl

/-! ### post -/

@[simp] theorem post_run (s : State) (cmd : QueuedCommand) (a : Answer) : (s.post cmd a).run = s.run := rfl
@[simp] theorem post_engine (s : State) (cmd : QueuedCommand) (a : Answer) : (s.post cmd a).engine = s.engine := rfl
@[simp] theorem post_points (s : State) (cmd : QueuedCommand) (a : Answer) : (s.post cmd a).points = s.points := rfl
@[simp] theorem post_timer (s : State) (cmd : QueuedCommand) (a : Answer) : (s.post cmd a).timer = s.timer := rfl
@[simp] theorem post_port (s : State) (cmd : QueuedCommand) (a : Answer) : (s.post cmd a).port = s.port := rfl
@[simp] theorem post_notice (s : State) (cmd : QueuedCommand) (a : Answer) : (s.post cmd a).notice = s.notice := rfl
@[simp] theorem post_commit (s : State) (cmd : QueuedCommand) (a : Answer) : (s.post cmd a).commit = s.commit := rfl
@[simp] theorem post_nv (s : State) (cmd : QueuedCommand) (a : Answer) : (s.post cmd a).nv = s.nv := rfl
@[simp] theorem post_spi (s : State) (cmd : QueuedCommand) (a : Answer) : (s.post cmd a).spi = s.spi := rfl
@[simp] theorem post_readData (s : State) (cmd : QueuedCommand) (a : Answer) : (s.post cmd a).readData = s.readData := rfl
@[simp] theorem post_freeCount (s : State) (cmd : QueuedCommand) (a : Answer) : (s.post cmd a).freeCount = s.freeCount := rfl
@[simp] theorem post_pending (s : State) (cmd : QueuedCommand) (a : Answer) : (s.post cmd a).pending = s.pending := rfl

/-! ### endWait -/

@[simp] theorem endWait_run (s : State) (cmd : QueuedCommand) (w : WaitState) (status : ResultStatus) : (s.endWait cmd w status).run = s.run := rfl
@[simp] theorem endWait_engine (s : State) (cmd : QueuedCommand) (w : WaitState) (status : ResultStatus) : (s.endWait cmd w status).engine = s.engine := rfl
@[simp] theorem endWait_points (s : State) (cmd : QueuedCommand) (w : WaitState) (status : ResultStatus) : (s.endWait cmd w status).points = s.points := rfl
@[simp] theorem endWait_timer (s : State) (cmd : QueuedCommand) (w : WaitState) (status : ResultStatus) : (s.endWait cmd w status).timer = s.timer := rfl
@[simp] theorem endWait_port (s : State) (cmd : QueuedCommand) (w : WaitState) (status : ResultStatus) : (s.endWait cmd w status).port = s.port := rfl
@[simp] theorem endWait_notice (s : State) (cmd : QueuedCommand) (w : WaitState) (status : ResultStatus) : (s.endWait cmd w status).notice = s.notice := rfl
@[simp] theorem endWait_commit (s : State) (cmd : QueuedCommand) (w : WaitState) (status : ResultStatus) : (s.endWait cmd w status).commit = s.commit := rfl
@[simp] theorem endWait_nv (s : State) (cmd : QueuedCommand) (w : WaitState) (status : ResultStatus) : (s.endWait cmd w status).nv = s.nv := rfl
@[simp] theorem endWait_spi (s : State) (cmd : QueuedCommand) (w : WaitState) (status : ResultStatus) : (s.endWait cmd w status).spi = s.spi := rfl
@[simp] theorem endWait_readData (s : State) (cmd : QueuedCommand) (w : WaitState) (status : ResultStatus) : (s.endWait cmd w status).readData = s.readData := rfl
@[simp] theorem endWait_freeCount (s : State) (cmd : QueuedCommand) (w : WaitState) (status : ResultStatus) : (s.endWait cmd w status).freeCount = s.freeCount := rfl
@[simp] theorem endWait_pending (s : State) (cmd : QueuedCommand) (w : WaitState) (status : ResultStatus) : (s.endWait cmd w status).pending = s.pending := rfl

/-! ### retestWait -/

@[simp] theorem retestWait_run (s : State) : s.retestWait.run = s.run := by
  unfold State.retestWait; split <;> first | rfl | (split <;> rfl)
@[simp] theorem retestWait_engine (s : State) : s.retestWait.engine = s.engine := by
  unfold State.retestWait; split <;> first | rfl | (split <;> rfl)
@[simp] theorem retestWait_points (s : State) : s.retestWait.points = s.points := by
  unfold State.retestWait; split <;> first | rfl | (split <;> rfl)
@[simp] theorem retestWait_timer (s : State) : s.retestWait.timer = s.timer := by
  unfold State.retestWait; split <;> first | rfl | (split <;> rfl)
@[simp] theorem retestWait_port (s : State) : s.retestWait.port = s.port := by
  unfold State.retestWait; split <;> first | rfl | (split <;> rfl)
@[simp] theorem retestWait_notice (s : State) : s.retestWait.notice = s.notice := by
  unfold State.retestWait; split <;> first | rfl | (split <;> rfl)
@[simp] theorem retestWait_commit (s : State) : s.retestWait.commit = s.commit := by
  unfold State.retestWait; split <;> first | rfl | (split <;> rfl)
@[simp] theorem retestWait_nv (s : State) : s.retestWait.nv = s.nv := by
  unfold State.retestWait; split <;> first | rfl | (split <;> rfl)
@[simp] theorem retestWait_spi (s : State) : s.retestWait.spi = s.spi := by
  unfold State.retestWait; split <;> first | rfl | (split <;> rfl)
@[simp] theorem retestWait_readData (s : State) : s.retestWait.readData = s.readData := by
  unfold State.retestWait; split <;> first | rfl | (split <;> rfl)
@[simp] theorem retestWait_freeCount (s : State) : s.retestWait.freeCount = s.freeCount := by
  unfold State.retestWait; split <;> first | rfl | (split <;> rfl)
@[simp] theorem retestWait_pending (s : State) : s.retestWait.pending = s.pending := by
  unfold State.retestWait; split <;> first | rfl | (split <;> rfl)

/-! ### breakWait -/

@[simp] theorem breakWait_run (s : State) (status : ResultStatus) : (s.breakWait status).run = s.run := by
  unfold State.breakWait; split <;> rfl
@[simp] theorem breakWait_engine (s : State) (status : ResultStatus) : (s.breakWait status).engine = s.engine := by
  unfold State.breakWait; split <;> rfl
@[simp] theorem breakWait_points (s : State) (status : ResultStatus) : (s.breakWait status).points = s.points := by
  unfold State.breakWait; split <;> rfl
@[simp] theorem breakWait_timer (s : State) (status : ResultStatus) : (s.breakWait status).timer = s.timer := by
  unfold State.breakWait; split <;> rfl
@[simp] theorem breakWait_port (s : State) (status : ResultStatus) : (s.breakWait status).port = s.port := by
  unfold State.breakWait; split <;> rfl
@[simp] theorem breakWait_notice (s : State) (status : ResultStatus) : (s.breakWait status).notice = s.notice := by
  unfold State.breakWait; split <;> rfl
@[simp] theorem breakWait_commit (s : State) (status : ResultStatus) : (s.breakWait status).commit = s.commit := by
  unfold State.breakWait; split <;> rfl
@[simp] theorem breakWait_nv (s : State) (status : ResultStatus) : (s.breakWait status).nv = s.nv := by
  unfold State.breakWait; split <;> rfl
@[simp] theorem breakWait_spi (s : State) (status : ResultStatus) : (s.breakWait status).spi = s.spi := by
  unfold State.breakWait; split <;> rfl
@[simp] theorem breakWait_readData (s : State) (status : ResultStatus) : (s.breakWait status).readData = s.readData := by
  unfold State.breakWait; split <;> rfl
@[simp] theorem breakWait_freeCount (s : State) (status : ResultStatus) : (s.breakWait status).freeCount = s.freeCount := by
  unfold State.breakWait; split <;> rfl
@[simp] theorem breakWait_pending (s : State) (status : ResultStatus) : (s.breakWait status).pending = s.pending := by
  unfold State.breakWait; split <;> rfl

/-! ### startSweep -/

@[simp] theorem startSweep_run (s : State) : s.startSweep.run = s.run := rfl
@[simp] theorem startSweep_engine (s : State) : s.startSweep.engine = s.engine := rfl
@[simp] theorem startSweep_points (s : State) : s.startSweep.points = s.points := rfl
@[simp] theorem startSweep_proc (s : State) : s.startSweep.proc = s.proc := rfl
@[simp] theorem startSweep_port (s : State) : s.startSweep.port = s.port := rfl
@[simp] theorem startSweep_notice (s : State) : s.startSweep.notice = s.notice := rfl
@[simp] theorem startSweep_commit (s : State) : s.startSweep.commit = s.commit := rfl
@[simp] theorem startSweep_nv (s : State) : s.startSweep.nv = s.nv := rfl
@[simp] theorem startSweep_spi (s : State) : s.startSweep.spi = s.spi := rfl
@[simp] theorem startSweep_readData (s : State) : s.startSweep.readData = s.readData := rfl
@[simp] theorem startSweep_freeCount (s : State) : s.startSweep.freeCount = s.freeCount := rfl
@[simp] theorem startSweep_pending (s : State) : s.startSweep.pending = s.pending := rfl

/-! ### endSweep -/

@[simp] theorem endSweep_run (s : State) : s.endSweep.run = s.run := by
  unfold State.endSweep; split <;> rfl
@[simp] theorem endSweep_engine (s : State) : s.endSweep.engine = s.engine := by
  unfold State.endSweep; split <;> rfl
@[simp] theorem endSweep_points (s : State) : s.endSweep.points = s.points := by
  unfold State.endSweep; split <;> rfl
@[simp] theorem endSweep_proc (s : State) : s.endSweep.proc = s.proc := by
  unfold State.endSweep; split <;> rfl
@[simp] theorem endSweep_port (s : State) : s.endSweep.port = s.port := by
  unfold State.endSweep; split <;> rfl
@[simp] theorem endSweep_notice (s : State) : s.endSweep.notice = s.notice := by
  unfold State.endSweep; split <;> rfl
@[simp] theorem endSweep_commit (s : State) : s.endSweep.commit = s.commit := by
  unfold State.endSweep; split <;> rfl
@[simp] theorem endSweep_nv (s : State) : s.endSweep.nv = s.nv := by
  unfold State.endSweep; split <;> rfl
@[simp] theorem endSweep_spi (s : State) : s.endSweep.spi = s.spi := by
  unfold State.endSweep; split <;> rfl
@[simp] theorem endSweep_readData (s : State) : s.endSweep.readData = s.readData := by
  unfold State.endSweep; split <;> rfl
@[simp] theorem endSweep_freeCount (s : State) : s.endSweep.freeCount = s.freeCount := by
  unfold State.endSweep; split <;> rfl
@[simp] theorem endSweep_pending (s : State) : s.endSweep.pending = s.pending := by
  unfold State.endSweep; split <;> rfl

/-! ### advanceSweep -/

@[simp] theorem advanceSweep_run (s : State) : s.advanceSweep.run = s.run := by
  unfold State.advanceSweep; split <;> simp
@[simp] theorem advanceSweep_engine (s : State) : s.advanceSweep.engine = s.engine := by
  unfold State.advanceSweep; split <;> simp
@[simp] theorem advanceSweep_points (s : State) : s.advanceSweep.points = s.points := by
  unfold State.advanceSweep; split <;> simp
@[simp] theorem advanceSweep_proc (s : State) : s.advanceSweep.proc = s.proc := by
  unfold State.advanceSweep; split <;> simp
@[simp] theorem advanceSweep_port (s : State) : s.advanceSweep.port = s.port := by
  unfold State.advanceSweep; split <;> simp
@[simp] theorem advanceSweep_notice (s : State) : s.advanceSweep.notice = s.notice := by
  unfold State.advanceSweep; split <;> simp
@[simp] theorem advanceSweep_commit (s : State) : s.advanceSweep.commit = s.commit := by
  unfold State.advanceSweep; split <;> simp
@[simp] theorem advanceSweep_nv (s : State) : s.advanceSweep.nv = s.nv := by
  unfold State.advanceSweep; split <;> simp
@[simp] theorem advanceSweep_spi (s : State) : s.advanceSweep.spi = s.spi := by
  unfold State.advanceSweep; split <;> simp
@[simp] theorem advanceSweep_readData (s : State) : s.advanceSweep.readData = s.readData := by
  unfold State.advanceSweep; split <;> simp
@[simp] theorem advanceSweep_freeCount (s : State) : s.advanceSweep.freeCount = s.freeCount := by
  unfold State.advanceSweep; split <;> simp
@[simp] theorem advanceSweep_pending (s : State) : s.advanceSweep.pending = s.pending := by
  unfold State.advanceSweep; split <;> simp

/-! ### abandonWrite -/

@[simp] theorem abandonWrite_run (s : State) : s.abandonWrite.run = s.run := by
  unfold State.abandonWrite; split <;> rfl
@[simp] theorem abandonWrite_engine (s : State) : s.abandonWrite.engine = s.engine := by
  unfold State.abandonWrite; split <;> rfl
@[simp] theorem abandonWrite_points (s : State) : s.abandonWrite.points = s.points := by
  unfold State.abandonWrite; split <;> rfl
@[simp] theorem abandonWrite_timer (s : State) : s.abandonWrite.timer = s.timer := by
  unfold State.abandonWrite; split <;> rfl
@[simp] theorem abandonWrite_proc (s : State) : s.abandonWrite.proc = s.proc := by
  unfold State.abandonWrite; split <;> rfl
@[simp] theorem abandonWrite_notice (s : State) : s.abandonWrite.notice = s.notice := by
  unfold State.abandonWrite; split <;> rfl
@[simp] theorem abandonWrite_commit (s : State) : s.abandonWrite.commit = s.commit := by
  unfold State.abandonWrite; split <;> rfl
@[simp] theorem abandonWrite_nv (s : State) : s.abandonWrite.nv = s.nv := by
  unfold State.abandonWrite; split <;> rfl
@[simp] theorem abandonWrite_spi (s : State) : s.abandonWrite.spi = s.spi := by
  unfold State.abandonWrite; split <;> rfl
@[simp] theorem abandonWrite_readData (s : State) : s.abandonWrite.readData = s.readData := by
  unfold State.abandonWrite; split <;> rfl
@[simp] theorem abandonWrite_freeCount (s : State) : s.abandonWrite.freeCount = s.freeCount := by
  unfold State.abandonWrite; split <;> rfl
@[simp] theorem abandonWrite_pending (s : State) : s.abandonWrite.pending = s.pending := by
  unfold State.abandonWrite; split <;> rfl

/-! ### changeAccount -/

@[simp] theorem changeAccount_run (s : State) (slot : Fin 64) (a : Account) (before : Level) (extra : Reasons) : (s.changeAccount slot a before extra).run = s.run := by
  unfold State.changeAccount; dsimp only; split <;> simp
@[simp] theorem changeAccount_timer (s : State) (slot : Fin 64) (a : Account) (before : Level) (extra : Reasons) : (s.changeAccount slot a before extra).timer = s.timer := by
  unfold State.changeAccount; dsimp only; split <;> simp
@[simp] theorem changeAccount_proc (s : State) (slot : Fin 64) (a : Account) (before : Level) (extra : Reasons) : (s.changeAccount slot a before extra).proc = s.proc := by
  unfold State.changeAccount; dsimp only; split <;> simp
@[simp] theorem changeAccount_port (s : State) (slot : Fin 64) (a : Account) (before : Level) (extra : Reasons) : (s.changeAccount slot a before extra).port = s.port := by
  unfold State.changeAccount; dsimp only; split <;> simp
@[simp] theorem changeAccount_notice (s : State) (slot : Fin 64) (a : Account) (before : Level) (extra : Reasons) : (s.changeAccount slot a before extra).notice = s.notice := by
  unfold State.changeAccount; dsimp only; split <;> simp
@[simp] theorem changeAccount_commit (s : State) (slot : Fin 64) (a : Account) (before : Level) (extra : Reasons) : (s.changeAccount slot a before extra).commit = s.commit := by
  unfold State.changeAccount; dsimp only; split <;> simp
@[simp] theorem changeAccount_nv (s : State) (slot : Fin 64) (a : Account) (before : Level) (extra : Reasons) : (s.changeAccount slot a before extra).nv = s.nv := by
  unfold State.changeAccount; dsimp only; split <;> simp
@[simp] theorem changeAccount_spi (s : State) (slot : Fin 64) (a : Account) (before : Level) (extra : Reasons) : (s.changeAccount slot a before extra).spi = s.spi := by
  unfold State.changeAccount; dsimp only; split <;> simp
@[simp] theorem changeAccount_readData (s : State) (slot : Fin 64) (a : Account) (before : Level) (extra : Reasons) : (s.changeAccount slot a before extra).readData = s.readData := by
  unfold State.changeAccount; dsimp only; split <;> simp
@[simp] theorem changeAccount_freeCount (s : State) (slot : Fin 64) (a : Account) (before : Level) (extra : Reasons) : (s.changeAccount slot a before extra).freeCount = s.freeCount := by
  unfold State.changeAccount; dsimp only; split <;> simp
@[simp] theorem changeAccount_pending (s : State) (slot : Fin 64) (a : Account) (before : Level) (extra : Reasons) : (s.changeAccount slot a before extra).pending = s.pending := by
  unfold State.changeAccount; dsimp only; split <;> simp

/-! ### storeBalance -/

@[simp] theorem storeBalance_run (s : State) (slot : Fin 64) (balance : Int) (extra : Reasons) (urgent : Bool) : (s.storeBalance slot balance extra urgent).run = s.run := by
  unfold State.storeBalance; dsimp only; split <;> simp
@[simp] theorem storeBalance_timer (s : State) (slot : Fin 64) (balance : Int) (extra : Reasons) (urgent : Bool) : (s.storeBalance slot balance extra urgent).timer = s.timer := by
  unfold State.storeBalance; dsimp only; split <;> simp
@[simp] theorem storeBalance_proc (s : State) (slot : Fin 64) (balance : Int) (extra : Reasons) (urgent : Bool) : (s.storeBalance slot balance extra urgent).proc = s.proc := by
  unfold State.storeBalance; dsimp only; split <;> simp
@[simp] theorem storeBalance_port (s : State) (slot : Fin 64) (balance : Int) (extra : Reasons) (urgent : Bool) : (s.storeBalance slot balance extra urgent).port = s.port := by
  unfold State.storeBalance; dsimp only; split <;> simp
@[simp] theorem storeBalance_notice (s : State) (slot : Fin 64) (balance : Int) (extra : Reasons) (urgent : Bool) : (s.storeBalance slot balance extra urgent).notice = s.notice := by
  unfold State.storeBalance; dsimp only; split <;> simp
@[simp] theorem storeBalance_nv (s : State) (slot : Fin 64) (balance : Int) (extra : Reasons) (urgent : Bool) : (s.storeBalance slot balance extra urgent).nv = s.nv := by
  unfold State.storeBalance; dsimp only; split <;> simp
@[simp] theorem storeBalance_spi (s : State) (slot : Fin 64) (balance : Int) (extra : Reasons) (urgent : Bool) : (s.storeBalance slot balance extra urgent).spi = s.spi := by
  unfold State.storeBalance; dsimp only; split <;> simp
@[simp] theorem storeBalance_readData (s : State) (slot : Fin 64) (balance : Int) (extra : Reasons) (urgent : Bool) : (s.storeBalance slot balance extra urgent).readData = s.readData := by
  unfold State.storeBalance; dsimp only; split <;> simp
@[simp] theorem storeBalance_freeCount (s : State) (slot : Fin 64) (balance : Int) (extra : Reasons) (urgent : Bool) : (s.storeBalance slot balance extra urgent).freeCount = s.freeCount := by
  unfold State.storeBalance; dsimp only; split <;> simp
@[simp] theorem storeBalance_pending (s : State) (slot : Fin 64) (balance : Int) (extra : Reasons) (urgent : Bool) : (s.storeBalance slot balance extra urgent).pending = s.pending := by
  unfold State.storeBalance; dsimp only; split <;> simp

/-! ### takeCharge -/

@[simp] theorem takeCharge_run (s : State) (slot : Fin 64) (amount : Nat) : (s.takeCharge slot amount).run = s.run := by
  unfold State.takeCharge; split
  · rfl
  · split <;> simp
@[simp] theorem takeCharge_timer (s : State) (slot : Fin 64) (amount : Nat) : (s.takeCharge slot amount).timer = s.timer := by
  unfold State.takeCharge; split
  · rfl
  · split <;> simp
@[simp] theorem takeCharge_proc (s : State) (slot : Fin 64) (amount : Nat) : (s.takeCharge slot amount).proc = s.proc := by
  unfold State.takeCharge; split
  · rfl
  · split <;> simp
@[simp] theorem takeCharge_port (s : State) (slot : Fin 64) (amount : Nat) : (s.takeCharge slot amount).port = s.port := by
  unfold State.takeCharge; split
  · rfl
  · split <;> simp
@[simp] theorem takeCharge_notice (s : State) (slot : Fin 64) (amount : Nat) : (s.takeCharge slot amount).notice = s.notice := by
  unfold State.takeCharge; split
  · rfl
  · split <;> simp
@[simp] theorem takeCharge_nv (s : State) (slot : Fin 64) (amount : Nat) : (s.takeCharge slot amount).nv = s.nv := by
  unfold State.takeCharge; split
  · rfl
  · split <;> simp
@[simp] theorem takeCharge_spi (s : State) (slot : Fin 64) (amount : Nat) : (s.takeCharge slot amount).spi = s.spi := by
  unfold State.takeCharge; split
  · rfl
  · split <;> simp
@[simp] theorem takeCharge_readData (s : State) (slot : Fin 64) (amount : Nat) : (s.takeCharge slot amount).readData = s.readData := by
  unfold State.takeCharge; split
  · rfl
  · split <;> simp
@[simp] theorem takeCharge_freeCount (s : State) (slot : Fin 64) (amount : Nat) : (s.takeCharge slot amount).freeCount = s.freeCount := by
  unfold State.takeCharge; split
  · rfl
  · split <;> simp
@[simp] theorem takeCharge_pending (s : State) (slot : Fin 64) (amount : Nat) : (s.takeCharge slot amount).pending = s.pending := by
  unfold State.takeCharge; split
  · rfl
  · split <;> simp

/-! ### fixSnapshot -/

@[simp] theorem fixSnapshot_run (s : State) (page : Fin 9) (contents : PageContents) : (s.fixSnapshot page contents).run = s.run := rfl
@[simp] theorem fixSnapshot_engine (s : State) (page : Fin 9) (contents : PageContents) : (s.fixSnapshot page contents).engine = s.engine := rfl
@[simp] theorem fixSnapshot_points (s : State) (page : Fin 9) (contents : PageContents) : (s.fixSnapshot page contents).points = s.points := rfl
@[simp] theorem fixSnapshot_timer (s : State) (page : Fin 9) (contents : PageContents) : (s.fixSnapshot page contents).timer = s.timer := rfl
@[simp] theorem fixSnapshot_proc (s : State) (page : Fin 9) (contents : PageContents) : (s.fixSnapshot page contents).proc = s.proc := rfl
@[simp] theorem fixSnapshot_port (s : State) (page : Fin 9) (contents : PageContents) : (s.fixSnapshot page contents).port = s.port := rfl
@[simp] theorem fixSnapshot_notice (s : State) (page : Fin 9) (contents : PageContents) : (s.fixSnapshot page contents).notice = s.notice := rfl
@[simp] theorem fixSnapshot_nv (s : State) (page : Fin 9) (contents : PageContents) : (s.fixSnapshot page contents).nv = s.nv := rfl
@[simp] theorem fixSnapshot_spi (s : State) (page : Fin 9) (contents : PageContents) : (s.fixSnapshot page contents).spi = s.spi := rfl
@[simp] theorem fixSnapshot_readData (s : State) (page : Fin 9) (contents : PageContents) : (s.fixSnapshot page contents).readData = s.readData := rfl
@[simp] theorem fixSnapshot_freeCount (s : State) (page : Fin 9) (contents : PageContents) : (s.fixSnapshot page contents).freeCount = s.freeCount := rfl
@[simp] theorem fixSnapshot_pending (s : State) (page : Fin 9) (contents : PageContents) : (s.fixSnapshot page contents).pending = s.pending := rfl

/-! ### reducePending -/

@[simp] theorem reducePending_run (s : State) (p : Fin 16) (n : Nat) : (s.reducePending p n).run = s.run := rfl
@[simp] theorem reducePending_engine (s : State) (p : Fin 16) (n : Nat) : (s.reducePending p n).engine = s.engine := rfl
@[simp] theorem reducePending_timer (s : State) (p : Fin 16) (n : Nat) : (s.reducePending p n).timer = s.timer := rfl
@[simp] theorem reducePending_proc (s : State) (p : Fin 16) (n : Nat) : (s.reducePending p n).proc = s.proc := rfl
@[simp] theorem reducePending_port (s : State) (p : Fin 16) (n : Nat) : (s.reducePending p n).port = s.port := rfl
@[simp] theorem reducePending_notice (s : State) (p : Fin 16) (n : Nat) : (s.reducePending p n).notice = s.notice := rfl
@[simp] theorem reducePending_commit (s : State) (p : Fin 16) (n : Nat) : (s.reducePending p n).commit = s.commit := rfl
@[simp] theorem reducePending_nv (s : State) (p : Fin 16) (n : Nat) : (s.reducePending p n).nv = s.nv := rfl
@[simp] theorem reducePending_spi (s : State) (p : Fin 16) (n : Nat) : (s.reducePending p n).spi = s.spi := rfl
@[simp] theorem reducePending_readData (s : State) (p : Fin 16) (n : Nat) : (s.reducePending p n).readData = s.readData := rfl
@[simp] theorem reducePending_freeCount (s : State) (p : Fin 16) (n : Nat) : (s.reducePending p n).freeCount = s.freeCount := rfl
@[simp] theorem reducePending_pending (s : State) (p : Fin 16) (n : Nat) : (s.reducePending p n).pending = s.pending := rfl

/-! ### tallyCharge -/

@[simp] theorem tallyCharge_run (s : State) (p : Fin 16) (n amount : Nat) : (s.tallyCharge p n amount).run = s.run := by
  unfold State.tallyCharge; split <;> first | rfl | (split <;> rfl)
@[simp] theorem tallyCharge_engine (s : State) (p : Fin 16) (n amount : Nat) : (s.tallyCharge p n amount).engine = s.engine := by
  unfold State.tallyCharge; split <;> first | rfl | (split <;> rfl)
@[simp] theorem tallyCharge_timer (s : State) (p : Fin 16) (n amount : Nat) : (s.tallyCharge p n amount).timer = s.timer := by
  unfold State.tallyCharge; split <;> first | rfl | (split <;> rfl)
@[simp] theorem tallyCharge_proc (s : State) (p : Fin 16) (n amount : Nat) : (s.tallyCharge p n amount).proc = s.proc := by
  unfold State.tallyCharge; split <;> first | rfl | (split <;> rfl)
@[simp] theorem tallyCharge_port (s : State) (p : Fin 16) (n amount : Nat) : (s.tallyCharge p n amount).port = s.port := by
  unfold State.tallyCharge; split <;> first | rfl | (split <;> rfl)
@[simp] theorem tallyCharge_notice (s : State) (p : Fin 16) (n amount : Nat) : (s.tallyCharge p n amount).notice = s.notice := by
  unfold State.tallyCharge; split <;> first | rfl | (split <;> rfl)
@[simp] theorem tallyCharge_commit (s : State) (p : Fin 16) (n amount : Nat) : (s.tallyCharge p n amount).commit = s.commit := by
  unfold State.tallyCharge; split <;> first | rfl | (split <;> rfl)
@[simp] theorem tallyCharge_nv (s : State) (p : Fin 16) (n amount : Nat) : (s.tallyCharge p n amount).nv = s.nv := by
  unfold State.tallyCharge; split <;> first | rfl | (split <;> rfl)
@[simp] theorem tallyCharge_spi (s : State) (p : Fin 16) (n amount : Nat) : (s.tallyCharge p n amount).spi = s.spi := by
  unfold State.tallyCharge; split <;> first | rfl | (split <;> rfl)
@[simp] theorem tallyCharge_readData (s : State) (p : Fin 16) (n amount : Nat) : (s.tallyCharge p n amount).readData = s.readData := by
  unfold State.tallyCharge; split <;> first | rfl | (split <;> rfl)
@[simp] theorem tallyCharge_freeCount (s : State) (p : Fin 16) (n amount : Nat) : (s.tallyCharge p n amount).freeCount = s.freeCount := by
  unfold State.tallyCharge; split <;> first | rfl | (split <;> rfl)
@[simp] theorem tallyCharge_pending (s : State) (p : Fin 16) (n amount : Nat) : (s.tallyCharge p n amount).pending = s.pending := by
  unfold State.tallyCharge; split <;> first | rfl | (split <;> rfl)

/-! ### refuseAccess -/

@[simp] theorem refuseAccess_run (s : State) : s.refuseAccess.run = s.run := rfl
@[simp] theorem refuseAccess_engine (s : State) : s.refuseAccess.engine = s.engine := rfl
@[simp] theorem refuseAccess_points (s : State) : s.refuseAccess.points = s.points := rfl
@[simp] theorem refuseAccess_timer (s : State) : s.refuseAccess.timer = s.timer := rfl
@[simp] theorem refuseAccess_proc (s : State) : s.refuseAccess.proc = s.proc := rfl
@[simp] theorem refuseAccess_port (s : State) : s.refuseAccess.port = s.port := rfl
@[simp] theorem refuseAccess_commit (s : State) : s.refuseAccess.commit = s.commit := rfl
@[simp] theorem refuseAccess_nv (s : State) : s.refuseAccess.nv = s.nv := rfl
@[simp] theorem refuseAccess_spi (s : State) : s.refuseAccess.spi = s.spi := rfl
@[simp] theorem refuseAccess_readData (s : State) : s.refuseAccess.readData = s.readData := rfl
@[simp] theorem refuseAccess_freeCount (s : State) : s.refuseAccess.freeCount = s.freeCount := rfl
@[simp] theorem refuseAccess_pending (s : State) : s.refuseAccess.pending = s.pending := rfl

/-! ### reportSettings -/

@[simp] theorem reportSettings_run (s : State) : s.reportSettings.run = s.run := rfl
@[simp] theorem reportSettings_engine (s : State) : s.reportSettings.engine = s.engine := rfl
@[simp] theorem reportSettings_points (s : State) : s.reportSettings.points = s.points := rfl
@[simp] theorem reportSettings_timer (s : State) : s.reportSettings.timer = s.timer := rfl
@[simp] theorem reportSettings_proc (s : State) : s.reportSettings.proc = s.proc := rfl
@[simp] theorem reportSettings_port (s : State) : s.reportSettings.port = s.port := rfl
@[simp] theorem reportSettings_notice (s : State) : s.reportSettings.notice = s.notice := rfl
@[simp] theorem reportSettings_nv (s : State) : s.reportSettings.nv = s.nv := rfl
@[simp] theorem reportSettings_spi (s : State) : s.reportSettings.spi = s.spi := rfl
@[simp] theorem reportSettings_readData (s : State) : s.reportSettings.readData = s.readData := rfl
@[simp] theorem reportSettings_freeCount (s : State) : s.reportSettings.freeCount = s.freeCount := rfl
@[simp] theorem reportSettings_pending (s : State) : s.reportSettings.pending = s.pending := rfl

/-! ### freeSlot -/

@[simp] theorem freeSlot_run (s : State) (slot : Fin 64) : (s.freeSlot slot).run = s.run := rfl
@[simp] theorem freeSlot_points (s : State) (slot : Fin 64) : (s.freeSlot slot).points = s.points := rfl
@[simp] theorem freeSlot_timer (s : State) (slot : Fin 64) : (s.freeSlot slot).timer = s.timer := rfl
@[simp] theorem freeSlot_proc (s : State) (slot : Fin 64) : (s.freeSlot slot).proc = s.proc := rfl
@[simp] theorem freeSlot_port (s : State) (slot : Fin 64) : (s.freeSlot slot).port = s.port := rfl
@[simp] theorem freeSlot_notice (s : State) (slot : Fin 64) : (s.freeSlot slot).notice = s.notice := rfl
@[simp] theorem freeSlot_nv (s : State) (slot : Fin 64) : (s.freeSlot slot).nv = s.nv := rfl
@[simp] theorem freeSlot_spi (s : State) (slot : Fin 64) : (s.freeSlot slot).spi = s.spi := rfl
@[simp] theorem freeSlot_readData (s : State) (slot : Fin 64) : (s.freeSlot slot).readData = s.readData := rfl
@[simp] theorem freeSlot_freeCount (s : State) (slot : Fin 64) : (s.freeSlot slot).freeCount = s.freeCount := rfl
@[simp] theorem freeSlot_pending (s : State) (slot : Fin 64) : (s.freeSlot slot).pending = s.pending := rfl

/-! ### detachAll -/

@[simp] theorem detachAll_run (s : State) (slot : Fin 64) : (s.detachAll slot).run = s.run := rfl
@[simp] theorem detachAll_engine (s : State) (slot : Fin 64) : (s.detachAll slot).engine = s.engine := rfl
@[simp] theorem detachAll_timer (s : State) (slot : Fin 64) : (s.detachAll slot).timer = s.timer := rfl
@[simp] theorem detachAll_proc (s : State) (slot : Fin 64) : (s.detachAll slot).proc = s.proc := rfl
@[simp] theorem detachAll_port (s : State) (slot : Fin 64) : (s.detachAll slot).port = s.port := rfl
@[simp] theorem detachAll_notice (s : State) (slot : Fin 64) : (s.detachAll slot).notice = s.notice := rfl
@[simp] theorem detachAll_commit (s : State) (slot : Fin 64) : (s.detachAll slot).commit = s.commit := rfl
@[simp] theorem detachAll_nv (s : State) (slot : Fin 64) : (s.detachAll slot).nv = s.nv := rfl
@[simp] theorem detachAll_spi (s : State) (slot : Fin 64) : (s.detachAll slot).spi = s.spi := rfl
@[simp] theorem detachAll_readData (s : State) (slot : Fin 64) : (s.detachAll slot).readData = s.readData := rfl
@[simp] theorem detachAll_freeCount (s : State) (slot : Fin 64) : (s.detachAll slot).freeCount = s.freeCount := rfl
@[simp] theorem detachAll_pending (s : State) (slot : Fin 64) : (s.detachAll slot).pending = s.pending := rfl

/-! ### markVerified -/

@[simp] theorem markVerified_run (s : State) (page : Fin 9) : (s.markVerified page).run = s.run := rfl
@[simp] theorem markVerified_engine (s : State) (page : Fin 9) : (s.markVerified page).engine = s.engine := rfl
@[simp] theorem markVerified_points (s : State) (page : Fin 9) : (s.markVerified page).points = s.points := rfl
@[simp] theorem markVerified_timer (s : State) (page : Fin 9) : (s.markVerified page).timer = s.timer := rfl
@[simp] theorem markVerified_proc (s : State) (page : Fin 9) : (s.markVerified page).proc = s.proc := rfl
@[simp] theorem markVerified_port (s : State) (page : Fin 9) : (s.markVerified page).port = s.port := rfl
@[simp] theorem markVerified_notice (s : State) (page : Fin 9) : (s.markVerified page).notice = s.notice := rfl
@[simp] theorem markVerified_nv (s : State) (page : Fin 9) : (s.markVerified page).nv = s.nv := rfl
@[simp] theorem markVerified_spi (s : State) (page : Fin 9) : (s.markVerified page).spi = s.spi := rfl
@[simp] theorem markVerified_readData (s : State) (page : Fin 9) : (s.markVerified page).readData = s.readData := rfl
@[simp] theorem markVerified_freeCount (s : State) (page : Fin 9) : (s.markVerified page).freeCount = s.freeCount := rfl
@[simp] theorem markVerified_pending (s : State) (page : Fin 9) : (s.markVerified page).pending = s.pending := rfl

/-! ### markDamaged -/

@[simp] theorem markDamaged_run (s : State) (page : Fin 9) : (s.markDamaged page).run = s.run := rfl
@[simp] theorem markDamaged_engine (s : State) (page : Fin 9) : (s.markDamaged page).engine = s.engine := rfl
@[simp] theorem markDamaged_points (s : State) (page : Fin 9) : (s.markDamaged page).points = s.points := rfl
@[simp] theorem markDamaged_timer (s : State) (page : Fin 9) : (s.markDamaged page).timer = s.timer := rfl
@[simp] theorem markDamaged_proc (s : State) (page : Fin 9) : (s.markDamaged page).proc = s.proc := rfl
@[simp] theorem markDamaged_port (s : State) (page : Fin 9) : (s.markDamaged page).port = s.port := rfl
@[simp] theorem markDamaged_notice (s : State) (page : Fin 9) : (s.markDamaged page).notice = s.notice := rfl
@[simp] theorem markDamaged_nv (s : State) (page : Fin 9) : (s.markDamaged page).nv = s.nv := rfl
@[simp] theorem markDamaged_spi (s : State) (page : Fin 9) : (s.markDamaged page).spi = s.spi := rfl
@[simp] theorem markDamaged_readData (s : State) (page : Fin 9) : (s.markDamaged page).readData = s.readData := rfl
@[simp] theorem markDamaged_freeCount (s : State) (page : Fin 9) : (s.markDamaged page).freeCount = s.freeCount := rfl
@[simp] theorem markDamaged_pending (s : State) (page : Fin 9) : (s.markDamaged page).pending = s.pending := rfl

/-! ### endCommit -/

@[simp] theorem endCommit_run (s : State) : s.endCommit.run = s.run := rfl
@[simp] theorem endCommit_engine (s : State) : s.endCommit.engine = s.engine := rfl
@[simp] theorem endCommit_points (s : State) : s.endCommit.points = s.points := rfl
@[simp] theorem endCommit_timer (s : State) : s.endCommit.timer = s.timer := rfl
@[simp] theorem endCommit_proc (s : State) : s.endCommit.proc = s.proc := rfl
@[simp] theorem endCommit_port (s : State) : s.endCommit.port = s.port := rfl
@[simp] theorem endCommit_notice (s : State) : s.endCommit.notice = s.notice := rfl
@[simp] theorem endCommit_nv (s : State) : s.endCommit.nv = s.nv := rfl
@[simp] theorem endCommit_spi (s : State) : s.endCommit.spi = s.spi := rfl
@[simp] theorem endCommit_readData (s : State) : s.endCommit.readData = s.readData := rfl
@[simp] theorem endCommit_freeCount (s : State) : s.endCommit.freeCount = s.freeCount := rfl
@[simp] theorem endCommit_pending (s : State) : s.endCommit.pending = s.pending := rfl

/-! ### returnFailed -/

@[simp] theorem returnFailed_run (s : State) (page : Fin 9) : (s.returnFailed page).run = s.run := by
  unfold State.returnFailed; split <;> rfl
@[simp] theorem returnFailed_engine (s : State) (page : Fin 9) : (s.returnFailed page).engine = s.engine := by
  unfold State.returnFailed; split <;> rfl
@[simp] theorem returnFailed_points (s : State) (page : Fin 9) : (s.returnFailed page).points = s.points := by
  unfold State.returnFailed; split <;> rfl
@[simp] theorem returnFailed_timer (s : State) (page : Fin 9) : (s.returnFailed page).timer = s.timer := by
  unfold State.returnFailed; split <;> rfl
@[simp] theorem returnFailed_proc (s : State) (page : Fin 9) : (s.returnFailed page).proc = s.proc := by
  unfold State.returnFailed; split <;> rfl
@[simp] theorem returnFailed_port (s : State) (page : Fin 9) : (s.returnFailed page).port = s.port := by
  unfold State.returnFailed; split <;> rfl
@[simp] theorem returnFailed_notice (s : State) (page : Fin 9) : (s.returnFailed page).notice = s.notice := by
  unfold State.returnFailed; split <;> rfl
@[simp] theorem returnFailed_nv (s : State) (page : Fin 9) : (s.returnFailed page).nv = s.nv := by
  unfold State.returnFailed; split <;> rfl
@[simp] theorem returnFailed_spi (s : State) (page : Fin 9) : (s.returnFailed page).spi = s.spi := by
  unfold State.returnFailed; split <;> rfl
@[simp] theorem returnFailed_readData (s : State) (page : Fin 9) : (s.returnFailed page).readData = s.readData := by
  unfold State.returnFailed; split <;> rfl
@[simp] theorem returnFailed_freeCount (s : State) (page : Fin 9) : (s.returnFailed page).freeCount = s.freeCount := by
  unfold State.returnFailed; split <;> rfl
@[simp] theorem returnFailed_pending (s : State) (page : Fin 9) : (s.returnFailed page).pending = s.pending := by
  unfold State.returnFailed; split <;> rfl

/-! ### setLoadDamage -/

@[simp] theorem setLoadDamage_run (s : State) : s.setLoadDamage.run = s.run := rfl
@[simp] theorem setLoadDamage_engine (s : State) : s.setLoadDamage.engine = s.engine := rfl
@[simp] theorem setLoadDamage_points (s : State) : s.setLoadDamage.points = s.points := rfl
@[simp] theorem setLoadDamage_timer (s : State) : s.setLoadDamage.timer = s.timer := rfl
@[simp] theorem setLoadDamage_proc (s : State) : s.setLoadDamage.proc = s.proc := rfl
@[simp] theorem setLoadDamage_port (s : State) : s.setLoadDamage.port = s.port := rfl
@[simp] theorem setLoadDamage_commit (s : State) : s.setLoadDamage.commit = s.commit := rfl
@[simp] theorem setLoadDamage_nv (s : State) : s.setLoadDamage.nv = s.nv := rfl
@[simp] theorem setLoadDamage_spi (s : State) : s.setLoadDamage.spi = s.spi := rfl
@[simp] theorem setLoadDamage_readData (s : State) : s.setLoadDamage.readData = s.readData := rfl
@[simp] theorem setLoadDamage_freeCount (s : State) : s.setLoadDamage.freeCount = s.freeCount := rfl
@[simp] theorem setLoadDamage_pending (s : State) : s.setLoadDamage.pending = s.pending := rfl

/-! ### spiEdge -/

@[simp] theorem spiEdge_run (s : State) (edge : SpiEdge) : (s.spiEdge edge).run = s.run := by
  unfold State.spiEdge; split <;> first | rfl | (split <;> rfl)
@[simp] theorem spiEdge_engine (s : State) (edge : SpiEdge) : (s.spiEdge edge).engine = s.engine := by
  unfold State.spiEdge; split <;> first | rfl | (split <;> rfl)
@[simp] theorem spiEdge_points (s : State) (edge : SpiEdge) : (s.spiEdge edge).points = s.points := by
  unfold State.spiEdge; split <;> first | rfl | (split <;> rfl)
@[simp] theorem spiEdge_timer (s : State) (edge : SpiEdge) : (s.spiEdge edge).timer = s.timer := by
  unfold State.spiEdge; split <;> first | rfl | (split <;> rfl)
@[simp] theorem spiEdge_proc (s : State) (edge : SpiEdge) : (s.spiEdge edge).proc = s.proc := by
  unfold State.spiEdge; split <;> first | rfl | (split <;> rfl)
@[simp] theorem spiEdge_port (s : State) (edge : SpiEdge) : (s.spiEdge edge).port = s.port := by
  unfold State.spiEdge; split <;> first | rfl | (split <;> rfl)
@[simp] theorem spiEdge_notice (s : State) (edge : SpiEdge) : (s.spiEdge edge).notice = s.notice := by
  unfold State.spiEdge; split <;> first | rfl | (split <;> rfl)
@[simp] theorem spiEdge_commit (s : State) (edge : SpiEdge) : (s.spiEdge edge).commit = s.commit := by
  unfold State.spiEdge; split <;> first | rfl | (split <;> rfl)
@[simp] theorem spiEdge_nv (s : State) (edge : SpiEdge) : (s.spiEdge edge).nv = s.nv := by
  unfold State.spiEdge; split <;> first | rfl | (split <;> rfl)
@[simp] theorem spiEdge_readData (s : State) (edge : SpiEdge) : (s.spiEdge edge).readData = s.readData := by
  unfold State.spiEdge; split <;> first | rfl | (split <;> rfl)
@[simp] theorem spiEdge_freeCount (s : State) (edge : SpiEdge) : (s.spiEdge edge).freeCount = s.freeCount := by
  unfold State.spiEdge; split <;> first | rfl | (split <;> rfl)

end Sys2Proof.Machine.Laws
end

