-- ==== Sys2Proof/Laws/Ops.lean ====
section
/-! SUPPORT. What the shared operations do, said once: the reading of a record after an update, the balance and level
consequences of an engine operation, page reports, results and WAITs, and the completion of a command. -/

namespace Sys2Proof.Machine.Laws

/-! ### Reading a record after an update -/

theorem slot_setSlot (s : State) (i j : Fin 64) (a : Account) :
    (s.setSlot i a).slot j = if i = j then a else s.slot j := by
  simp only [State.slot, State.setSlot, Fin.getElem_fin, Vector.getElem_set, Fin.ext_iff]

@[simp] theorem slot_setSlot_same (s : State) (i : Fin 64) (a : Account) : (s.setSlot i a).slot i = a := by
  simp [slot_setSlot]

theorem slot_setSlot_other (s : State) {i j : Fin 64} (a : Account) (h : i ≠ j) : (s.setSlot i a).slot j = s.slot j := by
  simp [slot_setSlot, h]

theorem point_setPoint (s : State) (p q : Fin 16) (r : Point) :
    (s.setPoint p r).point q = if p = q then r else s.point q := by
  simp only [State.point, State.setPoint, Fin.getElem_fin, Vector.getElem_set, Fin.ext_iff]

@[simp] theorem point_setPoint_same (s : State) (p : Fin 16) (r : Point) : (s.setPoint p r).point p = r := by
  simp [point_setPoint]

theorem point_setPoint_other (s : State) {p q : Fin 16} (r : Point) (h : p ≠ q) : (s.setPoint p r).point q = s.point q := by
  simp [point_setPoint, h]

@[simp] theorem point_mapPoints (s : State) (f : Point → Point) (p : Fin 16) : (s.mapPoints f).point p = f (s.point p) := by
  simp [State.point, State.mapPoints]

/-- A slot is read from the engine's table alone. -/
theorem slot_of_engine {s t : State} (h : t.engine = s.engine) (i : Fin 64) : t.slot i = s.slot i := by
  simp [State.slot, h]

theorem slot_of_slots {s t : State} (h : t.engine.slots = s.engine.slots) (i : Fin 64) : t.slot i = s.slot i := by
  simp [State.slot, h]

/-- A point is read from the Point Controller alone. -/
theorem point_of_points {s t : State} (h : t.points = s.points) (p : Fin 16) : t.point p = s.point p := by
  simp [State.point, h]

@[simp] theorem addReasons_slots (s : State) (slot : Fin 64) (r : Reasons) :
    (s.addReasons slot r).engine.slots = s.engine.slots := by
  unfold State.addReasons; split <;> rfl

@[simp] theorem addReasons_directory (s : State) (slot : Fin 64) (r : Reasons) :
    (s.addReasons slot r).engine.directory = s.engine.directory := by
  unfold State.addReasons; split <;> rfl

@[simp] theorem addReasons_op (s : State) (slot : Fin 64) (r : Reasons) :
    (s.addReasons slot r).engine.op = s.engine.op := by
  unfold State.addReasons; split <;> rfl

theorem addReasons_attention (s : State) (slot : Fin 64) (r : Reasons) :
    (s.addReasons slot r).engine.attention =
      if r.isEmpty then s.engine.attention else joinReasons slot r s.engine.attention := by
  unfold State.addReasons; split <;> rfl

@[simp] theorem slot_addReasons (s : State) (slot : Fin 64) (r : Reasons) (i : Fin 64) :
    (s.addReasons slot r).slot i = s.slot i := slot_of_slots (addReasons_slots s slot r) i

@[simp] theorem slot_report (s : State) (page : Fin 9) (u : Bool) (i : Fin 64) : (s.report page u).slot i = s.slot i := rfl

@[simp] theorem point_report (s : State) (page : Fin 9) (u : Bool) (p : Fin 16) : (s.report page u).point p = s.point p :=
  rfl

/-! ### The dirty set and the eligible list (R173) -/

theorem dirty_report (s : State) (page q : Fin 9) (u : Bool) :
    (s.report page u).commit.dirty[q] =
      if page = q then some (reportedRecord (u || s.warned) s.commit.dirty[q]) else s.commit.dirty[q] := by
  simp only [State.report, Fin.getElem_fin, Vector.getElem_set, Fin.ext_iff]
  split
  · rename_i h; simp [h]
  · rfl

theorem mem_joinEligible (page q : Fin 9) (pages : List (Fin 9)) :
    q ∈ joinEligible page pages ↔ q = page ∨ q ∈ pages := by
  unfold joinEligible
  split
  · rename_i h
    constructor
    · exact Or.inr
    · rintro (rfl | h')
      · exact h
      · exact h'
  · simp [or_comm]

theorem nodup_joinEligible (page : Fin 9) (pages : List (Fin 9)) (h : pages.Nodup) : (joinEligible page pages).Nodup := by
  unfold joinEligible
  split
  · exact h
  · rename_i hn
    rw [List.nodup_append]
    simp only [List.nodup_cons, List.not_mem_nil, not_false_eq_true, List.nodup_nil, and_self, List.mem_singleton, h,
      true_and]
    rintro a ha b rfl hab
    exact hn (hab ▸ ha)

/-- The Commit Engine's fields that a report leaves as they are. -/
theorem report_keeps (s : State) (page : Fin 9) (u : Bool) :
    (s.report page u).commit.phase = s.commit.phase ∧ (s.report page u).commit.retried = s.commit.retried ∧
      (s.report page u).commit.snapshot = s.commit.snapshot ∧ (s.report page u).commit.faultPage = s.commit.faultPage ∧
      (s.report page u).commit.interval = s.commit.interval ∧ (s.report page u).commit.wanted = s.commit.wanted ∧
      (s.report page u).commit.unverified = s.commit.unverified :=
  ⟨rfl, rfl, rfl, rfl, rfl, rfl, rfl⟩

/-- Pages that join one after another: those not yet in the list stand behind it, in their order. -/
theorem foldl_joinEligible (new : List (Fin 9)) (h : new.Nodup) (pages : List (Fin 9)) :
    new.foldl (fun list page => joinEligible page list) pages = pages ++ new.filter fun page => !pages.contains page := by
  induction new generalizing pages with
  | nil => simp
  | cons page rest ih =>
    obtain ⟨hp, hr⟩ := List.nodup_cons.mp h
    rw [List.foldl_cons, ih hr]
    unfold joinEligible
    split
    · rename_i hm
      rw [List.filter_cons_of_neg (by simpa using hm)]
    · rename_i hm
      rw [List.filter_cons_of_pos (by simpa using hm), List.append_assoc, List.singleton_append]
      congr 2
      refine List.filter_congr fun q hq => ?_
      have hne : q ≠ page := fun c => hp (c ▸ hq)
      simp [hne]

/-- Every dirty page stands in the eligible list after R176: those that were there first, the others in ascending order. -/
theorem makeAllUrgent_eligible (s : State) :
    s.makeAllUrgent.commit.eligible = joinedAscending s.commit.eligible fun page => (s.commit.dirty[page]).isSome := by
  show s.dirtyPages.foldl (fun pages page => joinEligible page pages) s.commit.eligible = _
  have hn : s.dirtyPages.Nodup := (List.nodup_finRange 9).filter _
  rw [foldl_joinEligible _ hn]
  unfold joinedAscending State.dirtyPages
  rw [List.filter_filter]
  congr 1
  exact List.filter_congr fun q _ => Bool.and_comm ..

/-! ### Changing an account (R36, R37) -/

theorem changeAccount_slot (s : State) (slot i : Fin 64) (a : Account) (before : Level) (extra : Reasons) :
    (s.changeAccount slot a before extra).slot i = if slot = i then a.relevelled else s.slot i := by
  unfold State.changeAccount
  dsimp only
  split
  · show ((s.setSlot slot a.relevelled).addReasons slot _).slot i = _
    rw [slot_addReasons, slot_setSlot]
  · rw [slot_addReasons, slot_setSlot]

theorem changeAccount_directory (s : State) (slot : Fin 64) (a : Account) (before : Level) (extra : Reasons) :
    (s.changeAccount slot a before extra).engine.directory = s.engine.directory := by
  unfold State.changeAccount
  dsimp only
  split
  · show ((s.setSlot slot a.relevelled).addReasons slot _).engine.directory = _
    rw [addReasons_directory]; rfl
  · rw [addReasons_directory]; rfl

theorem changeAccount_op (s : State) (slot : Fin 64) (a : Account) (before : Level) (extra : Reasons) :
    (s.changeAccount slot a before extra).engine.op = s.engine.op := by
  unfold State.changeAccount
  dsimp only
  split
  · show ((s.setSlot slot a.relevelled).addReasons slot _).engine.op = _
    rw [addReasons_op]; rfl
  · rw [addReasons_op]; rfl

/-- The attention list gains the reasons of the change of level and those of the operation. -/
theorem changeAccount_attention (s : State) (slot : Fin 64) (a : Account) (before : Level) (extra : Reasons) :
    (s.changeAccount slot a before extra).engine.attention =
      if ((levelReasons before a.relevelled.level).union extra).isEmpty then s.engine.attention
      else joinReasons slot ((levelReasons before a.relevelled.level).union extra) s.engine.attention := by
  unfold State.changeAccount
  dsimp only
  split
  · show ((s.setSlot slot a.relevelled).addReasons slot _).engine.attention = _
    rw [addReasons_attention]; rfl
  · rw [addReasons_attention]; rfl

/-- The same in the words of the statements: an operation adds no reason of its own but LIMIT. -/
theorem changeAccount_attentionAfter (s : State) (slot : Fin 64) (a : Account) (before : Level) (clamped : Bool) :
    (s.changeAccount slot a before { limit := clamped }).engine.attention =
      attentionAfter slot before a.relevelled.level clamped s.engine.attention := by
  rw [changeAccount_attention]
  unfold attentionAfter
  generalize a.relevelled.level = after
  cases before <;> cases after <;> cases clamped <;> rfl

/-- A point hears of the change exactly when it is bound to the slot, the level or status changed, and the bound count is
above 0. -/
theorem changeAccount_point (s : State) (slot : Fin 64) (a : Account) (before : Level) (extra : Reasons) (p : Fin 16) :
    (s.changeAccount slot a before extra).point p =
      if (a.relevelled.level ≠ (s.slot slot).level ∨ a.status ≠ (s.slot slot).status) ∧ 0 < a.boundCount ∧
          (s.point p).binding = some slot then
        (s.point p).notified s.points.deferral a.status a.relevelled.level
      else s.point p := by
  unfold State.changeAccount
  have hp : ∀ r, ((s.setSlot slot a.relevelled).addReasons slot r).point p = s.point p :=
    fun r => point_of_points (by simp) p
  have hd : ∀ r, ((s.setSlot slot a.relevelled).addReasons slot r).points.deferral = s.points.deferral :=
    fun r => by simp
  dsimp only
  by_cases h : (a.relevelled.level ≠ (s.slot slot).level ∨ a.status ≠ (s.slot slot).status) ∧ 0 < a.boundCount
  · rw [if_pos (show (a.relevelled.level ≠ (s.slot slot).level ∨ a.relevelled.status ≠ (s.slot slot).status) ∧
      0 < a.relevelled.boundCount from h)]
    unfold State.notifyPoints
    rw [point_mapPoints, hp, hd]
    by_cases hb : (s.point p).binding = some slot
    · rw [if_pos hb, if_pos ⟨h.1, h.2, hb⟩]; rfl
    · rw [if_neg hb, if_neg (fun c => hb c.2.2)]
  · rw [if_neg (show ¬((a.relevelled.level ≠ (s.slot slot).level ∨ a.relevelled.status ≠ (s.slot slot).status) ∧
      0 < a.relevelled.boundCount) from h), hp, if_neg (fun c => h ⟨c.1, c.2.1⟩)]

/-! ### Storing a balance (R30, R31, R32, R33) -/

/-- The slot after a stored balance: the balance and its level; every other slot is as before. -/
theorem storeBalance_slot (s : State) (slot i : Fin 64) (b : Int) (extra : Reasons) (u : Bool)
    (hl : (s.slot slot).level = levelOf (s.slot slot).balance (s.slot slot).low (s.slot slot).ec) :
    (s.storeBalance slot b extra u).slot i =
      if slot = i then { s.slot slot with balance := b, level := levelOf b (s.slot slot).low (s.slot slot).ec }
      else s.slot i := by
  unfold State.storeBalance
  dsimp only
  split
  · rename_i h
    rw [slot_addReasons]
    split
    · rename_i hi; subst hi
      cases hs : s.slot slot
      simp_all
    · rfl
  · rw [slot_report, changeAccount_slot]; rfl

theorem storeBalance_directory (s : State) (slot : Fin 64) (b : Int) (extra : Reasons) (u : Bool) :
    (s.storeBalance slot b extra u).engine.directory = s.engine.directory := by
  unfold State.storeBalance
  dsimp only
  split
  · simp
  · exact changeAccount_directory ..

theorem storeBalance_op (s : State) (slot : Fin 64) (b : Int) (extra : Reasons) (u : Bool) :
    (s.storeBalance slot b extra u).engine.op = s.engine.op := by
  unfold State.storeBalance
  dsimp only
  split
  · simp
  · exact changeAccount_op ..

/-- A balance equal to the old one changes nothing when no reason comes with it (R30, R32). -/
theorem storeBalance_same (s : State) (slot : Fin 64) (u : Bool) : s.storeBalance slot (s.slot slot).balance {} u = s := by
  simp [State.storeBalance, State.addReasons, Reasons.isEmpty]

/-! ### Results and WAITs -/

/-- A processor that is not WAITING tests nothing. -/
theorem retestWait_of_none (s : State) (h : s.proc.executing = none) : s.retestWait = s := by
  unfold State.retestWait
  split
  · rename_i h'; rw [h] at h'; cases h'
  · rfl

@[simp] theorem retestWait_post (s : State) (cmd : QueuedCommand) (a : Answer) : (s.post cmd a).retestWait = s.post cmd a :=
  retestWait_of_none _ rfl

/-- A WAIT that re-tests its conditions goes on, or ends with DONE (R108). -/
theorem retestWait_cases (s : State) :
    s.retestWait = s ∨
      ∃ cmd w, s.proc.executing = some { cmd, phase := .waiting w } ∧ s.waitMet w = true ∧
        s.retestWait = s.endWait cmd w .done := by
  unfold State.retestWait
  split
  · rename_i cmd w h
    split
    · rename_i hm; exact Or.inr ⟨cmd, w, h, hm, rfl⟩
    · exact Or.inl rfl
  · exact Or.inl rfl

/-! ### Commands -/

/-- The completion of the operation of an executing command: its effects, then its result (R102, R114). -/
theorem completeCommand_owned (s : State) (cmd : QueuedCommand) (effect : Vector Word 7 → State → State × Answer)
    (h : s.engine.op = .busy (.command cmd true)) :
    s.completeCommand cmd.code effect =
      (effect cmd.params s.freeEngine).1.post cmd (effect cmd.params s.freeEngine).2 := by
  unfold State.completeCommand
  rw [h]
  simp

/-- The completion of an operation that a PORT RESET has abandoned: its effects stand, and nothing is posted (R45). -/
theorem completeCommand_abandoned (s : State) (cmd : QueuedCommand) (effect : Vector Word 7 → State → State × Answer)
    (h : s.engine.op = .busy (.command cmd false)) :
    s.completeCommand cmd.code effect = (effect cmd.params s.freeEngine).1.retestWait := by
  unfold State.completeCommand
  rw [h]
  simp

/-- A command answered in the step it is taken (R100). -/
theorem takeCommand_handed (s : State) (cmd : QueuedCommand) (effect : Vector Word 7 → State → State × Answer)
    (h : s.proc.executing = some { cmd, phase := .handed }) :
    s.takeCommand cmd.code effect = (effect cmd.params s).1.post cmd (effect cmd.params s).2 := by
  unfold State.takeCommand
  rw [h]
  simp

/-! ### The array at a reset (R171, R190) -/

/-- A reset damages the page in ERASE or PROGRAM and leaves every other page as it was. -/
theorem resetArray_page (s : State) (page : Fin 9) :
    s.resetArray[page] = if s.commit.phase.interrupted = some page then .damaged else s.nv[page] := by
  unfold State.resetArray
  cases s.commit.phase.interrupted <;>
    simp only [Option.some.injEq, reduceCtorEq, if_false, Fin.getElem_fin, Vector.getElem_set, Fin.ext_iff]

/-! ### The register port (R200) -/

theorem spiClock_append (s : State) (a b : List Bool) : s.spiClock (a ++ b) = (s.spiClock a).spiClock b :=
  List.foldl_append ..

/-- With no transaction, clock edges do nothing: the port waits for the next fall of CS_N. -/
theorem spiClock_of_none (s : State) (sdi : List Bool) (h : s.spi.transaction = none) : s.spiClock sdi = s := by
  have rise : ∀ bit, s.spiEdge (.clockRise bit) = s := fun bit => by
    simp [State.spiEdge, h]
  have fall : s.spiEdge .clockFall = s := by
    simp [State.spiEdge, h]
  induction sdi with
  | nil => rfl
  | cons bit rest ih =>
    show ((s.spiEdge (.clockRise bit)).spiEdge .clockFall).spiClock rest = s
    rw [rise, fall, ih]

/-- One pulse of SCK in a transaction outside RESET: the bit is sampled, the command that acts at it joins the queue, and SDO
moves to the next place. -/
theorem spiClock_pulse (s : State) (t : SpiTransaction) (bit : Bool) (hs : s.served = true)
    (h : s.spi.transaction = some t) :
    s.spiClock [bit] =
      { s with
        spi := { s.spi with transaction := some { t.sample bit with place := (t.sample bit).sampled.length } }
        pending := s.pending ++ (t.acts bit).toList } := by
  have rise : s.spiEdge (.clockRise bit) =
      { s with spi.transaction := some (t.sample bit), pending := s.pending ++ (t.acts bit).toList } := by
    simp [State.spiEdge, hs, h]
  show (s.spiEdge (.clockRise bit)).spiEdge .clockFall = _
  rw [rise]
  simp only [State.spiEdge, State.served] at hs ⊢
  simp [hs]

/-! ### The Top-up Port (R140, R150) -/

/-- A byte with no start before it is never acknowledged. -/
theorem addressByte_without_start (s : State) (byte : Byte) (h : s.port.awaitsAddress = false)
    (hs : s.port.state = .idle ∨ s.port.state = .replyReady) : s.addressByte byte = s.port.ignoring := by
  rcases hs with hs | hs <;> simp [State.addressByte, State.admits, hs, h]

/-! ### Points -/

/-- A point that supplies after evaluate-on-release is bound to an ACTIVE slot that is not EXHAUSTED (R58). -/
theorem evaluate_live (p : Point) (h : p.evaluate.state = .live) :
    p.hostHold = false ∧ ∃ l, p.view = some (.active, l) ∧ l ≠ .exhausted := by
  unfold Point.evaluate at h
  split at h
  · cases h
  · rename_i hc
    have hc' : p.holdCause = false := by simpa using hc
    unfold Point.holdCause at hc'
    rw [Bool.or_eq_false_iff] at hc'
    refine ⟨hc'.1, ?_⟩
    cases hv : p.view with
    | none => rw [hv] at hc'; simp at hc'
    | some v =>
      obtain ⟨st, l⟩ := v
      rw [hv] at hc' h
      refine ⟨l, ?_, ?_⟩
      · have : st = .active := by simpa using hc'.2
        rw [this]
      · rintro rfl; cases h

end Sys2Proof.Machine.Laws
end

