-- ==== Sys2Proof/Tests/Slice0.lean ====
section
/-! SUPPORT. The model's own tests: ill-formed commands that the check refuses, a small state, the manual's worked
examples, and for every statement with hypotheses a state and operands that meet them, clause by clause. -/

namespace Sys2Proof.Tests

open Sys2Proof Sys2Proof.Machine

-- One test at a time: each theorem decided by the kernel waits for those before it, and would hold a thread meanwhile.
set_option Elab.async false

/-! ### Well-formed commands -/

theorem test_wf_purge_without_its_bit : (Instr.purge 0).wellFormed = false := by decide
theorem test_wf_purge_with_port_reset : (Instr.purge 3).wellFormed = false := by decide
theorem test_wf_purge : (Instr.purge 1).wellFormed = true := by decide
theorem test_wf_portReset_without_its_bit : (Instr.portReset 1).wellFormed = false := by decide
theorem test_wf_portReset : (Instr.portReset 3).wellFormed = true := by decide
theorem test_wf_unassignedRead_of_assigned : (Instr.unassignedRead 0x21).wellFormed = false := by decide
theorem test_wf_unassignedRead : (Instr.unassignedRead 0x22).wellFormed = true := by decide
theorem test_wf_registerWrite_of_own_row : (Instr.registerWrite 0x0C 0).wellFormed = false := by decide
theorem test_wf_registerWrite_of_point : (Instr.registerWrite 0x3F 0).wellFormed = false := by decide
theorem test_wf_registerWrite : (Instr.registerWrite 0x0B 0).wellFormed = true := by decide

/-! ### A small state -/

/-- A command with tag 7 and the staged words given. -/
def cmdOf (code : Byte) (staged : List Word) : QueuedCommand :=
  { code, tag := 7, params := Vector.ofFn fun i : Fin 7 => staged.getD i.val 0 }

/-- RUN after a load of an empty array. -/
def running : State :=
  { State.reset with
    run := { State.reset.run with runState := .run }
    timer := { State.reset.timer with remaining := 100 } }

/-- Slot 0: ACTIVE, NORMAL, one point. -/
def payer : Account :=
  { number := 1111, status := .active, balance := 100, ec := 50, low := 30, tariff := 1, level := .normal, boundCount := 1 }

/-- Slot 1: SUSPENDED, LOW, no point. -/
def resting : Account :=
  { number := 2222, status := .suspended, balance := 5, ec := 50, low := 30, tariff := 0, level := .low, boundCount := 0 }

/-- Slot 2: QUARANTINED, one point. -/
def doubtful : Account :=
  { number := 0, status := .quarantined, balance := 0, ec := 0, low := 0, tariff := 0, level := .low, boundCount := 1 }

/-- Slot 3: ACTIVE, EXHAUSTED, three points. -/
def debtor : Account :=
  { number := 3333, status := .active, balance := -60, ec := 50, low := 30, tariff := 1, level := .exhausted,
    boundCount := 3 }

/-- Four accounts, six bound points, a tariff; page 0 is dirty, page 8 is old. -/
def demo : State :=
  { running with
    engine := { running.engine with
      slots := (((running.engine.slots.set 0 payer).set 1 resting).set 2 doubtful).set 3 debtor
      directory := [{ number := 1111, slot := 0 }, { number := 2222, slot := 1 }, { number := 3333, slot := 3 }] }
    points := { running.points with points :=
      (((((running.points.points.set 0
          { binding := some 0, state := .live, pending := 2, view := some (.active, .normal) }).set 1
          { binding := some 3, state := .grace, graceRemaining := 1, view := some (.active, .exhausted) }).set 2
          { binding := some 2, state := .held, view := some (.quarantined, .low), pending := 1 }).set 3
          { binding := some 3, state := .cut, view := some (.active, .exhausted) }).set 4
          { binding := some 3, state := .grace, graceRemaining := 0, view := some (.active, .exhausted) }) }
    timer := { running.timer with tariffs := running.timer.tariffs.set 1 { priceA := 7, priceB := 9, standing := 11 } }
    commit := { running.commit with
      dirty := (running.commit.dirty.set 0 (some { urgent := true, age := 3 })).set 8 (some { urgent := false, age := 59 })
      eligible := [0] } }

/-- The operation of a command is in progress. -/
def granted (cmd : QueuedCommand) : State :=
  { demo with
    engine := { demo.engine with op := .busy (.command cmd true) }
    proc := { demo.proc with executing := some { cmd, phase := .granted } } }

/-- REPAIR of a slot as the number given, SUSPENDED, with -60. -/
def repairOf (slot number : Word) : QueuedCommand := cmdOf 0x0C [slot, number, 0x8000, 0x60, 0x50, 0x30, 0x0207]

/-- A command has been handed to its block. -/
def handed (cmd : QueuedCommand) : State :=
  { demo with proc := { demo.proc with executing := some { cmd, phase := .handed } } }

/-- A WAIT waits. -/
def waitingOn (w : WaitState) : State :=
  { demo with proc := { demo.proc with executing := some { cmd := cmdOf 0x21 [], phase := .waiting w } } }

/-- Point p replaced in the small state. -/
def withPoint (p : Fin 16) (r : Point) : State :=
  { demo with points := { demo.points with points := demo.points.points.set p r } }

def withPort (port : TopUpPort) : State := { demo with port }

theorem granted_is (cmd : QueuedCommand) : Granted (granted cmd) cmd.code cmd := ⟨rfl, rfl⟩
theorem handed_is (cmd : QueuedCommand) : Handed (handed cmd) cmd.code cmd := ⟨rfl, rfl⟩

theorem notWaiting_of_none {s : State} (h : s.proc.executing = none) : NotWaiting s := by
  intro cmd w h'
  rw [h] at h'
  cases h'

/-! ### The manual's examples -/

/-- The enquiry of section 11.6 carries check byte 08h. -/
theorem test_example_enquiry_check : withCheck [0x51, 0x31, 0x00, 0x02, 0x74] = [0x51, 0x31, 0x00, 0x02, 0x74, 0x08] := by
  decide

/-- The enquiry is a frame for account 31000274. -/
theorem test_example_enquiry_number : frameNumber [0x51, 0x31, 0x00, 0x02, 0x74, 0x08] = some 31000274 := by decide

/-- Section 3.2: a fourth rising edge at prescale 4 makes one unit. -/
theorem test_example_edges_to_units :
    Point.completeEdge true
        { binding := some 0, state := .live, line := true, edgeCounter := 3, excursion := true,
          config := { prescale := 4, debounce := .ms4 } } =
      { binding := some 0, state := .live, line := true, debounced := true, edgeCounter := 0, pending := 1,
        config := { prescale := 4, debounce := .ms4 } } := by decide

/-- Section 8.3: with RESULT in service, POINT3 outranks it, and ATTENTION waits behind POINT3. -/
theorem test_example_nested_service :
    let s := { demo with
      notice := { demo.notice with
        mode := .vectored, stack := [5, 22], enables := 1 <<< 5 ||| 1 <<< 18 ||| 1 <<< 22 }
      engine := { demo.engine with attention := [{ slot := 0, reasons := { low := true } }] } }
    s.noticeAsserted = false ∧
      State.noticeAsserted { s with notice := { s.notice with stack := [22] } } = true := by decide

/-- The bits of a write to SUBMIT on SDI. -/
theorem test_spi_submit :
    spiCommand ([false] ++ [false, false, false, true, true, false, false] ++ List.replicate 30 false ++ [true, true]) =
      some (.submit 3) := by decide

/-- A read of NOTICE_TAKE acts on its command byte. -/
theorem test_spi_take : spiCommand [true, false, false, true, true, false, false, true] = some .noticeTake := by decide

/-- Edge by edge, the same read queues NOTICE_TAKE at its eighth bit, and the bits after it queue nothing. -/
theorem test_spi_edges :
    (((demo.spiEdge .select).spiClock [true, false, false, true, true, false, false, true]).spiClock
      (List.replicate 32 true)).pending = [.noticeTake] := by decide +kernel

/-- A transaction that a reset has dropped queues nothing more, and SDO is undriven in RESET. -/
theorem test_spi_dropped_at_reset :
    (match execReset (demo.spiEdge .select) with
      | .next t => ((t.spiClock (List.replicate 40 true)).pending, t.sdo)
      | .fault f => nomatch f
      | .refused _ => ([.reset], .undriven)) = ([], .undriven) := by decide +kernel

/-- A second address byte with no start between is not acknowledged (R140). -/
theorem test_address_byte_after_refused_one :
    (let s := withPort { demo.port with enabled := true, awaitsAddress := true };
      let t := s.setPort (s.addressByte 0x76);
      (t.addressByte 0x74).state = .idle ∧ (t.addressByte 0x74).acked = false ∧
        ((t.setPort t.port.atStart).addressByte 0x74).state = .addressedWrite) := by decide +kernel

/-- TSDA falling while TSCL is high is a start. -/
theorem test_bus_start : busCondition { tscl := true, tsda := true } { tscl := true, tsda := false } = some .start := by
  decide

/-- From reset, LOADING_START and the load of an empty array lead to page 1. -/
theorem test_first_page_of_load :
    (match execLoadAccountPage { State.reset with run := { State.reset.run with runState := .loading } } with
      | .next t => t.run.loadPage
      | .fault f => nomatch f
      | .refused _ => 0) = 1 := by decide +kernel

/-! ### Witnesses: step, reset, load -/

theorem test_witness_StepRunsFrontCommand :
    State.pending { demo with pending := [Instr.charge] } = Instr.charge :: [] ∧ demo.pending = [] := by decide

/-- A commit of page 0 in VERIFY, its snapshot in the array; load found the pages given damaged. -/
def inVerify (unverified : BitVec 9) : State :=
  let contents : PageContents := .accounts (Vector.replicate 8 (storeAccount payer))
  { running with
    commit := { running.commit with phase := .verify 0, snapshot := some contents, unverified }
    nv := running.nv.set 0 (.good contents) }

theorem test_witness_ResetThenLoadingStart :
    State.reset.run.runState = .reset ∧ (inVerify 0).commit.phase = .verify 0 ∧
      (State.commit { running with commit := { running.commit with phase := .program 8 } }).phase = .program 8 := by decide

/-- A reset in VERIFY harms no page, marked or not (R171); one in PROGRAM damages its page. -/
theorem test_reset_in_verify :
    (inVerify 0).resetArray = (inVerify 0).nv ∧ (inVerify 1).resetArray = (inVerify 1).nv ∧
      (State.resetArray { inVerify 1 with commit := { (inVerify 1).commit with phase := .program 0 } })[0] = .damaged := by
  decide +kernel

/-- Once its commit has verified, a page that load found damaged is marked no more (R209). -/
theorem test_verify_ends_mark :
    (match execVerifyComplete (inVerify 3) with
      | .next t => (t.commit.phase, t.commit.unverified)
      | .fault f => nomatch f
      | .refused _ => (.erase 0, 3)) = (.idle, 2) := by decide +kernel

/-- A damaged page is marked at load (R209). -/
theorem test_damaged_page_is_marked :
    (match execLoadAccountPage { State.reset with
        run := { State.reset.run with runState := .loading, loadPage := 2 }, nv := State.reset.nv.set 2 .damaged } with
      | .next t => (t.commit.unverified, (t.slot 16).status)
      | .fault f => nomatch f
      | .refused _ => (0, .free)) = (4, .quarantined) := by decide +kernel

/-- Settings of page 8 that load as stored, but for the period length. -/
def storedSettings (period : Word) : StoredSettings := { defaultSettings with periodLength := period, enable := 1 }

/-- LOADING, before page `page`, with the page's contents given. -/
def loadingAt (page : Fin 9) (contents : NvPage) : State :=
  { State.reset with
    run := { State.reset.run with runState := .loading, loadPage := page }
    nv := State.reset.nv.set page contents }

theorem test_witness_SettingsPageLoadsByClass :
    let s := loadingAt 8 (.good (.settings (storedSettings 86400)))
    let u := loadingAt 8 (.good (.settings (storedSettings 86401)))
    (s.run.runState = .loading ∧ s.run.loadPage = 8 ∧ s.nv[8] = .good (.settings (storedSettings 86400)) ∧
        (storedSettings 86400).unusable = false) ∧
      (u.run.runState = .loading ∧ u.run.loadPage = 8 ∧ u.nv[8] = .good (.settings (storedSettings 86401)) ∧
        (storedSettings 86401).unusable = true) ∧
      (loadingAt 8 .erased).nv[8] = .erased ∧ (loadingAt 8 .damaged).nv[8] = .damaged := by decide +kernel

/-- Page 0 with one account in slot 0, every other slot FREE, and points 0 and 1 bound to slots 0 and 1. -/
def accountsPage : State :=
  { loadingAt 0 (.good (.accounts ((Vector.replicate 8 (storeAccount Account.free)).set 0 (storeAccount payer)))) with
    points := { State.reset.points with points :=
      (State.reset.points.points.set 0 { binding := some 0, state := .held }).set 1 { binding := some 1, state := .held } } }

theorem test_witness_AccountPagesLoadByClass :
    let s := loadingAt 7 .damaged
    (s.run.runState = .loading ∧ s.run.loadPage = (7 : Fin 8).castSucc ∧ s.nv[(7 : Fin 8).castSucc] = .damaged) ∧
      (loadingAt 0 .erased).run.loadPage = (0 : Fin 8).castSucc ∧
      (loadingAt 0 .erased).nv[(0 : Fin 8).castSucc] = .erased ∧ s.run.pfwAsserted = false ∧
      (State.run { s with run := { s.run with pfwAsserted := true } }).pfwAsserted = true ∧
      (accountsPage.run.loadPage = (0 : Fin 8).castSucc ∧
        accountsPage.nv[(0 : Fin 8).castSucc] =
          .good (.accounts ((Vector.replicate 8 (storeAccount Account.free)).set 0 (storeAccount payer))) ∧
        (accountsPage.point 0).binding = some 0 ∧ (accountsPage.point 1).binding = some 1) := by decide +kernel

/-- Of the two points, the one whose slot loads ACTIVE is LIVE, and the one whose slot loads FREE is detached. -/
theorem test_reconciled_points :
    (match execLoadAccountPage accountsPage with
      | .next t => ((t.point 0).state, (t.slot 0).boundCount, (t.point 1).state, (t.slot 1).boundCount)
      | .fault f => nomatch f
      | .refused _ => (.held, 0, .held, 0)) = (.live, 1, .detached, 0) := by decide +kernel

/-- The QUARANTINE entries of a damaged page join behind the entries that are there, in ascending slot order (R187). -/
theorem test_damaged_page_attention_list :
    (match execLoadAccountPage { loadingAt 1 .damaged with
        engine := { State.reset.engine with attention := [{ slot := 9, reasons := { low := true } }] } } with
      | .next t => t.engine.attention.map fun e => e.slot
      | .fault f => nomatch f
      | .refused _ => []) = [9, 8, 10, 11, 12, 13, 14, 15] := by decide +kernel

/-- A binding cleared by the last page, with PFW_N asserted: page 8 is reported, and the entry to HOLDUP adds the pages left. -/
theorem test_witness_AccountPagesLoadByClass_holdup :
    (match execLoadAccountPage { loadingAt 7 .erased with
        run := { State.reset.run with runState := .loading, loadPage := 7, pfwAsserted := true }
        points := { State.reset.points with
          points := State.reset.points.points.set 0 { binding := some 63, state := .held } }
        commit := { State.reset.commit with dirty := State.reset.commit.dirty.set 2 (some { urgent := false, age := 5 }) } } with
      | .next t => (t.run.runState, (t.slot 63).status, t.commit.eligible)
      | .fault f => nomatch f
      | .refused _ => (.run, .free, [])) = (.holdup, .free, [8, 2]) := by decide +kernel

/-- A stored record with number 1234 and the status given. -/
def storedAs (status : Byte) : StoredAccount :=
  { number := 0x1234, status, sign := 0x80, balance := 0x60, ec := 0x50, low := 0x30, tariff := 7 }

/-- The defaults, with point 0 bound to a slot by number. -/
def boundDefaults (slot : Byte) : StoredSettings :=
  { defaultSettings with points := defaultSettings.points.set 0 { defaultSettings.points[0] with binding := some slot } }

theorem test_witness_StoredRecordLoadsOrQuarantines :
    (storedAs 0).status = 0 ∧
      ((storedAs 1).status = 1 ∧ (storedAs 1).sound = true ∧ bcdValue 8 (storedAs 1).number.toNat = some 1234 ∧
        (1234 : Nat) ≠ 0 ∧ demo.lookup 1234 = none) ∧
      ((storedAs 2).status = 2 ∧ StoredAccount.sound { storedAs 2 with tariff := 8 } = false ∧
        bcdMended 8 (storedAs 2).number.toNat = 1234 ∧ (demo.lookup 1111).isSome = true) ∧
      (storedAs 3).status = 3 ∧ 3 < (storedAs 4).status.toNat := by decide +kernel

/-- Fields at and past the ends of their ranges. -/
theorem test_witness_StoredRecordLoadsOrQuarantines_ranges :
    ({ (boundDefaults 63) with address := 0x77, enable := 1, maximum := 0x99999999, interval := 255 } : StoredSettings).unusable
        = false ∧
      (boundDefaults 64).unusable = true ∧ ({ defaultSettings with address := 0x78 } : StoredSettings).unusable = true ∧
      ({ defaultSettings with interval := 0 } : StoredSettings).unusable = true ∧
      ({ defaultSettings with maximum := 0xA } : StoredSettings).unusable = true ∧
      (storedAs 1).sound = true ∧ ({ storedAs 1 with tariff := 8 } : StoredAccount).sound = false ∧
      ({ storedAs 1 with balance := 0xA000000000 } : StoredAccount).sound = false ∧
      bcdMended 8 0x9A9 = 909 := by decide +kernel

/-! ### Witnesses: power warning and ticks -/

theorem test_witness_HoldupEntryActsOnEachBlock :
    (demo.run.runState = .run ∧ (demo.commit.dirty[(0 : Fin 9)]).isSome = true) ∧
      (waitingOn { conditions := 2, timeout := 5, remaining := 5 }).proc.executing =
        some { cmd := cmdOf 0x21 [], phase := .waiting { conditions := 2, timeout := 5, remaining := 5 } } ∧
      (handed (cmdOf 0x20 [])).proc.executing = some { cmd := cmdOf 0x20 [], phase := .handed } ∧
      (cmdOf 0x20 []).code ≠ 0x21 ∧ demo.proc.executing = none ∧
      joinedAscending demo.commit.eligible (fun page => (demo.commit.dirty[page]).isSome) = [0, 8] := by decide +kernel

/-- The status and extra A of the result that entry to HOLDUP gives a WAIT for TOPUP_IDLE, by the port's state. -/
def holdupResult (conditionFirst : Bool) (state : PortState) : List (ResultStatus × Word) :=
  match execEntryToHoldup conditionFirst
      { waitingOn { conditions := 8, timeout := 0, remaining := 0 } with port := { demo.port with state } } with
  | .next t => t.proc.results.map fun r => (r.status, r.extraA)
  | .fault f => nomatch f
  | .refused _ => []

/-- A write that the entry abandons meets the WAIT first or after it; a read goes on, and the WAIT ends with HOLDUP. -/
theorem test_witness_HoldupEntryActsOnEachBlock_wait :
    holdupResult true .receive = [(.done, 8)] ∧ holdupResult false .receive = [(.holdup, 0)] ∧
      holdupResult true .sending = [(.holdup, 0)] := by decide +kernel

theorem test_witness_SafeEntryAndReturnToRun :
    let s := { running with run := { running.run with runState := .holdup, pfwAsserted := true } }
    s.run.runState = .holdup ∧ (∀ page : Fin 9, s.commit.dirty[page] = none) ∧ s.commit.phase = .idle ∧
      s.engine.op = .free ∧ s.port.request = none ∧ (∀ p, (s.point p).chargeRequest = false) ∧
      s.timer.sweep ≠ .running ∧ s.port.state ≠ .applying ∧ s.proc.executing = none ∧ demo.run.runState ≠ .holdup ∧
      demo.commit.dirty[(0 : Fin 9)] ≠ none ∧
      State.safeAsserted { s with run := { s.run with runState := .safe } } = true ∧ demo.run.runState ≠ .safe ∧
      s.run.runState ≠ .run := by decide +kernel

theorem test_witness_TickCountsPeriodAndTimeout :
    (demo.operating = true ∧ 1 ≤ demo.timer.remaining) ∧
      (State.timer { demo with timer := { demo.timer with remaining := 1 } }).remaining = 1 ∧
      ((waitingOn { conditions := 2, timeout := 5, remaining := 1 }).operating = true ∧ 1 < demo.timer.remaining ∧
        (waitingOn { conditions := 2, timeout := 5, remaining := 1 }).proc.executing =
          some { cmd := cmdOf 0x21 [], phase := .waiting { conditions := 2, timeout := 5, remaining := 1 } }) := by
  decide +kernel

/-- A WAIT that waits at the tick that brings a boundary. -/
def waitingAtBoundary (w : WaitState) : State := { waitingOn w with timer := { demo.timer with remaining := 1 } }

theorem test_witness_TickCountsPeriodAndTimeout_boundary :
    (∀ w, (waitingAtBoundary w).operating = true ∧ (waitingAtBoundary w).timer.remaining = 1 ∧
        (waitingAtBoundary w).proc.executing = some { cmd := cmdOf 0x21 [], phase := .waiting w }) ∧
      (∀ w conditionFirst, ∃ u, exec (.tick conditionFirst)
        { waitingAtBoundary w with proc := { (waitingAtBoundary w).proc with executing := none } } = .next u) ∧
      (let held := fun (conditions : BitVec 6) =>
        conditions &&& State.conditionsHeld { demo with proc := { demo.proc with periodLatch := true } } = conditions;
      held 32 ∧ ¬held 1) :=
  ⟨fun _ => ⟨rfl, rfl, rfl⟩, fun _ _ => ⟨_, rfl⟩, by decide +kernel⟩

theorem test_witness_TickCountsGraceAndAges :
    (demo.operating = true ∧ (demo.point 1).state = .grace ∧ (demo.point 1).graceRemaining = 1 ∧
        demo.points.deferral = false) ∧
      (State.reset.operating = false) ∧
      (demo.run.runState ≠ .reset ∧ demo.commit.dirty[(8 : Fin 9)] = some { urgent := false, age := 59 } ∧
        59 + 1 = demo.commit.interval ∧ (8 : Fin 9) ∉ demo.commit.eligible) ∧
      demo.commit.dirty[(0 : Fin 9)] = some { urgent := true, age := 3 } := by decide +kernel

theorem test_witness_BoundaryActsByTable :
    let s := fun remaining owed => { demo with timer := { demo.timer with remaining, owed } }
    (∀ n owed, (s n owed).operating = true ∧ NotWaiting (s n owed)) ∧ (s 1 true).timer.remaining = 1 ∧
      (s 1 true).timer.owed = true ∧ (s 0 false).timer.remaining = 0 ∧ (s 0 false).timer.sweep = .idle :=
  ⟨fun _ _ => ⟨rfl, notWaiting_of_none rfl⟩, rfl, rfl, rfl, rfl⟩

theorem test_witness_EndedCountsTakeEffect :
    (demo.operating = true ∧ (demo.point 4).state = .grace ∧ (demo.point 4).graceRemaining = 0) ∧
      (let s := { demo with commit := { demo.commit with interval := 59 } };
      s.commit.dirty[(8 : Fin 9)] = some { urgent := false, age := 59 } ∧ s.commit.interval ≤ 59 ∧
        (8 : Fin 9) ∉ s.commit.eligible) ∧
      (waitingOn { conditions := 2, timeout := 5, remaining := 0 }).proc.executing =
        some { cmd := cmdOf 0x21 [], phase := .waiting { conditions := 2, timeout := 5, remaining := 0 } } := by
  decide +kernel

/-! ### Witnesses: meters and the engine -/

theorem test_witness_LineChangesBecomeUnits :
    State.reset.debouncing = false ∧ demo.debouncing = true ∧ (demo.point 0).config.debounce ≠ .ms0 ∧
      (let full : Point := { binding := some 0, state := .live, line := true, excursion := true, pending := 255 };
      (withPoint 0 full).debouncing = true ∧ ((withPoint 0 full).point 0).excursion = true ∧
        (withPoint 0 full).countsEdges = true ∧
        ((withPoint 0 full).point 0).config.prescale ≤ ((withPoint 0 full).point 0).edgeCounter + 1 ∧
        255 ≤ ((withPoint 0 full).point 0).pending) ∧
      (let rising : Point := { binding := some 0, state := .live, pending := 254, config := { debounce := .ms0 } };
      (withPoint 0 rising).debouncing = true ∧ ((withPoint 0 rising).point 0).config.debounce = .ms0 ∧
        (withPoint 0 rising).countsEdges = true ∧ ((withPoint 0 rising).point 0).line = false ∧
        rising.edgeCounter + 1 = rising.config.prescale) ∧
      ((withPoint 5 { state := .locked }).point 5).state = .locked ∧
      (let stray : Point := { line := true, excursion := true, config := { debounce := .ms0, prescale := 2 } };
      ((withPoint 9 stray).point 9).state = .detached ∧ ((withPoint 9 stray).point 9).config.debounce = .ms0 ∧
        ((withPoint 9 stray).point 9).edgeCounter + 1 < ((withPoint 9 stray).point 9).config.prescale) := by
  decide +kernel

/-- A request of account 1111. -/
def topupOf (amount : Nat) : ApplyRequest := { kind := .topup, number := 1111, amount }

theorem test_witness_GrantFollowsFixedOrder :
    (demo.operating = true ∧ demo.engine.op = .free ∧ demo.port.request = none ∧ (demo.point 0).chargeRequest = true ∧
        (demo.point 0).binding = some 0 ∧ ∀ q, q < (0 : Fin 16) → (demo.point q).chargeRequest = false) ∧
      (withPort { demo.port with request := some (topupOf 5) }).port.request = some (topupOf 5) ∧
      ((∀ q, (running.point q).chargeRequest = false) ∧
        (State.commit { running with commit := { running.commit with phase := .gather 7 } }).phase = .gather 7 ∧
        (∀ page, running.commit.phase ≠ .gather page) ∧
        (State.timer { running with timer := { running.timer with sweep := .running } }).sweep = .running) := by
  decide +kernel

/-- The engine busy with an operation. -/
def busyWith (op : EngineOperation) : State := { demo with engine := { demo.engine with op := .busy op } }

theorem test_witness_ChargeTakesAmountAndUnits :
    ((busyWith (.charge 0 2 0 7)).engine.op = .busy (.charge 0 2 0 7) ∧ NotWaiting (busyWith (.charge 0 2 0 7)) ∧
        2 * 7 ≠ 0 ∧ -9999999999 < ((busyWith (.charge 0 2 0 7)).slot 0).balance) ∧
      (let s := { busyWith (.charge 0 2 0 7) with
        engine := { demo.engine with
          op := .busy (.charge 0 2 0 7), slots := demo.engine.slots.set 0 { payer with balance := -9999999986 } } }
      (s.slot 0).balance - 14 < (-9999999999 : Int) ∧ (-9999999999 : Int) ≤ (s.slot 0).balance) ∧
      ((busyWith (.charge 0 2 0 0)).engine.op = .busy (.charge 0 2 0 0) ∧ NotWaiting (busyWith (.charge 0 2 0 0)) ∧
        2 * 0 = 0 ∧ 0 * 7 = 0 ∧ (busyWith (.charge 0 2 0 0)).points.tally = none) :=
  ⟨⟨rfl, notWaiting_of_none rfl, by decide, by decide +kernel⟩, by decide +kernel, rfl, notWaiting_of_none rfl, rfl, rfl, rfl⟩

/-- An UNBIND's tally takes the units of a CHARGE at price 0, and no amount. -/
theorem test_charge_of_nothing_is_tallied :
    (match execCharge { busyWith (.charge 0 2 0 0) with
        points := { demo.points with tally := some { point := 0, units := 5, amount := 9 } } } with
      | .next t => t.points.tally
      | .fault f => nomatch f
      | .refused _ => none) = some { point := 0, units := 7, amount := 9 } := by decide +kernel

/-- The same CHARGE has a point to tell, and one that takes the level to LOW ends a charge of 80. -/
theorem test_witness_ChargeTakesAmountAndUnits_told :
    (0 < ((busyWith (.charge 0 2 0 40)).slot 0).boundCount ∧ ((busyWith (.charge 0 2 0 40)).point 0).binding = some 0) ∧
      levelOf (payer.balance - 80) payer.low payer.ec ≠ payer.level := by decide +kernel

/-- A CHARGE of a balance at its floor adds LIMIT, and one that clamps an account which was not EXHAUSTED adds both reasons. -/
theorem test_witness_ChargeTakesAmountAndUnits_reasons :
    (let s := { busyWith (.charge 0 2 0 7) with
        engine := { demo.engine with
          op := .busy (.charge 0 2 0 7), slots := demo.engine.slots.set 0 { payer with balance := -9999999999 } } };
      (s.slot 0).balance = -9999999999) ∧
      attentionAfter 0 .exhausted .exhausted true [] = [{ slot := 0, reasons := { limit := true } }] ∧
      attentionAfter 0 .normal .exhausted true [] = [{ slot := 0, reasons := { exhausted := true, limit := true } }] ∧
      attentionAfter 0 .low .normal false [] = [] := by decide +kernel

/-- A rising edge at debounce 0 makes one unit at once. -/
theorem test_edge_at_debounce_0 :
    Point.lineChanged true true { binding := some 0, state := .live, pending := 254, config := { debounce := .ms0 } } =
      { binding := some 0, state := .live, pending := 255, line := true, debounced := true,
        config := { debounce := .ms0 } } := by decide

theorem test_witness_StandingPaysAndMovesSweep :
    let s := { busyWith (.standing 0 11) with timer := { demo.timer with sweep := .running } }
    let u := { busyWith (.standing 63 11) with timer := { demo.timer with sweep := .running, cursor := 63, owed := true } }
    (s.engine.op = .busy (.standing 0 11) ∧ s.timer.cursor = 0 ∧ NotWaiting s ∧ (s.slot 0).status.listed = true ∧
        1 ≤ (s.slot 0).boundCount ∧ -9999999999 < (s.slot 0).balance ∧ s.warned = false ∧
        State.warned { s with run := { s.run with runState := .safe } } = true) ∧
      (u.engine.op = .busy (.standing 63 11) ∧ u.timer.cursor = 63 ∧ u.timer.owed = true ∧ u.warned = false) :=
  ⟨⟨rfl, rfl, notWaiting_of_none rfl, by decide +kernel, by decide +kernel, by decide +kernel, rfl, rfl⟩, rfl, rfl, rfl, rfl⟩

theorem test_witness_ApplyAnswersKiosk :
    (NotWaiting (busyWith (.applyFrame (topupOf 9999999899) true)) ∧ demo.lookup 1111 = some 0 ∧
        (demo.slot 0).status ≠ .suspended ∧ (demo.slot 0).balance + 9999999899 ≤ 9999999999) ∧
      9999999999 < (demo.slot 0).balance + 9999999900 ∧ demo.lookup 4444 = none ∧ demo.lookup 2222 = some 1 ∧
      (demo.slot 1).status = .suspended :=
  ⟨⟨notWaiting_of_none rfl, by decide +kernel, by decide +kernel, by decide +kernel⟩, by decide +kernel, by decide +kernel,
    by decide +kernel, by decide +kernel⟩

theorem test_witness_NoticeMovesPointByTable :
    Point.notified false .active .exhausted (demo.point 0) =
        { demo.point 0 with
          view := some (.active, .exhausted), state := .grace, graceRemaining := 300, flags := { grace := true } } ∧
      Point.notified false .quarantined .low { demo.point 2 with graceRemaining := 5 } =
        { demo.point 2 with graceRemaining := 5 } ∧
      Point.notified true .suspended .low { demo.point 1 with flags := { grace := true } } =
        { demo.point 1 with
          view := some (.suspended, .low), state := .held, graceRemaining := 0, flags := { grace := true } } ∧
      (Point.notified false .active .exhausted { demo.point 0 with config := { grace := 0 } }).state = .cut ∧
      (Point.notified false .active .low { demo.point 3 with config := { restore := .onCommand } }).state = .awaiting ∧
      (Point.notified false .suspended .low (demo.point 3)).state = .held ∧
      (demo.supplyOn 0 = true ∧ demo.supplyOn 1 = true ∧ demo.supplyOn 3 = false) := by decide +kernel

theorem test_witness_LevelAndReasonOfChange :
    levelOf 31 30 50 = .normal ∧ levelOf 30 30 50 = .low ∧ levelOf 0 30 50 = .low ∧ levelOf (-1) 30 50 = .emergency ∧
      levelOf (-50) 30 50 = .emergency ∧ levelOf (-51) 30 50 = .exhausted ∧
      (∀ e ∈ [({ slot := 2, reasons := { low := true } } : AttentionEntry)], e.slot ≠ 1) := by decide

/-! ### Witnesses: the command queue -/

/-- The command queue and the results given. -/
def queued (queue : List QueuedCommand) (results : Nat) : State :=
  { running with proc := { running.proc with
    queue, results := List.replicate results (plainResult (cmdOf 0x06 []) .done) } }

theorem test_witness_QueueSubmitStartPop :
    (running.run.runState ≠ .reset ∧ (queued (List.replicate 31 (cmdOf 0x06 [])) 0).proc.queue.length < 32 ∧
        32 ≤ (queued (List.replicate 32 (cmdOf 0x06 [])) 0).proc.queue.length) ∧
      (let s := queued [cmdOf 0x06 []] 15;
      s.proc.queue = cmdOf 0x06 [] :: [] ∧ s.run.runState = .run ∧ s.proc.executing = none ∧
        s.proc.results.length < 16) ∧
      16 ≤ (queued [cmdOf 0x06 []] 16).proc.results.length ∧ running.proc.results = [] ∧
      ((cmdOf 0x10 [15]).code = 0x10 ∧ pointField (cmdOf 0x10 [15]).params[0] = some 15 ∧
        (demo.point 15).state = .detached ∧ (demo.point 0).state ≠ .detached ∧
        pointField (cmdOf 0x10 [16]).params[0] = none) := by decide +kernel

/-- A BIND of a DETACHED point requests its operation at its start; one of a bound point is handed over (R67). -/
theorem test_bind_start_phase :
    demo.startPhase (cmdOf 0x10 [15, 0x1111]) = .requested ∧ demo.startPhase (cmdOf 0x10 [0, 0x1111]) = .handed ∧
      demo.startPhase (cmdOf 0x10 [16, 0x1111]) = .handed := by decide +kernel

theorem test_witness_UnknownCodeIsBadCommand :
    (let s := queued [cmdOf 0x23 []] 15;
      0x23 ≤ (cmdOf 0x23 []).code.toNat ∧ s.proc.queue = cmdOf 0x23 [] :: [] ∧ s.run.runState = .run ∧
        s.proc.executing = none ∧ s.proc.results.length < 16) ∧
      (cmdOf 0x00 []).code.toNat ∈ [0x00, 0x0F, 0x17, 0x1B, 0x1E, 0x1F] ∧
      (handed (cmdOf 0x00 [])).proc.executing = some { cmd := cmdOf 0x00 [], phase := .handed } ∧
      ¬((cmdOf 0x22 []).code.toNat ∈ [0x00, 0x0F, 0x17, 0x1B, 0x1E, 0x1F] ∨ 0x23 ≤ (cmdOf 0x22 []).code.toNat) := by
  decide +kernel

theorem test_witness_PurgeAndPortResetEmptyQueues :
    demo.run.runState ≠ .reset ∧ ((1 : Word).getLsbD 0 = true ∧ (1 : Word).getLsbD 1 = false) ∧
      (3 : Word).getLsbD 1 = true ∧
      (waitingOn { conditions := 2, timeout := 0, remaining := 0 }).proc.executing =
        some { cmd := cmdOf 0x21 [], phase := .waiting { conditions := 2, timeout := 0, remaining := 0 } } ∧
      demo.proc.executing = none ∧ (cmdOf 0x20 []).code ≠ 0x21 ∧
      (busyWith (.charge 0 2 0 7)).engine.op = .busy (.charge 0 2 0 7) ∧
      (busyWith (.gather 7)).engine.op = .busy (.gather 7) ∧
      (busyWith (.standing 63 11)).engine.op = .busy (.standing 63 11) := by decide +kernel

/-- A CREDIT of 1 to 1111 that a PORT RESET has abandoned. -/
def abandonedCredit (executing : Option Execution) : State :=
  { busyWith (.command (cmdOf 0x03 [0x1111, 0, 1]) false) with proc := { demo.proc with executing } }

/-- Its operation completes and credits the account, with no result; the WAIT that executes by then waits on. -/
theorem test_witness_PurgeAndPortResetEmptyQueues_abandoned :
    (abandonedCredit none).engine.op = .busy (.command (cmdOf 0x03 [0x1111, 0, 1]) false) ∧
      NotWaiting (abandonedCredit none) ∧
      (let w : Option Execution := some { cmd := cmdOf 0x21 [1], phase := .waiting { conditions := 1, timeout := 0, remaining := 0 } };
      match execCredit (abandonedCredit w) with
        | .next t => ((t.slot 0).balance, t.proc.executing, t.proc.results)
        | .fault f => nomatch f
        | .refused _ => (0, none, [])) =
        (101, some { cmd := cmdOf 0x21 [1], phase := .waiting { conditions := 1, timeout := 0, remaining := 0 } }, []) :=
  ⟨rfl, notWaiting_of_none rfl, by decide +kernel⟩

theorem test_witness_WaitAndMarkAct :
    (Handed (handed (cmdOf 0x21 [63, 65535])) 0x21 (cmdOf 0x21 [63, 65535]) ∧
        BitVec.ofNat 6 63 &&& (handed (cmdOf 0x21 [63, 65535])).conditionsHeld ≠ BitVec.ofNat 6 63) ∧
      (Handed (handed (cmdOf 0x21 [64])) 0x21 (cmdOf 0x21 [64]) ∧ 64 ≤ (cmdOf 0x21 [64]).params[0].toNat % 256) ∧
      (BitVec.ofNat 6 0 &&& (handed (cmdOf 0x21 [])).conditionsHeld = BitVec.ofNat 6 0) ∧ Nat.testBit 32 5 = true ∧
      Nat.testBit 31 5 = false ∧ Handed (handed (cmdOf 0x22 [10])) 0x22 (cmdOf 0x22 [10]) :=
  ⟨⟨⟨rfl, rfl⟩, by decide +kernel⟩, ⟨⟨rfl, rfl⟩, by decide +kernel⟩, by decide +kernel, by decide, by decide, ⟨rfl, rfl⟩⟩

/-- After a load of an empty array every condition holds but NEXT_PERIOD. -/
theorem test_conditions_after_load : running.conditionsHeld = 31 := by decide +kernel

/-- The end of page 8's commit, with a WAIT for COMMIT_CLEAN (clean) or for an empty attention list as well. -/
def waitingForCommit (conditions : BitVec 6) (attention : List AttentionEntry) : State :=
  { running with
    engine := { running.engine with attention }
    commit := { running.commit with phase := .verify 8, snapshot := some (.settings defaultSettings) }
    nv := running.nv.set 8 (.good (.settings defaultSettings))
    proc := (waitingOn { conditions, timeout := 9, remaining := 4 }).proc }

theorem test_witness_WaitAndMarkAct_retested :
    (∀ conditions attention, ∃ u, exec .verifyComplete
        { waitingForCommit conditions attention with
          proc := { (waitingForCommit conditions attention).proc with executing := none } } = .next u) ∧
      (1#6 &&& (waitingForCommit 1 []).conditionsHeld ≠ 1#6 ∧
        1#6 &&& State.conditionsHeld { waitingForCommit 1 [] with commit := running.commit } = 1#6) ∧
      (17#6 &&& (waitingForCommit 17 [{ slot := 0, reasons := { low := true } }]).conditionsHeld ≠ 17#6 ∧
        17#6 &&& State.conditionsHeld { waitingForCommit 17 [{ slot := 0, reasons := { low := true } }] with
          commit := running.commit } ≠ 17#6) ∧
      (handed (cmdOf 0x21 [63, 9])).run.runState = .run ∧ (∃ u, exec .wait (handed (cmdOf 0x21 [63, 9])) = .next u) ∧
      (1 : Word).getLsbD 0 = true ∧ (1 : Word).getLsbD 1 = false :=
  ⟨fun _ _ => ⟨_, rfl⟩, by decide +kernel, by decide +kernel, rfl, ⟨_, rfl⟩, by decide, by decide⟩

/-- The end of the commit ends the WAIT for COMMIT_CLEAN with DONE. -/
theorem test_commit_end_completes_wait :
    (match execVerifyComplete (waitingForCommit 1 []) with
      | .next t => t.proc.results.map fun r => (r.status, r.extraA, r.extraB)
      | .fault f => nomatch f
      | .refused _ => []) = [(.done, 1, 4)] := by decide +kernel

/-! ### Witnesses: account commands -/

theorem test_witness_NumberRefusalsChangeNothing :
    (Granted (granted (cmdOf 0x06 [0xA])) 0x06 (cmdOf 0x06 [0xA]) ∧ digits8 (cmdOf 0x06 [0xA]).params[0] = none) ∧
      digits8 (cmdOf 0x06 [0x4444]).params[0] = some 4444 ∧ (granted (cmdOf 0x06 [0x4444])).lookup 4444 = none :=
  ⟨⟨⟨rfl, rfl⟩, by decide +kernel⟩, by decide +kernel, by decide +kernel⟩

/-- Fields at the ends of their ranges, for the commands with more fields than a number. -/
theorem test_witness_NumberRefusalsChangeNothing_fields :
    (let c := cmdOf 0x03 [0x4444, 0xA, 0];
      digits8 c.params[0] = some 4444 ∧ amountPair c.params[1] c.params[2] = none) ∧
      (let c := cmdOf 0x04 [0x4444, 0, 1, 2];
      amountPair c.params[1] c.params[2] = some 1 ∧ 2 ≤ bits c.params[3] 0 8) ∧
      (let c := cmdOf 0x09 [0x4444, 7, 8, 0xA, 0xA];
      (∀ i, i < 3 → c.params[1].getLsbD i = true) ∧ ¬8 ≤ bits c.params[1] 0 8 ∧ 8 ≤ bits c.params[2] 0 8 ∧
        digits8 c.params[3] = none) ∧
      (let c := cmdOf 0x09 [0x4444, 8];
      8 ≤ bits c.params[1] 0 8) ∧
      (digits8 (cmdOf 0x01 [0]).params[0] = some 0 ∧ 8 ≤ bits (cmdOf 0x01 [1, 8]).params[1] 0 8) ∧
      (4 ≤ bits (cmdOf 0x08 [0, 0, 0, 4]).params[3] 0 8 ∧ 16 ≤ bits (cmdOf 0x08 [0, 0, 0, 0, 16]).params[4] 0 8) ∧
      (bits (repairOf 64 1).params[0] 0 8 = 64 ∧ bits (cmdOf 0x0C [0, 1, 0, 0, 0, 0, 0x0300]).params[6] 8 8 = 3) ∧
      64 ≤ bits (cmdOf 0x0D [64]).params[0] 0 8 ∧ 16 ≤ bits (cmdOf 0x13 [16]).params[0] 0 8 := by decide +kernel

/-- OPEN of 4444 with tariff 7, EC 50, L 30 and an opening amount. -/
def opening (amount : Word) : QueuedCommand := cmdOf 0x01 [0x4444, 7, 0x50, 0x30, 0, amount]

theorem test_witness_OpenTakesLowestFreeSlot :
    Granted (granted (opening 0x30)) 0x01 (opening 0x30) ∧
      (digits8 (opening 0x30).params[0] = some 4444 ∧ tariffIndex (lowByte (opening 0x30).params[1]) = some 7 ∧
        digits8 (opening 0x30).params[2] = some 50 ∧ digits8 (opening 0x30).params[3] = some 30 ∧
        amountPair (opening 0x30).params[4] (opening 0x30).params[5] = some 30 ∧
        (granted (opening 0x30)).lookup 4444 = none ∧ ((granted (opening 0x30)).slot 4).status = .free ∧
        ∀ i, i < (4 : Fin 64) → ((granted (opening 0x30)).slot i).status ≠ .free) ∧
      amountPair (opening 0x31).params[4] (opening 0x31).params[5] = some 31 ∧ demo.lookup 3333 = some 3 ∧
      (let s := { granted (opening 0) with
        engine := { (granted (opening 0)).engine with slots := Vector.replicate 64 doubtful } }
      ∀ i, (s.slot i).status ≠ .free) :=
  ⟨⟨rfl, rfl⟩, by decide +kernel, by decide +kernel, by decide +kernel, by decide +kernel⟩

theorem test_witness_CloseFreesUnboundSlot :
    Granted (granted (cmdOf 0x02 [0x2222])) 0x02 (cmdOf 0x02 [0x2222]) ∧
      digits8 (cmdOf 0x02 [0x2222]).params[0] = some 2222 ∧ (granted (cmdOf 0x02 [0x2222])).lookup 2222 = some 1 ∧
      (demo.slot 1).boundCount = 0 ∧ demo.lookup 1111 = some 0 ∧ 0 < (demo.slot 0).boundCount :=
  ⟨⟨rfl, rfl⟩, by decide +kernel, by decide +kernel, by decide +kernel, by decide +kernel, by decide +kernel⟩

theorem test_witness_CreditAndDebitMoveBalance :
    (let cmd := cmdOf 0x03 [0x1111, 0x99, 0x99999899];
      Granted (granted cmd) 0x03 cmd ∧ digits8 cmd.params[0] = some 1111 ∧
        amountPair cmd.params[1] cmd.params[2] = some 9999999899 ∧ (granted cmd).lookup 1111 = some 0 ∧
        ((granted cmd).slot 0).balance + 9999999899 ≤ 9999999999 ∧
        9999999999 < ((granted cmd).slot 0).balance + 9999999900) ∧
      (let cmd := cmdOf 0x04 [0x1111, 0, 0x150, 0];
      Granted (granted cmd) 0x04 cmd ∧ amountPair cmd.params[1] cmd.params[2] = some 150 ∧
        forceField cmd.params[3] = some false ∧
        -(((granted cmd).slot 0).ec : Int) ≤ ((granted cmd).slot 0).balance - 150 ∧
        ((granted cmd).slot 0).balance - 151 < -(((granted cmd).slot 0).ec : Int)) ∧
      ((demo.slot 3).level = .exhausted ∧ levelOf ((demo.slot 3).balance + 10) 30 50 ≠ .exhausted) ∧
      forceField 1 = some true ∧ amountPair 0 0 = some 0 :=
  ⟨⟨⟨rfl, rfl⟩, by decide +kernel, by decide +kernel, by decide +kernel, by decide +kernel, by decide +kernel⟩,
    ⟨⟨rfl, rfl⟩, by decide +kernel, by decide +kernel, by decide +kernel, by decide +kernel⟩, by decide +kernel,
    by decide +kernel, by decide +kernel⟩

/-- TRANSFER from 1111 to the number given. -/
def transferTo (destination amount force : Word) : QueuedCommand := cmdOf 0x05 [0x1111, destination, 0, amount, force]

theorem test_witness_TransferMovesAmount :
    Granted (granted (transferTo 0x3333 0x150 0)) 0x05 (transferTo 0x3333 0x150 0) ∧
      (transferFields (transferTo 0x3333 0x150 0).params =
          some { source := 1111, destination := 3333, amount := 150, force := false } ∧
        demo.lookup 1111 = some 0 ∧ demo.lookup 3333 = some 3 ∧ (0 : Fin 64) ≠ 3 ∧
        -((demo.slot 0).ec : Int) ≤ (demo.slot 0).balance - 150 ∧
        (demo.slot 0).balance - 151 < -((demo.slot 0).ec : Int) ∧ (demo.slot 3).balance + 150 ≤ 9999999999) ∧
      (transferFields (transferTo 0x3333 0x150 2).params = none ∧
        transferFields (transferTo 0x1111 0x150 1).params =
          some { source := 1111, destination := 1111, amount := 150, force := true } ∧
        transferFields (transferTo 0x4444 0x150 1).params =
          some { source := 1111, destination := 4444, amount := 150, force := true } ∧
        demo.lookup 4444 = none) ∧
      (transferFields (transferTo 0x3333 0 0).params =
          some { source := 1111, destination := 3333, amount := 0, force := false } ∧
        -((demo.slot 0).ec : Int) ≤ (demo.slot 0).balance ∧ (demo.slot 3).balance ≤ 9999999999) ∧
      (let s := { demo with engine := { demo.engine with
        slots := (demo.engine.slots.set 3 { debtor with balance := 9999999850, level := .normal }).set 0
          { payer with balance := -9999999850, level := .exhausted } } }
      9999999999 < (s.slot 3).balance + 150 ∧ (s.slot 0).balance - 150 < -9999999999) :=
  ⟨⟨rfl, rfl⟩, by decide +kernel, by decide +kernel, by decide +kernel, by decide +kernel⟩

/-- The eligible list after the operation of a command on the state given, with nothing dirty before it. -/
def eligibleAfter (c : State → Host.Outcome State Fault Refusal) (s : State) : List (Fin 9) :=
  match c { s with commit := running.commit } with
  | .next t => t.commit.eligible
  | .fault f => nomatch f
  | .refused _ => []

/-- A TRANSFER from slot 9 to slot 3 reports page 1, the source's, before page 0; one within a page reports it once; a DISCARD
reports its slot's page before page 8 (log entry 17). -/
theorem test_reports_in_order :
    eligibleAfter execTransfer { granted (transferTo 0x3333 0x150 0) with
        engine := { (granted (transferTo 0x3333 0x150 0)).engine with
          slots := demo.engine.slots.set 9 payer
          directory := [{ number := 1111, slot := 9 }, { number := 3333, slot := 3 }] } } = [1, 0] ∧
      eligibleAfter execTransfer (granted (transferTo 0x3333 0x150 0)) = [0] ∧
      eligibleAfter execDiscard (granted (cmdOf 0x0D [2])) = [0, 8] := by decide +kernel

/-- The manual's scan of the second wing: the mask selects digits 1 and 2, and 30000001 fails at the first (section 6.4). -/
theorem test_scan_mask :
    digitsMatch 0xC0 21000000 21040207 = true ∧ digitsMatch 0xC0 21000000 30000001 = false ∧
      digitsMatch 0x01 21000000 21040207 = false := by decide

/-- SCAN of every ACTIVE account from a position. -/
def scanFrom (start : Word) : QueuedCommand := cmdOf 0x08 [start, 0, 0, 1, 15]

theorem test_witness_ReadingCommandsAnswer :
    (Granted (granted (cmdOf 0x07 [63])) 0x07 (cmdOf 0x07 [63]) ∧ (cmdOf 0x07 [63]).params[0].toNat % 256 = (63 : Fin 64).val ∧
        64 ≤ (cmdOf 0x07 [64]).params[0].toNat % 256) ∧
      (Granted (granted (scanFrom 1)) 0x08 (scanFrom 1) ∧
        scanFields (scanFrom 1).params = some { start := 1, mask := 0, pattern := 0, statuses := 1, levels := 15 } ∧
        State.scanMatches demo { start := 1, mask := 0, pattern := 0, statuses := 1, levels := 15 }
          { number := 3333, slot := 3 } = true ∧
        State.scanMatches demo { start := 1, mask := 0, pattern := 0, statuses := 1, levels := 15 }
          { number := 2222, slot := 1 } = false) ∧
      (Granted (granted (cmdOf 0x0E [])) 0x0E (cmdOf 0x0E []) ∧ (granted (cmdOf 0x0E [])).engine.attention = []) :=
  ⟨⟨⟨rfl, rfl⟩, by decide +kernel, by decide +kernel⟩,
    ⟨⟨rfl, rfl⟩, by decide +kernel, by decide +kernel, by decide +kernel⟩, ⟨rfl, rfl⟩, rfl⟩

/-- AMEND of 1111's L. -/
def amendLow (low : Word) : QueuedCommand := cmdOf 0x09 [0x1111, 4, 0, 0, low]

theorem test_witness_AmendWritesSelectedFields :
    Granted (granted (amendLow 0x100)) 0x09 (amendLow 0x100) ∧
      amendFields (amendLow 0x100).params = some { number := 1111, tariff := none, ec := none, low := some 100 } ∧
      amendFields (amendLow 0x30).params = some { number := 1111, tariff := none, ec := none, low := some 30 } ∧
      demo.lookup 1111 = some 0 ∧ (demo.slot 0).low = 30 :=
  ⟨⟨rfl, rfl⟩, by decide +kernel, by decide +kernel, by decide +kernel, by decide +kernel⟩

/-- The staged words of AMEND and REPAIR reach the fields. -/
theorem test_witness_staged_fields :
    amendFields (cmdOf 0x09 [0x1111, 7, 6, 0x50, 0x30]).params =
        some { number := 1111, tariff := some 6, ec := some 50, low := some 30 } ∧
      repairFields (repairOf 2 0x7777).params =
        some { slot := 2, number := 7777, balance := -60, ec := 50, low := 30, tariff := 7, status := .suspended } := by
  decide +kernel

theorem test_witness_SuspendAndResumeSetStatus :
    Granted (granted (cmdOf 0x0A [0x1111])) 0x0A (cmdOf 0x0A [0x1111]) ∧
      Granted (granted (cmdOf 0x0B [0x2222])) 0x0B (cmdOf 0x0B [0x2222]) ∧
      ((demo.slot 0).status ≠ .suspended ∧
        (demo.slot 0).level = levelOf (demo.slot 0).balance (demo.slot 0).low (demo.slot 0).ec ∧
        0 < (demo.slot 0).boundCount ∧ (demo.point 0).binding = some 0) ∧
      (demo.slot 1).status = .suspended :=
  ⟨⟨rfl, rfl⟩, ⟨rfl, rfl⟩, by decide +kernel, by decide +kernel⟩

theorem test_witness_RepairAndDiscardEndQuarantine :
    (Granted (granted (repairOf 2 0x5555)) 0x0C (repairOf 2 0x5555) ∧
        repairFields (repairOf 2 0x5555).params =
          some { slot := 2, number := 5555, balance := -60, ec := 50, low := 30, tariff := 7, status := .suspended } ∧
        (demo.slot 2).status = .quarantined ∧ demo.lookup 5555 = none ∧ 0 < (demo.slot 2).boundCount ∧
        (demo.point 2).binding = some 2 ∧ (demo.slot 1).status ≠ .quarantined ∧ demo.lookup 1111 = some 0) ∧
      (Granted (granted (cmdOf 0x0D [2])) 0x0D (cmdOf 0x0D [2]) ∧ slotField (cmdOf 0x0D [2]).params[0] = some 2) :=
  ⟨⟨⟨rfl, rfl⟩, by decide +kernel⟩, ⟨rfl, rfl⟩, by decide +kernel⟩

/-! ### Witnesses: point commands and settings -/

theorem test_witness_BindAttachesOrRefuses :
    (Granted (granted (cmdOf 0x10 [15, 0x1111])) 0x10 (cmdOf 0x10 [15, 0x1111]) ∧
        pointField (cmdOf 0x10 [15, 0x1111]).params[0] = some 15 ∧ (demo.point 15).state = .detached ∧
        digits8 (cmdOf 0x10 [15, 0x1111]).params[1] = some 1111 ∧ demo.lookup 1111 = some 0 ∧
        (demo.slot 1).status = .suspended ∧ (demo.slot 3).level = .exhausted) ∧
      (digits8 (cmdOf 0x10 [15, 0xF]).params[1] = none ∧ demo.lookup 4444 = none) ∧
      (Handed (handed (cmdOf 0x10 [16])) 0x10 (cmdOf 0x10 [16]) ∧ pointField (cmdOf 0x10 [16]).params[0] = none ∧
        (handed (cmdOf 0x10 [16])).engine.op = .free) ∧
      (pointField (cmdOf 0x10 [0]).params[0] = some 0 ∧ (demo.point 0).state ≠ .detached) :=
  ⟨⟨⟨rfl, rfl⟩, by decide +kernel⟩, by decide +kernel, ⟨⟨rfl, rfl⟩, by decide +kernel, rfl⟩, by decide +kernel⟩

theorem test_witness_UnbindTalliesThenDetaches :
    (Handed (handed (cmdOf 0x11 [0])) 0x11 (cmdOf 0x11 [0]) ∧ pointField (cmdOf 0x11 [0]).params[0] = some 0 ∧
        pointField (cmdOf 0x11 [255]).params[0] = none ∧ (demo.point 15).state = .detached) ∧
      (let s := { granted (cmdOf 0x11 [0]) with points := { demo.points with
        tally := some { point := 0, units := 65536, amount := 9999999999 } } }
      Granted s 0x11 (cmdOf 0x11 [0]) ∧ (s.point 0).state ≠ .detached ∧ (s.point 0).binding = some 0 ∧
        s.points.tally = some { point := 0, units := 65536, amount := 9999999999 }) :=
  ⟨⟨⟨rfl, rfl⟩, by decide +kernel⟩, ⟨rfl, rfl⟩, by decide +kernel⟩

/-- CONFIGURE_POINT of point 3 with the word of codes given. -/
def configure (codes : Word) : QueuedCommand := cmdOf 0x12 [3, codes, 65535]

theorem test_witness_ConfigureWritesAndQueryReads :
    (Handed (handed (configure 0x01031002)) 0x12 (configure 0x01031002) ∧
        (let w := (configure 0x01031002).params[1];
        bits w 0 8 ≤ 2 ∧ 1 ≤ bits w 8 8 ∧ bits w 8 8 ≤ 16 ∧ bits w 16 8 ≤ 3 ∧ bits w 24 8 ≤ 1) ∧
        pointField (configure 0x01031002).params[0] = some 3) ∧
      (¬bits (configure 0x01031102).params[1] 8 8 ≤ 16 ∧ ¬1 ≤ bits (configure 0x01030002).params[1] 8 8) ∧
      Handed (handed (cmdOf 0x15 [16])) 0x15 (cmdOf 0x15 [16]) ∧ pointField (cmdOf 0x15 [16]).params[0] = none :=
  ⟨⟨⟨rfl, rfl⟩, by decide +kernel⟩, by decide +kernel, ⟨rfl, rfl⟩, by decide +kernel⟩

theorem test_witness_HoldReleaseAndDeferAct :
    (Handed (handed (cmdOf 0x13 [1])) 0x13 (cmdOf 0x13 [1]) ∧ pointField (cmdOf 0x13 [1]).params[0] = some 1 ∧
        (demo.point 1).state ≠ .detached ∧ (demo.point 15).state = .detached) ∧
      (Handed (handed (cmdOf 0x14 [2])) 0x14 (cmdOf 0x14 [2]) ∧ (demo.point 2).state = .held ∧
        ∀ level, (demo.point 2).view ≠ some (.active, level)) ∧
      (let s := withPoint 3 { demo.point 3 with state := .locked };
      (s.point 3).state = .locked ∧ (s.point 3).view = some (.active, .exhausted)) ∧
      (let s := withPoint 3 { demo.point 3 with state := .awaiting, view := some (.active, .emergency) };
      (s.point 3).state = .awaiting ∧ (s.point 3).view = some (.active, .emergency)) ∧
      (Handed (handed (cmdOf 0x16 [0])) 0x16 (cmdOf 0x16 [0]) ∧ lowByte (cmdOf 0x16 [0]).params[0] = 0 ∧
        lowByte (cmdOf 0x16 [1]).params[0] = 1 ∧ 1 < lowByte (cmdOf 0x16 [2]).params[0]) :=
  ⟨⟨⟨rfl, rfl⟩, by decide +kernel⟩, ⟨⟨rfl, rfl⟩, by decide +kernel, fun level => by cases level <;> decide +kernel⟩,
    by decide +kernel, by decide +kernel, ⟨rfl, rfl⟩, by decide +kernel⟩

theorem test_witness_SettingsCommandsWriteFields :
    (Handed (handed (cmdOf 0x18 [7, 0x999999, 0, 1])) 0x18 (cmdOf 0x18 [7, 0x999999, 0, 1]) ∧
        tariffIndex (lowByte (7 : Word)) = some 7 ∧ tariffIndex (lowByte (8 : Word)) = none ∧
        digits6 0x999999 = some 999999 ∧ digits6 0xA = none) ∧
      (Handed (handed (cmdOf 0x19 [1])) 0x19 (cmdOf 0x19 [1]) ∧ lowByte (1 : Word) = 1 ∧ 1 < lowByte (2 : Word)) ∧
      (Handed (handed (cmdOf 0x1A [60])) 0x1A (cmdOf 0x1A [60]) ∧ 60 ≤ (60 : Word).toNat ∧ (86400 : Word).toNat ≤ 86400 ∧
        ¬(86401 : Word).toNat ≤ 86400) ∧
      (Handed (handed (cmdOf 0x1C [0x7701, 0x99999999])) 0x1C (cmdOf 0x1C [0x7701, 0x99999999]) ∧
        bits (0x7701 : Word) 0 8 ≤ 1 ∧ 0x08 ≤ bits (0x7701 : Word) 8 8 ∧ bits (0x7701 : Word) 8 8 ≤ 0x77 ∧
        digits8 0x99999999 = some 99999999 ∧ 0x77 < bits (0x7801 : Word) 8 8) ∧
      (Handed (handed (cmdOf 0x1D [59])) 0x1D (cmdOf 0x1D [59]) ∧ 1 ≤ (59 : Word).toNat ∧ (255 : Word).toNat ≤ 255 ∧
        demo.commit.dirty[(8 : Fin 9)] = some { urgent := false, age := 59 } ∧ ¬(256 : Word).toNat ≤ 255 ∧
        (8 : Fin 9) ∉ demo.commit.eligible) :=
  ⟨⟨⟨rfl, rfl⟩, by decide +kernel⟩, ⟨⟨rfl, rfl⟩, by decide +kernel⟩, ⟨⟨rfl, rfl⟩, by decide +kernel⟩,
    ⟨⟨rfl, rfl⟩, by decide +kernel⟩, ⟨rfl, rfl⟩, by decide +kernel⟩

/-! ### Witnesses: commits -/

/-- The Commit Engine in a phase, with page 8's settings as the snapshot. -/
def committing (phase : CommitPhase) : State :=
  { demo with commit := { demo.commit with phase, snapshot := some (.settings defaultSettings) } }

theorem test_witness_CommitMakesDirtyPagesUrgent :
    Handed (handed (cmdOf 0x20 [])) 0x20 (cmdOf 0x20 []) ∧
      (handed (cmdOf 0x20 [])).commit.dirty[(0 : Fin 9)] ≠ none ∧
      (let s := { running with proc := { running.proc with
        executing := some { cmd := cmdOf 0x20 [], phase := .handed } } }
      Handed s 0x20 (cmdOf 0x20 []) ∧ (∀ page : Fin 9, s.commit.dirty[page] = none) ∧ s.commit.phase.inFlight = none) ∧
      (committing (.erase 5)).commit.phase.inFlight ≠ none :=
  ⟨⟨rfl, rfl⟩, by decide +kernel, ⟨⟨rfl, rfl⟩, by decide +kernel, rfl⟩, by decide +kernel⟩

theorem test_witness_CommitStepsWritePage :
    (demo.operating = true ∧ demo.commit.phase = .idle ∧ demo.commit.eligible = (0 : Fin 9) :: [] ∧ (0 : Fin 9) ≠ 8 ∧
        (State.commit { demo with commit := { demo.commit with eligible := [8] } }).eligible = (8 : Fin 9) :: []) ∧
      ((busyWith (.gather (7 : Fin 8).castSucc)).engine.op = .busy (.gather (7 : Fin 8).castSucc) ∧
        NotWaiting (busyWith (.gather (7 : Fin 8).castSucc))) ∧
      (committing (.erase 8)).commit.phase = .erase 8 ∧ (committing (.program 8)).commit.phase = .program 8 ∧
      (committing (.program 8)).commit.snapshot = some (.settings defaultSettings) :=
  ⟨by decide +kernel, ⟨rfl, notWaiting_of_none rfl⟩, rfl, rfl, rfl⟩

theorem test_witness_VerifyEndsOrRetriesCommit :
    (let s := { committing (.verify 8) with nv := demo.nv.set 8 (.good (.settings defaultSettings)) };
      s.commit.phase = .verify 8 ∧ s.commit.snapshot = some (.settings defaultSettings) ∧
        s.nv[(8 : Fin 9)] = .good (.settings defaultSettings) ∧ s.commit.wanted = none ∧ s.proc.executing = none) ∧
      ((committing (.verify 8)).nv[(8 : Fin 9)] ≠ .good (.settings defaultSettings) ∧
        (committing (.verify 8)).commit.retried = false) ∧
      (let w : WantedMarks := { pages := 0x101, failed := 1, awaiting := pageBit 8, flight := false };
      let s := { committing (.verify 8) with
        proc := { demo.proc with executing := some { cmd := cmdOf 0x20 [], phase := .committing } }
        commit := { (committing (.verify 8)).commit with wanted := some w, retried := true } }
      s.proc.executing = some { cmd := cmdOf 0x20 [], phase := .committing } ∧ s.commit.wanted = some w ∧
        w.flight = false ∧ w.awaiting = pageBit 8 ∧ s.commit.retried = true) := by decide +kernel

/-- An executing COMMIT at the end of page 8's commit, with the wanted marks given. -/
def settling (w : WantedMarks) : State :=
  { committing (.verify 8) with
    nv := demo.nv.set 8 (.good (.settings defaultSettings))
    proc := { demo.proc with executing := some { cmd := cmdOf 0x20 [], phase := .committing } }
    commit := { (committing (.verify 8)).commit with wanted := some w } }

theorem test_witness_VerifyEndsOrRetriesCommit_settles :
    ∀ w, (settling w).commit.phase = .verify 8 ∧ (settling w).commit.snapshot = some (.settings defaultSettings) ∧
      (settling w).proc.executing = some { cmd := cmdOf 0x20 [], phase := .committing } ∧
      (settling w).commit.wanted = some w ∧ (settling w).nv[(8 : Fin 9)] = .good (.settings defaultSettings) :=
  fun _ => ⟨rfl, rfl, rfl, rfl, rfl⟩

/-- The commit in flight at the start of COMMIT settles its page; a later commit of page 8 is still wanted (R183). -/
theorem test_flight_settles :
    (match execVerifyComplete (settling { pages := 0x100, failed := 0, awaiting := pageBit 8, flight := true }) with
      | .next t => t.commit.wanted
      | .fault f => nomatch f
      | .refused _ => none) = some { pages := 0x100, failed := 0, awaiting := pageBit 8, flight := false } := by
  decide +kernel

/-- A second failure of page 8 while page 0 is still wanted: the page is damaged, returns to the dirty set, and the command goes
on (R180, R184). -/
theorem test_failed_page_is_not_last :
    (let s := settling { pages := 0x101, failed := 0, awaiting := 0x101, flight := false };
    match execVerifyComplete { s with
        nv := demo.nv, commit := { s.commit with retried := true, dirty := running.commit.dirty } } with
      | .next t => (t.notice.errors.nvFault && t.notice.commit, t.commit.faultPage, t.nv[(8 : Fin 9)],
          t.commit.dirty[(8 : Fin 9)], t.commit.wanted)
      | .fault f => nomatch f
      | .refused _ => (false, none, .erased, none, none)) =
      (true, some 8, .damaged, some { urgent := false, age := 0 },
        some { pages := 0x101, failed := 0x100, awaiting := 1, flight := false }) := by decide +kernel

theorem test_witness_StoredFieldsLoadBack :
    (let a := { debtor with balance := -9999999999, number := 99999999 };
      a.status ≠ .free ∧ a.number ≤ 99999999 ∧ a.ec ≤ 99999999 ∧ a.low ≤ 99999999 ∧ -9999999999 ≤ a.balance ∧
        a.balance ≤ 9999999999 ∧ a.level = levelOf a.balance a.low a.ec) ∧
      (let p : Point := { config := { prescale := 16, grace := 65535 } };
      1 ≤ p.config.prescale ∧ p.config.prescale ≤ 16 ∧ p.config.grace ≤ 65535) ∧
      (let t : Tariff := { priceA := 999999, priceB := 0, standing := 1 };
      t.priceA ≤ 999999 ∧ t.priceB ≤ 999999 ∧ t.standing ≤ 999999) ∧
      (60 ≤ demo.timer.periodLength ∧ demo.timer.periodLength ≤ 86400 ∧ 1 ≤ demo.commit.interval ∧
        demo.commit.interval ≤ 255 ∧ 0x08 ≤ demo.port.address.toNat ∧ demo.port.address.toNat ≤ 0x77 ∧
        demo.port.maximum ≤ 99999999) := by decide

/-! ### Witnesses: the Top-up Port -/

theorem test_witness_BusConditionsByPortState :
    NotWaiting (withPort { demo.port with state := .receive, acked := true }) ∧
      (withPort { demo.port with state := .receive, acked := true }).acknowledgeDrive = .low :=
  ⟨notWaiting_of_none rfl, rfl⟩

/-- A timeout in the ninth clock of an acknowledged byte releases the line (R151). -/
theorem test_timeout_releases :
    (withPort (TopUpPort.atTimeout { demo.port with state := .receive, acked := true })).acknowledgeDrive = .released := rfl

/-- The port enabled, in a state. -/
def portIn (state : PortState) : State := withPort { demo.port with state, enabled := true, awaitsAddress := true }

theorem test_witness_AddressAndKindBytesByState :
    (let s := portIn .idle;
      s.port.state = .idle ∧ s.port.awaitsAddress = true ∧ demo.port.awaitsAddress = false ∧ s.port.enabled = true ∧ s.run.runState = .run ∧
        (0x74 : Byte).toNat / 2 = s.port.address.toNat ∧ (0x74 : Byte).getLsbD 0 = false ∧
        (0x75 : Byte).getLsbD 0 = true ∧ (0x75 : Byte).toNat / 2 = s.port.address.toNat ∧
        ¬(0x76 : Byte).toNat / 2 = s.port.address.toNat) ∧
      (portIn .replyReady).port.state = .replyReady ∧ (portIn .addressedWrite).port.state = .addressedWrite ∧
      (0x53 : Byte) ≠ 0x54 ∧ (0x53 : Byte) ≠ 0x51 ∧ (portIn .discard).port.state = .discard := by decide +kernel

/-- RECEIVE with a frame begun. -/
def receiving (maximum : Nat) (bytes : List Byte) : State :=
  withPort { demo.port with state := .receive, receive := bytes, maximum }

/-- A TOPUP of 500 for 1111, check included. -/
def topupFrame : List Byte := withCheck [0x54, 0x00, 0x00, 0x11, 0x11, 0x00, 0x00, 0x00, 0x05, 0x00]

theorem test_witness_FrameBytesBuildAndValidate :
    (let s := receiving 500 (topupFrame.take 10);
      s.port.state = .receive ∧ s.port.receive ++ [topupFrame.getD 10 0] = topupFrame ∧ 11 ≤ topupFrame.length ∧
        topupFrame.head? = some 0x54 ∧ byteSum topupFrame = 0 ∧ frameNumber topupFrame = some 1111 ∧
        frameAmount topupFrame = some 500 ∧ 500 ≤ s.port.maximum ∧ (receiving 499 []).port.maximum < 500) ∧
      (let enquiry := withCheck [0x51, 0x00, 0x00, 0x11, 0x11];
      6 ≤ enquiry.length ∧ enquiry.head? ≠ some 0x54 ∧ byteSum enquiry = 0 ∧ frameNumber enquiry = some 1111) ∧
      ((receiving 500 [0x51]).port.receive ++ [0x00]).length < 6 ∧ byteSum (topupFrame.take 10 ++ [0]) ≠ 0 ∧
      frameNumber [0x54, 0xA0, 0, 0, 0, 0, 0, 0, 0, 0, 0] = none ∧
      frameAmount [0x54, 0, 0, 0, 0, 0, 0, 0, 0, 0x0A, 0] = none ∧
      frameAmount [0x54, 0, 0, 0, 0, 0, 0, 0, 0, 0, 0] = some 0 := by decide +kernel

theorem test_witness_FrameBytesBuildAndValidate_digits :
    (∀ b ∈ [(0x99 : Byte), 0x00, 0x12, 0x90], DigitPair b) ∧ ¬DigitPair 0xA0 ∧ ¬DigitPair 0x0A ∧
      pairValue 0x99 = 99 ∧ pairValue 0x12 = 12 := by
  unfold DigitPair pairValue
  decide

/-- The replies at the ends of the balance range. -/
theorem test_witness_RepliesAreSentAndChecked_range :
    replyBytes .overflow { payer with balance := 9999999999 } = [0x05, 0x01, 0x00, 0x99, 0x99, 0x99, 0x99, 0x99, 0xFD] ∧
      replyBytes .blocked { resting with balance := -9999999999, level := .exhausted } =
        [0x02, 0x0E, 0x80, 0x99, 0x99, 0x99, 0x99, 0x99, 0x73] := by decide +kernel

theorem test_witness_RepliesAreSentAndChecked :
    let s := withPort { demo.port with state := .sending, reply := replyBytes .accepted payer, sent := 7 }
    s.port.state = .sending ∧ NotWaiting s ∧ s.port.sent < 8 ∧ 7 < s.port.reply.length ∧
      (let u := withPort { demo.port with state := .sending, reply := [], sent := 9 };
      8 ≤ u.port.sent ∧ u.sendingByte.getLsbD 7 = true) ∧
      s.sendingByte.getLsbD 7 = false ∧
      (withPort { demo.port with state := .sending, reply := replyBytes .accepted payer, sent := 8 }).port.sent = 8 :=
  ⟨rfl, notWaiting_of_none rfl, by decide +kernel, by decide +kernel, by decide +kernel, by decide +kernel, rfl⟩

/-! ### Witnesses: notices and registers -/

/-- VECTORED with POINT1 in service and the enables given. -/
def vectored (enables : BitVec 23) : State :=
  { withPoint 0 { demo.point 0 with flags := { grace := true } } with
    notice := { demo.notice with mode := .vectored, stack := [3], enables } }

theorem test_witness_NoticeAccessesActByMode :
    ((vectored 0x7FFFFF).run.runState ≠ .reset ∧ (vectored 0x7FFFFF).requests.getLsbD 2 = true ∧
        (∀ top ∈ (vectored 0x7FFFFF).notice.stack.head?, (2 : Fin 23) < top) ∧
        ∀ r, r < (2 : Fin 23) → (vectored 0x7FFFFF).requests.getLsbD r.val = false) ∧
      (demo.notice.mode = .summary ∧
        State.noticeAsserted { demo with notice := { demo.notice with power := true, enables := 1 } } = true ∧
        State.noticeAsserted { demo with notice := { demo.notice with power := true, enables := 2 } } = false) ∧
      (∀ r : Fin 23, (vectored 0).requests.getLsbD r.val = false) ∧ (1 : Word).getLsbD 0 = true := by decide +kernel

theorem test_witness_DoneWriteRemovesTop :
    let s := { vectored 0x7FFFFF with notice := { (vectored 0x7FFFFF).notice with stack := [2, 5] } }
    s.run.runState ≠ .reset ∧ s.notice.mode = .vectored ∧ s.notice.stack = 2 :: [5] ∧ StackOrdered s ∧
      s.requests.getLsbD (2 : Fin 23).val = true ∧
      (State.notice { s with notice := { s.notice with stack := [] } }).stack = [] :=
  ⟨by decide, rfl, rfl, ⟨by decide, by decide⟩, by decide +kernel, rfl⟩

theorem test_witness_PointRegisterShowsAndClears :
    (let s := withPoint 15 { demo.point 1 with graceRemaining := 65535, pending := 255, flags := { stray := true } };
      s.run.runState ≠ .reset ∧ (s.point 15).graceRemaining ≤ 65535 ∧ (s.point 15).pending ≤ 255) ∧
      (0x10000000 : Word).getLsbD 28 = true := by decide +kernel

theorem test_witness_ResultSourceFollowsCount :
    (queued [] 1).run.runState ≠ .reset ∧ (queued [] 1).proc.results = [plainResult (cmdOf 0x06 []) .done] ∧
      (2 : Word).getLsbD 1 = true := by decide +kernel

theorem test_witness_RegisterWindowServesAccesses :
    demo.run.runState ≠ .reset ∧ unassignedOffset 0x22 = true ∧ unassignedOffset 0x2F = true ∧
      unassignedOffset 0x40 = true ∧ unassignedOffset 0x7F = true ∧ unassignedOffset 0x21 = false ∧
      unassignedOffset 0x3F = false ∧ (0x0B : BitVec 7).toNat = 5 + (6 : Fin 7).val ∧ demo.proc.results = [] ∧
      (queued [] 1).proc.results = plainResult (cmdOf 0x06 []) .done :: [] ∧ (vectored 0).notice.stack.length ≤ 23 ∧
      demo.timer.remaining ≤ 86400 ∧ demo.port.lastAmount ≤ 9999999999 := by
  decide +kernel

/-- The fields at the ends of their ranges. -/
theorem test_witness_RegisterWindowServesAccesses_forms :
    (let a := { payer with status := .quarantined, level := .exhausted, tariff := 7, boundCount := 16 };
      a.boundCount ≤ 16 ∧ packedField a = 0x107F) ∧
      moneyHigh (-9999999999) = 0x8099 ∧ moneyLow (-9999999999) = 0x99999999 ∧ moneyHigh 9999999999 = 0x99 ∧
      digits8 (bcdWord 99999999) = some 99999999 ∧ digits8 0x12345678 = some 12345678 ∧ digits8 0xA0000000 = none := by
  decide +kernel

theorem test_witness_SpiTransactionsSpellAccesses :
    (State.spi { demo with spi := { selected := true, transaction := none } }).selected = true ∧
      (List.replicate 31 true).length < 32 ∧ demo.run.runState ≠ .reset ∧ demo.pending = [] ∧ demo.spi.transaction = none ∧
      demo.spi.selected = false ∧ State.reset.run.runState = .reset := by decide

/-- A read of ID sends 6416_0103h, whatever the read before it took: its first data bits are 0, 1, 1, 0. -/
theorem test_spi_sends_value_taken :
    (match step ((demo.spiEdge .select).spiClock [true, false, false, false, false, false, false, false]) with
      | .next t => (List.range 4).map fun k => (t.spiClock (List.replicate k true)).sdo
      | .fault f => nomatch f
      | .refused _ => []) = [.driven false, .driven true, .driven true, .driven false] := by decide +kernel

/-! ### Witnesses: invariants -/

theorem test_witness_EveryStepKeepsQueuesFit :
    QueuesFit (granted (cmdOf 0x03 [])) ∧ step (granted (cmdOf 0x03 [])) = .next (granted (cmdOf 0x03 [])) := by
  refine ⟨⟨by decide, by decide, ?_⟩, rfl⟩
  intro cmd h
  have h' : EngineState.busy (.command (cmdOf 0x03 []) true) = .busy (.command cmd true) := h
  cases h'
  rfl

theorem test_witness_EveryStepKeepsStackOrdered :
    StackOrdered (vectored 0) ∧ step (vectored 0) = .next (vectored 0) :=
  ⟨⟨by decide, by decide⟩, rfl⟩

theorem test_witness_EveryStepKeepsEligibleDirty : EligibleDirty demo ∧ step demo = .next demo := by
  refine ⟨⟨by decide, by decide +kernel, ?_⟩, rfl⟩
  have h : ∀ page : Fin 9, ∀ r ∈ demo.commit.dirty[page],
      (r.urgent = true → page ∈ demo.commit.eligible) ∧ (demo.warned = true → r.urgent = true) := by decide +kernel
  exact fun page r hr => h page r hr

theorem test_witness_EveryStepKeepsEligibleDirty_repairs :
    RepairsUnverified (inVerify 1) ∧ (inVerify 1).commit.unverified.getLsbD 0 = true ∧
      step (inVerify 1) = .next (inVerify 1) := by
  refine ⟨⟨fun page h => (by cases h), fun page h => ?_⟩, by decide, rfl⟩
  have only : ∀ page : Fin 9, (inVerify 1).commit.unverified.getLsbD page.val = true → page = 0 := by decide
  obtain rfl := only page h
  exact .inr ⟨rfl, _, rfl, rfl⟩

theorem test_witness_EveryStepKeepsPointsLegal : PointsLegal demo ∧ step demo = .next demo := by
  refine ⟨fun p => ?_, rfl⟩
  have h : ∀ p : Fin 16,
      ((demo.point p).state = .live ∨ (demo.point p).state = .awaiting →
        (demo.point p).hostHold = false ∧ (demo.point p).view = some (.active, .normal)) ∧
      ((demo.point p).state = .grace ∨ (demo.point p).state = .cut →
        (demo.point p).hostHold = false ∧ (demo.point p).view = some (.active, .exhausted)) ∧
      (demo.point p).pending ≤ 255 := by decide +kernel
  exact ⟨fun hs => ⟨((h p).1 hs).1, .normal, ((h p).1 hs).2, by decide⟩, (h p).2.1, (h p).2.2⟩

theorem loadingQuiet_demo : LoadingQuiet demo :=
  ⟨fun h => absurd h (by decide), fun _ => rfl⟩

theorem test_witness_EveryStepKeepsPeriodInRange : PeriodInRange demo ∧ step demo = .next demo :=
  ⟨⟨loadingQuiet_demo, by decide, by decide, by decide, by decide, by decide⟩, rfl⟩

theorem directorySound_demo : DirectorySound demo := by
  refine ⟨loadingQuiet_demo, fun i h => ?_, by decide, by decide +kernel, by decide +kernel⟩
  rcases h with h | h
  · exact absurd h (by decide)
  · exact absurd h.1 (by decide)

theorem test_witness_EveryStepKeepsDirectorySound : DirectorySound demo ∧ step demo = .next demo :=
  ⟨directorySound_demo, rfl⟩

/-- In the small state a lookup finds slot 1, SUSPENDED, and no slot for a number that no account has. -/
theorem test_witness_EveryStepKeepsDirectorySound_lookup :
    DirectoryExact demo ∧ demo.lookup 2222 = some 1 ∧ (demo.slot 1).status = .suspended ∧ (demo.slot 1).number = 2222 ∧
      demo.lookup 0 = none ∧ (demo.slot 2).number = 0 ∧ (demo.slot 2).status = .quarantined :=
  ⟨directorySound_demo.2.2, by decide +kernel, by decide +kernel, by decide +kernel, by decide +kernel, by decide +kernel,
    by decide +kernel⟩

theorem test_witness_EveryStepKeepsBoundCounts : BoundCountsAgree demo ∧ step demo = .next demo :=
  ⟨⟨directorySound_demo, by decide +kernel, by decide +kernel, by decide +kernel⟩, rfl⟩

theorem viewsAgree_demo : ViewsAgree demo := by
  refine ⟨⟨directorySound_demo, by decide +kernel, by decide +kernel, by decide +kernel⟩, fun p slot h _ => ?_, ?_⟩
  · have hp : ∀ p : Fin 16, ∀ slot ∈ (demo.point p).binding,
        (demo.point p).view = some ((demo.slot slot).status, (demo.slot slot).level) := by decide +kernel
    exact hp p slot h
  · intro p n slot price h
    cases h

theorem test_witness_EveryStepKeepsPointsLegal_views : ViewsAgree demo ∧ step demo = .next demo := ⟨viewsAgree_demo, rfl⟩

/-- The debtor's slot has joined the attention list. -/
def attended : State :=
  { demo with engine := { demo.engine with attention := [{ slot := 3, reasons := { exhausted := true } }] } }

theorem test_witness_EveryStepKeepsAccountsInRange_attention : AttentionSound attended ∧ step attended = .next attended :=
  ⟨⟨viewsAgree_demo, by decide, by decide +kernel⟩, rfl⟩

theorem test_witness_EveryStepKeepsAccountsInRange : AccountsInRange demo ∧ step demo = .next demo :=
  ⟨fun i => by revert i; decide +kernel, rfl⟩

end Sys2Proof.Tests
end

/-! PROOFS. What one step can do to the accounts, the directory, the attention list and the bindings of the points, said
once: `StepOutcome`, with `step_outcome`. The invariants of chapters 1 and 2 are proved from it. -/

namespace Sys2Proof.Machine.Proofs

open Sys2Proof Sys2Proof.Machine Sys2Proof.Machine.Laws

/-! ### Points: what an account's invariants see of them -/

/-- Two records of one point agree in all that the accounts' invariants read: binding, account view, and being DETACHED. -/
structure PointAlike (p q : Point) : Prop where
  binding : q.binding = p.binding
  view : q.view = p.view
  detached : q.state = .detached ↔ p.state = .detached

theorem PointAlike.refl (p : Point) : PointAlike p p := ⟨rfl, rfl, Iff.rfl⟩

theorem PointAlike.trans {p q r : Point} (h : PointAlike p q) (h' : PointAlike q r) : PointAlike p r :=
  ⟨h'.binding.trans h.binding, h'.view.trans h.view, h'.detached.trans h.detached⟩

/-- Both records are of a point that is not DETACHED. -/
theorem PointAlike.of_attached {p q : Point} (hb : q.binding = p.binding) (hv : q.view = p.view)
    (hp : p.state ≠ .detached) (hq : q.state ≠ .detached) : PointAlike p q :=
  ⟨hb, hv, iff_of_false hq hp⟩

@[simp] theorem evaluate_binding (p : Point) : p.evaluate.binding = p.binding := by
  unfold Point.evaluate; split
  · rfl
  · split <;> rfl

@[simp] theorem evaluate_view (p : Point) : p.evaluate.view = p.view := by
  unfold Point.evaluate; split
  · rfl
  · split <;> rfl

theorem evaluate_attached (p : Point) : p.evaluate.state ≠ .detached := by
  unfold Point.evaluate; split
  · simp [Point.toHeld]
  · split <;> simp [Point.toCut, Point.toLive]

theorem enterGrace_alike (deferral : Bool) (p : Point) (h : p.state ≠ .detached) : PointAlike p (p.enterGrace deferral) := by
  unfold Point.enterGrace; split
  · exact .of_attached rfl rfl h (by simp)
  · exact .of_attached rfl rfl h (by simp [Point.toCut])

theorem restored_alike (p : Point) (h : p.state ≠ .detached) : PointAlike p p.restored := by
  unfold Point.restored; split
  · exact .of_attached rfl rfl h (by simp [Point.toLive])
  · exact .of_attached rfl rfl h (by simp [Point.toAwaiting])

/-- Following a level leaves binding and view as they are, and attaches or detaches nothing. -/
theorem follow_alike (deferral : Bool) (level : Level) (p : Point) : PointAlike p (p.follow deferral level) := by
  unfold Point.follow
  split
  case h_1 h =>
    split
    · exact enterGrace_alike deferral p (by simp [h])
    · exact .refl p
  case h_2 h =>
    split
    · exact .refl p
    · exact .of_attached rfl rfl (by simp [h]) (by simp [Point.toLive])
  case h_3 h =>
    split
    · exact .refl p
    · exact restored_alike p (by simp [h])
  case h_4 h =>
    split
    · exact .of_attached rfl rfl (by simp [h]) (by simp [Point.toCut])
    · exact .refl p
  all_goals exact .refl p

/-- A point that hears of its slot keeps its binding, and a DETACHED one hears nothing. -/
theorem notified_of_detached (deferral : Bool) (status : Status) (level : Level) (p : Point) (h : p.state = .detached) :
    p.notified deferral status level = p := by
  simp [Point.notified, h]

/-- What a notice does to a point that is not DETACHED (R37, R49): its view becomes the slot's status and level; its binding is
kept, and it is not detached. -/
theorem notified_of_attached (deferral : Bool) (status : Status) (level : Level) (p : Point) (h : p.state ≠ .detached) :
    PointAlike (p.seeing status level) (p.notified deferral status level) := by
  have told : PointAlike (p.seeing status level)
      (if status = .active then (p.seeing status level).follow deferral level else (p.seeing status level).toHeld) := by
    split
    · exact follow_alike ..
    · exact .of_attached rfl rfl h (by simp [Point.toHeld])
  unfold Point.notified
  split
  case h_1 h' => exact absurd h' h
  case h_2 => exact .refl _
  case h_3 =>
    split
    · exact .refl _
    · exact .of_attached (evaluate_binding _) (evaluate_view _) h (evaluate_attached _)
  all_goals exact told

@[simp] theorem notified_binding (deferral : Bool) (status : Status) (level : Level) (p : Point) :
    (p.notified deferral status level).binding = p.binding := by
  by_cases h : p.state = .detached
  · rw [notified_of_detached _ _ _ _ h]
  · exact (notified_of_attached deferral status level p h).binding

theorem notified_detached_iff (deferral : Bool) (status : Status) (level : Level) (p : Point) :
    (p.notified deferral status level).state = .detached ↔ p.state = .detached := by
  by_cases h : p.state = .detached
  · rw [notified_of_detached _ _ _ _ h]
  · exact (notified_of_attached deferral status level p h).detached

theorem notified_view (deferral : Bool) (status : Status) (level : Level) (p : Point) (h : p.state ≠ .detached) :
    (p.notified deferral status level).view = some (status, level) :=
  (notified_of_attached deferral status level p h).view

/-! Edges, ticks, holds and writes to a point leave it alike. -/

theorem countEdge_alike (p : Point) : PointAlike p p.countEdge := by
  unfold Point.countEdge
  split
  · exact ⟨rfl, rfl, Iff.rfl⟩
  · rename_i h
    split
    · exact ⟨rfl, rfl, Iff.rfl⟩
    · unfold Point.addUnit
      split
      · exact ⟨rfl, rfl, Iff.rfl⟩
      · exact .of_attached rfl rfl h (by simp [Point.toLocked])

theorem completeEdge_alike (counting : Bool) (p : Point) : PointAlike p (p.completeEdge counting) := by
  have taken : PointAlike p { p with debounced := p.line, excursion := false } := ⟨rfl, rfl, Iff.rfl⟩
  unfold Point.completeEdge
  dsimp only
  split
  · exact taken.trans (countEdge_alike _)
  · exact taken

theorem lineChanged_alike (debouncing counting : Bool) (p : Point) : PointAlike p (p.lineChanged debouncing counting) := by
  have changed : PointAlike p { p with line := !p.line } := ⟨rfl, rfl, Iff.rfl⟩
  unfold Point.lineChanged
  dsimp only
  split
  · exact changed
  · split
    · exact changed.trans (completeEdge_alike _ _)
    · exact ⟨rfl, rfl, Iff.rfl⟩

theorem graceExpired_alike (deferral : Bool) (p : Point) : PointAlike p (p.graceExpired deferral) := by
  unfold Point.graceExpired
  split
  · rename_i h; exact .of_attached rfl rfl (by simp [h.1]) (by simp [Point.toCut])
  · exact .refl p

theorem ticked_alike (deferral : Bool) (p : Point) : PointAlike p (p.ticked deferral) := by
  have counted : PointAlike p { p with graceRemaining := p.graceRemaining - 1 } := ⟨rfl, rfl, Iff.rfl⟩
  unfold Point.ticked
  split
  · exact counted.trans (graceExpired_alike _ _)
  · exact .refl p

theorem held_alike (p : Point) : PointAlike p p.held := by
  unfold Point.held
  dsimp only
  split
  case h_1 h => exact .of_attached rfl rfl (by simp [h]) (by simp [Point.toHeld])
  case h_2 h => exact .of_attached rfl rfl (by simp [h]) (by simp [Point.toHeld])
  case h_3 h => exact .of_attached rfl rfl (by simp [h]) (by simp [Point.toHeld])
  case h_4 h => exact .of_attached rfl rfl (by simp [h]) (by simp [Point.toHeld])
  all_goals exact ⟨rfl, rfl, Iff.rfl⟩

theorem released_alike (p : Point) : PointAlike p p.released := by
  have left (h : p.state ≠ .detached) : PointAlike p (Point.evaluate { p with hostHold := false }) :=
    .of_attached (evaluate_binding _) (evaluate_view _) h (evaluate_attached _)
  unfold Point.released
  dsimp only
  split
  case h_1 h => exact left (by simp [h])
  case h_2 h => exact left (by simp [h])
  case h_3 h => exact left (by simp [h])
  all_goals exact ⟨rfl, rfl, Iff.rfl⟩

end Sys2Proof.Machine.Proofs

namespace Sys2Proof.Machine.Proofs

open Sys2Proof Sys2Proof.Machine Sys2Proof.Machine.Laws

/-! ### What a step can do to the accounts -/

/-- Slots, directory and attention list are as they were, and every point looks the same to the accounts. -/
structure AccountsKept (s t : State) : Prop where
  slots : t.engine.slots = s.engine.slots
  directory : t.engine.directory = s.engine.directory
  attention : t.engine.attention = s.engine.attention
  points : ∀ p, PointAlike (s.point p) (t.point p)

namespace AccountsKept

variable {s t u : State}

theorem refl (s : State) : AccountsKept s s := ⟨rfl, rfl, rfl, fun _ => .refl _⟩

theorem trans (h : AccountsKept s t) (h' : AccountsKept t u) : AccountsKept s u :=
  ⟨h'.slots.trans h.slots, h'.directory.trans h.directory, h'.attention.trans h.attention,
    fun p => (h.points p).trans (h'.points p)⟩

theorem slot (h : AccountsKept s t) (i : Fin 64) : t.slot i = s.slot i := slot_of_slots h.slots i

theorem of_engine (he : t.engine = s.engine) (hp : ∀ p, PointAlike (s.point p) (t.point p)) : AccountsKept s t :=
  ⟨by rw [he], by rw [he], by rw [he], hp⟩

theorem of_blocks (he : t.engine = s.engine) (hp : t.points = s.points) : AccountsKept s t :=
  of_engine he fun p => by rw [point_of_points hp]; exact .refl _

theorem setPoint (s : State) {p : Fin 16} {r : Point} (h : PointAlike (s.point p) r) : AccountsKept s (s.setPoint p r) :=
  of_engine rfl fun q => by
    rw [point_setPoint]
    split
    · rename_i hq; subst hq; exact h
    · exact .refl _

theorem mapPoints (s : State) {f : Point → Point} (h : ∀ p, PointAlike p (f p)) : AccountsKept s (s.mapPoints f) :=
  of_engine rfl fun q => by rw [point_mapPoints]; exact h _

end AccountsKept

/-- Nothing is in hand, as before LOADING ends (R46, R99, R177, R84, R88). -/
structure NothingInHand (s : State) : Prop where
  op : s.engine.op = .free
  executing : s.proc.executing = none
  phase : s.commit.phase = .idle
  sweep : s.timer.sweep = .idle
  owed : s.timer.owed = false
  remaining : s.timer.remaining = 0

theorem loadingQuiet_iff (s : State) :
    LoadingQuiet s ↔ (s.operating = false → NothingInHand s) ∧ (s.run.runState ≠ .loading → s.run.loadPage = 0) :=
  and_congr_left' (forall_congr' fun _ =>
    ⟨fun ⟨a, b, c, d, e, f⟩ => ⟨a, b, c, d, e, f⟩, fun ⟨a, b, c, d, e, f⟩ => ⟨a, b, c, d, e, f⟩⟩)

theorem NothingInHand.congr {s t : State} (h : NothingInHand s) (op : t.engine.op = s.engine.op)
    (executing : t.proc.executing = s.proc.executing) (phase : t.commit.phase = s.commit.phase)
    (timer : t.timer = s.timer) : NothingInHand t :=
  ⟨op.trans h.op, executing.trans h.executing, phase.trans h.phase, timer ▸ h.sweep, timer ▸ h.owed, timer ▸ h.remaining⟩

/-- A step of the blocks around the engine: the accounts, the operation in progress and the run state are as they were, and
before LOADING ends nothing is taken in hand. -/
structure Frame (s t : State) : Prop where
  accounts : AccountsKept s t
  op : t.engine.op = s.engine.op
  runState : t.run.runState = s.run.runState
  loadPage : t.run.loadPage = s.run.loadPage
  quiet : s.operating = false → NothingInHand s → NothingInHand t

theorem operating_of_runState {s t : State} (h : t.run.runState = s.run.runState) : t.operating = s.operating := by
  simp [State.operating, h]

namespace Frame

variable {s t u : State}

theorem refl (s : State) : Frame s s := ⟨.refl s, rfl, rfl, rfl, fun _ h => h⟩

theorem operating (h : Frame s t) : t.operating = s.operating := operating_of_runState h.runState

theorem trans (h : Frame s t) (h' : Frame t u) : Frame s u where
  accounts := h.accounts.trans h'.accounts
  op := h'.op.trans h.op
  runState := h'.runState.trans h.runState
  loadPage := h'.loadPage.trans h.loadPage
  quiet ho hq := h'.quiet (h.operating.trans ho) (h.quiet ho hq)

/-- A step while the part operates: what it has in hand does not matter. -/
theorem of_operating (ho : s.operating = true) (he : t.engine = s.engine)
    (hp : ∀ p, PointAlike (s.point p) (t.point p)) (hr : t.run = s.run) : Frame s t :=
  ⟨.of_engine he hp, by rw [he], by rw [hr], by rw [hr], fun h => by simp [ho] at h⟩

/-- A step that starts nothing: executing command, commit phase and timer are as they were. -/
theorem of_blocks (he : t.engine = s.engine) (hp : ∀ p, PointAlike (s.point p) (t.point p)) (hr : t.run = s.run)
    (hx : t.proc.executing = s.proc.executing) (hc : t.commit.phase = s.commit.phase) (ht : t.timer = s.timer) :
    Frame s t :=
  ⟨.of_engine he hp, by rw [he], by rw [hr], by rw [hr], fun _ h => h.congr (by rw [he]) hx hc ht⟩

/-- A step that ends the executing command, or leaves none, in a block that the accounts do not read. -/
theorem of_ended (he : t.engine = s.engine) (hp : t.points = s.points) (hr : t.run = s.run)
    (hx : t.proc.executing = none) (hc : t.commit.phase = s.commit.phase) (ht : t.timer = s.timer) : Frame s t :=
  ⟨.of_blocks he hp, by rw [he], by rw [hr], by rw [hr],
    fun _ h => h.congr (by rw [he]) (hx.trans h.executing.symm) hc ht⟩

theorem of_points (he : t.engine = s.engine) (hp : t.points = s.points) (hr : t.run = s.run)
    (hx : t.proc.executing = s.proc.executing) (hc : t.commit.phase = s.commit.phase) (ht : t.timer = s.timer) :
    Frame s t :=
  of_blocks he (fun p => by rw [point_of_points hp]; exact .refl _) hr hx hc ht

end Frame

/-! ### The shared operations that leave the accounts alone -/

theorem setPoint_frame (s : State) {p : Fin 16} {r : Point} (h : PointAlike (s.point p) r) : Frame s (s.setPoint p r) :=
  .of_blocks rfl (AccountsKept.setPoint s h).points rfl rfl rfl rfl

theorem mapPoints_frame (s : State) {f : Point → Point} (h : ∀ p, PointAlike p (f p)) : Frame s (s.mapPoints f) :=
  .of_blocks rfl (AccountsKept.mapPoints s h).points rfl rfl rfl rfl

theorem report_frame (s : State) (page : Fin 9) (urgent : Bool) : Frame s (s.report page urgent) :=
  .of_points rfl rfl rfl rfl rfl rfl

theorem setPort_frame (s : State) (port : TopUpPort) : Frame s (s.setPort port) := .of_points rfl rfl rfl rfl rfl rfl

theorem post_frame (s : State) (cmd : QueuedCommand) (a : Answer) : Frame s (s.post cmd a) :=
  .of_ended rfl rfl rfl rfl rfl rfl

theorem endWait_frame (s : State) (cmd : QueuedCommand) (w : WaitState) (status : ResultStatus) :
    Frame s (s.endWait cmd w status) := .of_ended rfl rfl rfl rfl rfl rfl

theorem retestWait_frame (s : State) : Frame s s.retestWait := by
  rcases retestWait_cases s with h | ⟨cmd, w, -, -, h⟩ <;> rw [h]
  · exact .refl s
  · exact endWait_frame s cmd w .done

theorem breakWait_frame (s : State) (status : ResultStatus) : Frame s (s.breakWait status) := by
  unfold State.breakWait
  split
  · exact endWait_frame ..
  · exact .refl s

/-- A step that finds something in hand. -/
theorem Frame.of_inHand {s t : State} (h : ¬NothingInHand s) (he : t.engine = s.engine) (hp : t.points = s.points)
    (hr : t.run = s.run) : Frame s t :=
  ⟨.of_blocks he hp, by rw [he], by rw [hr], by rw [hr], fun _ hq => absurd hq h⟩

/-- A step that finds a command executing. -/
theorem Frame.of_executing {s t : State} {e : Execution} (h : s.proc.executing = some e) (he : t.engine = s.engine)
    (hp : t.points = s.points) (hr : t.run = s.run) : Frame s t :=
  .of_inHand (fun hq => by simp [hq.executing] at h) he hp hr

theorem startWait_frame (s : State) (cmd : QueuedCommand) {e : Execution} (h : s.proc.executing = some e) :
    Frame s (s.startWait cmd) := by
  unfold State.startWait
  dsimp only
  split
  · exact post_frame ..
  · refine .trans ?_ (retestWait_frame _)
    exact .of_executing h rfl rfl rfl

theorem settleHandedWait_frame (s : State) : Frame s s.settleHandedWait := by
  unfold State.settleHandedWait
  split
  · rename_i h
    split
    · exact startWait_frame s _ h
    · exact .refl s
  · exact .refl s

theorem takeBoundary_frame (s : State) (ho : s.operating = true) : Frame s s.takeBoundary := by
  have swept : ∀ t : State, t.engine = s.engine → t.points = s.points → t.run = s.run → Frame s t :=
    fun t he hp hr => .of_operating ho he (fun p => by rw [point_of_points hp]; exact .refl _) hr
  unfold State.takeBoundary
  dsimp only
  split
  · refine .trans (swept _ ?_ ?_ ?_) (retestWait_frame _)
    all_goals split <;> [rfl; (split <;> rfl)]
  · refine swept _ ?_ ?_ ?_
    all_goals split <;> [rfl; (split <;> rfl)]

/-- A command that its block answers in the step it is taken (R100) moves nothing when its effect does not. -/
theorem takeCommand_frame (s : State) (code : Byte) (effect : Vector Word 7 → State → State × Answer)
    (h : ∀ f e, s.proc.executing = some e → Frame s (effect f s).1) : Frame s (s.takeCommand code effect) := by
  unfold State.takeCommand
  split
  · rename_i hx
    split
    · exact (h _ _ hx).trans (post_frame ..)
    · exact .refl s
  · exact .refl s

end Sys2Proof.Machine.Proofs

namespace Sys2Proof.Machine.Proofs

open Sys2Proof Sys2Proof.Machine Sys2Proof.Machine.Laws

/-! ### Packed digits stay within their number of digits (R27) -/

theorem bcdValue_lt {digits w v : Nat} (h : bcdValue digits w = some v) : v < 10 ^ digits := by
  induction digits generalizing w v with
  | zero => simp [bcdValue] at h; omega
  | succ d ih =>
    unfold bcdValue at h
    split at h
    · rename_i u hu
      split at h
      · have := ih hu
        cases h
        rw [pow_succ]; omega
      · cases h
    · cases h

theorem bcdMended_lt (digits w : Nat) : bcdMended digits w < 10 ^ digits := by
  induction digits generalizing w with
  | zero => simp [bcdMended]
  | succ d ih =>
    have := ih (w / 16)
    unfold bcdMended
    rw [pow_succ]
    split <;> omega

theorem digits8_le {w : Word} {v : Nat} (h : digits8 w = some v) : v ≤ 99999999 := by
  have := bcdValue_lt h
  omega

theorem amountPair_le {high low : Word} {v : Nat} (h : amountPair high low = some v) : v ≤ 9999999999 := by
  unfold amountPair at h
  split at h
  · rename_i a b ha hb
    have := bcdValue_lt ha
    have := bcdValue_lt hb
    cases h
    omega
  · cases h

theorem signed_range {sign v : Nat} (h : v ≤ 9999999999) :
    -9999999999 ≤ signed sign v ∧ signed sign v ≤ 9999999999 := by
  unfold signed
  split <;> omega

theorem balancePair_range {high low : Word} {b : Int} (h : balancePair high low = some b) :
    -9999999999 ≤ b ∧ b ≤ 9999999999 := by
  unfold balancePair at h
  split at h
  · rename_i v hv
    cases h
    exact signed_range (amountPair_le hv)
  · cases h

/-! ### Records in range -/

/-- The fields of a record that come from outside are in range (R3, R4). -/
structure FieldsInRange (a : Account) : Prop where
  number : a.number ≤ 99999999
  ec : a.ec ≤ 99999999
  low : a.low ≤ 99999999
  above : -9999999999 ≤ a.balance
  below : a.balance ≤ 9999999999

/-- A record in range, with its level (R3, R4, R11). -/
structure RecordInRange (a : Account) : Prop extends FieldsInRange a where
  level : a.status ≠ .free → a.level = levelOf a.balance a.low a.ec

theorem accountsInRange_iff (s : State) : AccountsInRange s ↔ ∀ i, RecordInRange (s.slot i) :=
  forall_congr' fun _ =>
    ⟨fun ⟨a, b, c, d, e, f⟩ => ⟨⟨a, b, c, d, e⟩, f⟩, fun ⟨⟨a, b, c, d, e⟩, f⟩ => ⟨a, b, c, d, e, f⟩⟩

theorem relevelled_inRange {a : Account} (h : FieldsInRange a) : RecordInRange a.relevelled :=
  ⟨⟨h.number, h.ec, h.low, h.above, h.below⟩, fun _ => rfl⟩

theorem free_inRange : RecordInRange Account.free := by
  constructor
  · constructor <;> decide
  · intro h; exact absurd rfl h

theorem RecordInRange.withCount {a : Account} (h : RecordInRange a) (n : Nat) :
    RecordInRange { a with boundCount := n } :=
  ⟨⟨h.number, h.ec, h.low, h.above, h.below⟩, h.level⟩

/-! ### Lookups (R16) -/

/-- In an exact directory a lookup finds an ACTIVE or SUSPENDED slot with the number (R16). -/
theorem lookup_listed {s : State} (h : DirectoryExact s) {number : Nat} {slot : Fin 64}
    (hl : s.lookup number = some slot) : (s.slot slot).status.listed = true ∧ (s.slot slot).number = number := by
  obtain ⟨-, sound, -⟩ := h
  obtain ⟨e, he, rfl⟩ := Option.map_eq_some_iff.mp hl
  have hn : e.number = number := by simpa using List.find?_some he
  exact hn ▸ sound e (List.mem_of_find?_eq_some he)

theorem lookup_of_directory {s t : State} (h : t.engine.directory = s.engine.directory) (number : Nat) :
    t.lookup number = s.lookup number := by
  simp [State.lookup, h]

theorem withAccount_cases (s : State) (number : Nat) (f : Fin 64 → State × Answer) :
    s.withAccount number f = (s, numberAnswer .notFound number) ∨
      ∃ slot, s.lookup number = some slot ∧ s.withAccount number f = f slot := by
  unfold State.withAccount
  split
  · rename_i slot h; exact .inr ⟨slot, h, rfl⟩
  · exact .inl rfl

/-! ### The changes an engine operation can make -/

/-- The run state and the operation in progress are as they were. -/
structure ControlKept (s t : State) : Prop where
  runState : t.run.runState = s.run.runState
  loadPage : t.run.loadPage = s.run.loadPage
  op : t.engine.op = s.engine.op

/-- The record of one slot is now `a`. Reasons may have joined its attention entry, and its points have been told when its
status or level has changed (R21, R36, R37). -/
structure SlotRewritten (s t : State) (slot : Fin 64) (a : Account) : Prop extends ControlKept s t where
  record : ∀ i, t.slot i = if slot = i then a else s.slot i
  attention : t.engine.attention = s.engine.attention ∨
    ∃ r, r.isEmpty = false ∧ t.engine.attention = joinReasons slot r s.engine.attention
  point : ∀ p, t.point p = s.point p ∨
    (s.point p).binding = some slot ∧ ∃ deferral, t.point p = (s.point p).notified deferral a.status a.level
  told : a.level ≠ (s.slot slot).level ∨ a.status ≠ (s.slot slot).status → 0 < a.boundCount →
    ∀ p, (s.point p).binding = some slot → ∃ deferral, t.point p = (s.point p).notified deferral a.status a.level

/-- The record of a slot changes, its number and its bound count aside; a new status is ACTIVE or SUSPENDED, and is given to a
slot that the directory holds (R7). -/
structure AccountUpdate (s t : State) (slot : Fin 64) (a : Account) : Prop extends SlotRewritten s t slot a where
  directory : t.engine.directory = s.engine.directory
  number : a.number = (s.slot slot).number
  boundCount : a.boundCount = (s.slot slot).boundCount
  status : a.status = (s.slot slot).status ∨
    a.status.listed = true ∧ (DirectoryExact s → (s.slot slot).status.listed = true)
  range : RecordInRange (s.slot slot) → RecordInRange a

/-- A slot that the directory did not hold enters it with a number that no entry has (R6, R17, R131). -/
structure AccountEntry (s t : State) (slot : Fin 64) (a : Account) : Prop extends SlotRewritten s t slot a where
  unlisted : (s.slot slot).status.listed = false
  listed : a.status.listed = true
  fresh : s.lookup a.number = none
  directory : t.engine.directory = insertEntry { number := a.number, slot } s.engine.directory
  boundCount : a.boundCount = (s.slot slot).boundCount ∨ (s.slot slot).status = .free ∧ a.boundCount = 0
  range : RecordInRange a

/-- A slot becomes FREE: its directory entry, where it has one, and its attention entry leave, and no point is bound to it any
more (R8, R71). -/
structure SlotFreed (s t : State) (slot : Fin 64) : Prop extends ControlKept s t where
  record : ∀ i, t.slot i = if slot = i then Account.free else s.slot i
  directory : t.engine.directory = s.engine.directory.filter (fun e => e.slot != slot) ∨
    t.engine.directory = s.engine.directory ∧ (s.slot slot).status.listed = false
  attention : t.engine.attention = s.engine.attention.filter fun e => e.slot != slot
  point : (∀ p, t.point p = s.point p) ∧ (s.slot slot).boundCount = 0 ∨
    ∀ p, t.point p = if (s.point p).binding = some slot then (s.point p).detached else s.point p

/-- The head of the attention list, if there is one, leaves it (R23). -/
structure AttentionTaken (s t : State) : Prop extends ControlKept s t where
  slots : t.engine.slots = s.engine.slots
  directory : t.engine.directory = s.engine.directory
  attention : t.engine.attention = s.engine.attention.tail
  points : t.points = s.points

/-- One slot's bound count is now `n` and one point's record `r` (R67, R70). -/
structure CountedPoint (s t : State) (p : Fin 16) (slot : Fin 64) (n : Nat) (r : Point) : Prop extends ControlKept s t where
  record : ∀ i, t.slot i = if slot = i then { s.slot slot with boundCount := n } else s.slot i
  directory : t.engine.directory = s.engine.directory
  attention : t.engine.attention = s.engine.attention
  point : ∀ q, t.point q = if p = q then r else s.point q

/-- One change that an engine operation makes. -/
inductive AccountChange (s t : State) : Prop
  | kept (control : ControlKept s t) (accounts : AccountsKept s t)
  | updated (slot : Fin 64) (a : Account) (listed : DirectoryExact s → (s.slot slot).status.listed = true)
      (update : AccountUpdate s t slot a)
  | entered (slot : Fin 64) (a : Account) (entry : AccountEntry s t slot a)
  | freed (slot : Fin 64) (freed : SlotFreed s t slot)
  | attentionTaken (taken : AttentionTaken s t)
  | bound (p : Fin 16) (slot : Fin 64) (was : (s.point p).state = .detached)
      (listed : DirectoryExact s → (s.slot slot).status.listed = true)
      (bound : CountedPoint s t p slot ((s.slot slot).boundCount + 1)
        ((s.point p).bound slot (s.slot slot).status (s.slot slot).level))
  | unbound (p : Fin 16) (slot : Fin 64) (was : (s.point p).binding = some slot)
      (unbound : CountedPoint s t p slot ((s.slot slot).boundCount - 1) (s.point p).detached)

/-- The changes of one engine operation, one after another. -/
abbrev AccountChanges : State → State → Prop := Relation.ReflTransGen AccountChange

theorem AccountChange.control {s t : State} (h : AccountChange s t) : ControlKept s t := by
  cases h with
  | kept control => exact control
  | updated slot a listed update => exact update.toControlKept
  | entered slot a entry => exact entry.toControlKept
  | freed slot freed => exact freed.toControlKept
  | attentionTaken taken => exact taken.toControlKept
  | bound p slot was listed bound => exact bound.toControlKept
  | unbound p slot was unbound => exact unbound.toControlKept

theorem accountChanges_control {s t : State} (h : AccountChanges s t) : ControlKept s t := by
  induction h with
  | refl => exact ⟨rfl, rfl, rfl⟩
  | tail _ last ih =>
    have := last.control
    exact ⟨this.runState.trans ih.runState, this.loadPage.trans ih.loadPage, this.op.trans ih.op⟩

/-- Engine, points and run state are untouched. -/
theorem AccountChange.of_blocks {s t : State} (he : t.engine = s.engine) (hp : t.points = s.points) (hr : t.run = s.run) :
    AccountChange s t :=
  .kept ⟨by rw [hr], by rw [hr], by rw [he]⟩ (.of_blocks he hp)

/-- The blocks around the engine answer, report and post. -/
theorem AccountChanges.frame {s t u : State} (h : AccountChanges s t) (hf : Frame t u) : AccountChanges s u :=
  h.tail (.kept ⟨hf.runState, hf.loadPage, hf.op⟩ hf.accounts)

/-! ### Changing an account -/

theorem changeAccount_rewritten (s : State) (slot : Fin 64) (a : Account) (before : Level) (extra : Reasons) :
    SlotRewritten s (s.changeAccount slot a before extra) slot a.relevelled where
  runState := by rw [changeAccount_run]
  loadPage := by rw [changeAccount_run]
  op := changeAccount_op ..
  record i := changeAccount_slot ..
  attention := by
    rw [changeAccount_attention]
    split
    · exact .inl rfl
    · rename_i h; exact .inr ⟨_, by simpa using h, rfl⟩
  point p := by
    rw [changeAccount_point]
    split
    · rename_i h; exact .inr ⟨h.2.2, _, rfl⟩
    · exact .inl rfl
  told changed bound p hp := by
    rw [changeAccount_point, if_pos ⟨changed, bound, hp⟩]
    exact ⟨_, rfl⟩

theorem SlotRewritten.congr {s t u : State} {slot : Fin 64} {a : Account} (h : SlotRewritten s t slot a)
    (he : u.engine = t.engine) (hp : u.points = t.points) (hr : u.run = t.run) : SlotRewritten s u slot a where
  runState := by rw [hr, h.runState]
  loadPage := by rw [hr, h.loadPage]
  op := by rw [he, h.op]
  record i := by rw [slot_of_engine he]; exact h.record i
  attention := by rw [he]; exact h.attention
  point p := by rw [point_of_points hp]; exact h.point p
  told c b p hb := by rw [point_of_points hp]; exact h.told c b p hb

/-- Reasons that join the entry of a slot leave its record as it is. -/
theorem addReasons_rewritten (s : State) (slot : Fin 64) (r : Reasons) :
    SlotRewritten s (s.addReasons slot r) slot (s.slot slot) where
  runState := by rw [addReasons_run]
  loadPage := by rw [addReasons_run]
  op := addReasons_op ..
  record i := by rw [slot_addReasons]; split <;> simp [*]
  attention := by
    rw [addReasons_attention]
    split
    · exact .inl rfl
    · rename_i h; exact .inr ⟨r, by simpa using h, rfl⟩
  point p := .inl (point_of_points (addReasons_points ..) p)
  told h := by simp at h

/-- A balance within the range is stored (R30 to R33). -/
theorem storeBalance_update (s : State) (slot : Fin 64) (b : Int) (extra : Reasons) (urgent : Bool)
    (hb : RecordInRange (s.slot slot) → -9999999999 ≤ b ∧ b ≤ 9999999999) :
    ∃ a, AccountUpdate s (s.storeBalance slot b extra urgent) slot a := by
  unfold State.storeBalance
  dsimp only
  split
  · exact ⟨_, addReasons_rewritten s slot extra, addReasons_directory .., rfl, rfl, .inl rfl, id⟩
  · refine ⟨_, (changeAccount_rewritten s slot { s.slot slot with balance := b } (s.slot slot).level extra).congr
      rfl rfl rfl, changeAccount_directory .., rfl, rfl, .inl rfl, fun h => ?_⟩
    obtain ⟨above, below⟩ := hb h
    exact relevelled_inRange ⟨h.number, h.ec, h.low, above, below⟩

/-- CHARGE and STANDING clamp at the end of the range (R30, R31). -/
theorem takeCharge_update (s : State) (slot : Fin 64) (amount : Nat) :
    ∃ a, AccountUpdate s (s.takeCharge slot amount) slot a := by
  unfold State.takeCharge
  split
  · refine ⟨s.slot slot, ⟨⟨⟨rfl, rfl, rfl⟩, fun i => ?_, .inl rfl, fun _ => .inl rfl, fun h => by simp at h⟩, rfl, rfl, rfl,
      .inl rfl, id⟩⟩
    split <;> simp [*]
  · split
    · exact storeBalance_update _ _ _ _ _ fun _ => by decide
    · rename_i h
      refine storeBalance_update _ _ _ _ _ fun hs => ?_
      have := hs.below
      unfold Config.maxBalance at h
      omega

/-! ### The effects of the account commands (chapter 6) -/

/-- An update of the slot that a lookup has found. -/
theorem AccountUpdate.change {s t : State} {slot : Fin 64} {a : Account} {number : Nat} (h : AccountUpdate s t slot a)
    (hl : s.lookup number = some slot) : AccountChange s t :=
  .updated slot a (fun hd => (lookup_listed hd hl).1) h

theorem openFields_range {f : Vector Word 7} {o : OpenFields} (h : openFields f = some o) :
    FieldsInRange o.account := by
  simp only [openFields, Option.bind_eq_bind, Option.bind_eq_some_iff] at h
  obtain ⟨number, hn, tariff, -, ec, he, low, hl, amount, ha, h⟩ := h
  split at h <;> cases h
  have := amountPair_le ha
  exact ⟨digits8_le hn, digits8_le he, digits8_le hl, by simp only [OpenFields.account]; omega,
    by simp only [OpenFields.account]; omega⟩

theorem openEffect_changes (f : Vector Word 7) (s : State) : AccountChanges s (openEffect f s).1 := by
  unfold openEffect
  split
  · exact .refl
  · rename_i o ho
    split
    · exact .refl
    · rename_i hl
      split
      · exact .refl
      · rename_i slot hs
        have free : (s.slot slot).status = .free := by simpa [State.lowestFree] using List.find?_some hs
        refine .single (.entered slot o.account.relevelled ⟨?_, ?_, rfl, hl, ?_, .inr ⟨free, rfl⟩,
          relevelled_inRange (openFields_range ho)⟩)
        · have h := (changeAccount_rewritten (s.insertDirectory o.number slot) slot o.account .normal {}).congr
            (u := ((s.insertDirectory o.number slot).changeAccount slot o.account .normal {}).report (pageOf slot) true)
            rfl rfl rfl
          exact ⟨⟨h.runState, h.loadPage, h.op⟩, h.record, h.attention, h.point, h.told⟩
        · rw [free]; rfl
        · exact changeAccount_directory ..

end Sys2Proof.Machine.Proofs

namespace Sys2Proof.Machine.Proofs

open Sys2Proof Sys2Proof.Machine Sys2Proof.Machine.Laws

/-- A command about one account changes what its part behind the lookup changes. -/
theorem withAccount_changes {s : State} (number : Nat) (f : Fin 64 → State × Answer)
    (h : ∀ slot, s.lookup number = some slot → AccountChanges s (f slot).1) :
    AccountChanges s (s.withAccount number f).1 := by
  rcases withAccount_cases s number f with hw | ⟨slot, hl, hw⟩
  · rw [hw]
  · rw [hw]; exact h slot hl

theorem closeEffect_changes (f : Vector Word 7) (s : State) : AccountChanges s (closeEffect f s).1 := by
  unfold closeEffect
  split
  · exact .refl
  · refine withAccount_changes _ _ fun slot _ => ?_
    split
    · exact .refl
    · rename_i hb
      exact .single (.freed slot ⟨⟨rfl, rfl, rfl⟩, fun _ => slot_setSlot .., .inl rfl, rfl,
        .inl ⟨fun _ => rfl, by omega⟩⟩)

/-- A result that CREDIT may store lies in the range (R32). -/
theorem credit_range {a : Account} {amount : Nat} (h : ¬creditOverflows a amount = true) (ha : RecordInRange a) :
    -9999999999 ≤ a.balance + amount ∧ a.balance + amount ≤ 9999999999 := by
  have := ha.above
  have : ¬(9999999999 < a.balance + amount) := fun c => h (decide_eq_true c)
  omega

theorem creditEffect_changes (f : Vector Word 7) (s : State) : AccountChanges s (creditEffect f s).1 := by
  unfold creditEffect
  split
  · refine withAccount_changes _ _ fun slot hl => ?_
    split
    · exact .refl
    · rename_i amount _ _ ho
      obtain ⟨a, ha⟩ := storeBalance_update s slot ((s.slot slot).balance + amount) {} true (credit_range ho)
      exact .single (ha.change hl)
  · exact .refl

/-- A result that DEBIT may store lies in the range (R33). -/
theorem debit_range {a : Account} {amount : Nat} {force : Bool} (h : debitRefusal a amount force = none)
    (ha : RecordInRange a) : -9999999999 ≤ a.balance - amount ∧ a.balance - amount ≤ 9999999999 := by
  have := ha.ec
  have := ha.below
  unfold debitRefusal Config.maxBalance at h
  split at h
  · split at h <;> simp at h
    omega
  · split at h <;> simp at h
    omega

theorem debitEffect_changes (f : Vector Word 7) (s : State) : AccountChanges s (debitEffect f s).1 := by
  unfold debitEffect
  split
  · exact .refl
  · refine withAccount_changes _ _ fun slot hl => ?_
    split
    · exact .refl
    · rename_i hd
      obtain ⟨a, ha⟩ := storeBalance_update s slot _ {} true (debit_range hd)
      exact .single (ha.change hl)

theorem transferBetween_changes (s : State) (src dst : Fin 64) (x : TransferFields)
    (hs : s.lookup x.source = some src) (hd : s.lookup x.destination = some dst) :
    AccountChanges s (s.transferBetween src dst x).1 := by
  unfold State.transferBetween
  split
  · exact .refl
  · rename_i hne
    split
    · exact .refl
    · exact .refl
    · rename_i hr
      split
      · exact .refl
      · rename_i ho
        obtain ⟨a, ha⟩ := storeBalance_update s src _ {} true (debit_range hr)
        have other := ha.record dst
        rw [if_neg hne] at other
        obtain ⟨b, hb⟩ := storeBalance_update (s.storeBalance src ((s.slot src).balance - x.amount) {} true) dst
          (((s.storeBalance src ((s.slot src).balance - x.amount) {} true).slot dst).balance + x.amount) {} true
          (by rw [other]; exact credit_range ho)
        exact .tail (.single (ha.change hs)) (hb.change (by rw [lookup_of_directory ha.directory, hd]))

theorem transferEffect_changes (f : Vector Word 7) (s : State) : AccountChanges s (transferEffect f s).1 := by
  unfold transferEffect
  split
  · exact .refl
  · split
    · exact .refl
    · exact .refl
    · rename_i hs hd
      exact transferBetween_changes s _ _ _ hs hd

theorem queryEffect_state (f : Vector Word 7) (s : State) : (queryEffect f s).1 = s := by
  unfold queryEffect State.withAccount
  split
  · rfl
  · split <;> rfl

theorem querySlotEffect_state (f : Vector Word 7) (s : State) : (querySlotEffect f s).1 = s := by
  unfold querySlotEffect
  split <;> rfl

theorem scanEffect_state (f : Vector Word 7) (s : State) : (scanEffect f s).1 = s := by
  unfold scanEffect
  split
  · rfl
  · dsimp only; split <;> rfl

/-- A field read only when it is selected is one that its reading gives. -/
theorem selected_some {α : Type} {chosen : Bool} {field : Option α} {x : α} (h : selected chosen field = some (some x)) :
    field = some x := by
  unfold selected at h
  split at h
  · simpa using h
  · cases h

theorem amended_range {f : Vector Word 7} {x : AmendFields} (h : amendFields f = some x) {a : Account}
    (ha : RecordInRange a) : FieldsInRange (x.amended a) := by
  simp only [amendFields, Option.bind_eq_bind, Option.bind_eq_some_iff] at h
  obtain ⟨number, -, tariff, -, ec, he, low, hl, h⟩ := h
  split at h <;> cases h
  refine ⟨ha.number, ?_, ?_, ha.above, ha.below⟩
  · cases ec with
    | none => exact ha.ec
    | some v => exact digits8_le (selected_some he)
  · cases low with
    | none => exact ha.low
    | some v => exact digits8_le (selected_some hl)

theorem amendEffect_changes (f : Vector Word 7) (s : State) : AccountChanges s (amendEffect f s).1 := by
  unfold amendEffect
  split
  · exact .refl
  · rename_i x hx
    refine withAccount_changes _ _ fun slot hl => ?_
    dsimp only
    split
    · exact .refl
    · refine .single (AccountUpdate.change (a := (x.amended (s.slot slot)).relevelled) ⟨?_, ?_, rfl, rfl, .inl rfl, ?_⟩ hl)
      · exact (changeAccount_rewritten s slot _ _ _).congr rfl rfl rfl
      · exact changeAccount_directory ..
      · exact fun h => relevelled_inRange (amended_range hx h)

theorem setStatus_update (s : State) {slot : Fin 64} {status : Status} {number : Nat} (hs : status.listed = true)
    (hl : s.lookup number = some slot) :
    AccountUpdate s (s.setStatus slot status) slot { s.slot slot with status }.relevelled :=
  ⟨(changeAccount_rewritten s slot _ _ _).congr rfl rfl rfl, changeAccount_directory .., rfl, rfl,
    .inr ⟨hs, fun hd => (lookup_listed hd hl).1⟩,
    fun h => relevelled_inRange ⟨h.number, h.ec, h.low, h.above, h.below⟩⟩

theorem statusEffect_changes {status : Status} (hs : status.listed = true) (f : Vector Word 7) (s : State) :
    AccountChanges s (statusEffect status f s).1 := by
  unfold statusEffect
  split
  · exact .refl
  · refine withAccount_changes _ _ fun slot hl => ?_
    split
    · exact .refl
    · exact .single ((setStatus_update s hs hl).change hl)

theorem repairFields_range {f : Vector Word 7} {x : RepairFields} (h : repairFields f = some x) (a : Account) :
    FieldsInRange (x.repaired a) ∧ x.status.listed = true := by
  simp only [repairFields, Option.bind_eq_bind, Option.bind_eq_some_iff] at h
  obtain ⟨slot, -, number, hn, balance, hb, ec, he, low, hl, tariff, -, status, hs, h⟩ := h
  split at h <;> cases h
  obtain ⟨above, below⟩ := balancePair_range hb
  refine ⟨⟨digits8_le hn, digits8_le he, digits8_le hl, above, below⟩, ?_⟩
  unfold repairStatus at hs
  split at hs
  · cases hs; rfl
  · split at hs <;> cases hs
    rfl

theorem repairEffect_changes (f : Vector Word 7) (s : State) : AccountChanges s (repairEffect f s).1 := by
  unfold repairEffect
  split
  · exact .refl
  · rename_i x hx
    dsimp only
    split
    · exact .refl
    · rename_i hq
      split
      · exact .refl
      · rename_i hl
        obtain ⟨range, listed⟩ := repairFields_range hx (s.slot x.slot)
        have h := (changeAccount_rewritten (s.insertDirectory x.number x.slot) x.slot (x.repaired (s.slot x.slot))
          (s.slot x.slot).level {}).congr (u := State.report _ (pageOf x.slot) true) rfl rfl rfl
        refine .single (.entered x.slot (x.repaired (s.slot x.slot)).relevelled
          ⟨⟨⟨h.runState, h.loadPage, h.op⟩, h.record, h.attention, h.point, h.told⟩, ?_, listed, hl, ?_, .inl rfl,
            relevelled_inRange range⟩)
        · rw [not_not.mp hq]; rfl
        · exact changeAccount_directory ..

theorem discardEffect_changes (f : Vector Word 7) (s : State) : AccountChanges s (discardEffect f s).1 := by
  unfold discardEffect
  split
  · exact .refl
  · rename_i slot _
    dsimp only
    split
    · exact .refl
    · rename_i hq
      refine .single (.freed slot ⟨⟨rfl, rfl, rfl⟩, fun _ => slot_setSlot .., .inr ⟨rfl, ?_⟩, rfl, .inr fun _ => ?_⟩)
      · rw [not_not.mp hq]; rfl
      · exact point_mapPoints ..

theorem nextAttentionEffect_changes (f : Vector Word 7) (s : State) : AccountChanges s (nextAttentionEffect f s).1 := by
  unfold nextAttentionEffect
  split
  · exact .refl
  · rename_i e rest h
    exact .single (.attentionTaken ⟨⟨rfl, rfl, rfl⟩, rfl, rfl, by simp [h], rfl⟩)

/-! ### The effects of the point commands that the engine serves (section 3.7) -/

theorem withPoint_cases (s : State) (field : Word) (f : Fin 16 → State × Answer) :
    (s.withPoint field f).1 = s ∨ ∃ p, s.withPoint field f = f p := by
  unfold State.withPoint
  split
  · exact .inr ⟨_, rfl⟩
  · exact .inl rfl

theorem withBoundPoint_cases (s : State) (field : Word) (f : Fin 16 → State × Answer) :
    (s.withBoundPoint field f).1 = s ∨
      ∃ p, (s.point p).state ≠ .detached ∧ s.withBoundPoint field f = f p := by
  unfold State.withBoundPoint
  rcases withPoint_cases s field fun p =>
    if (s.point p).state = .detached then (s, s.pointAnswer .wrongState p) else f p with h | ⟨p, h⟩
  · exact .inl h
  · rw [h]
    split
    · exact .inl rfl
    · rename_i hp; exact .inr ⟨p, hp, rfl⟩

theorem countedPoint_set (s : State) (p : Fin 16) (slot : Fin 64) (n : Nat) (r : Point) :
    CountedPoint s (State.setPoint (s.setSlot slot { s.slot slot with boundCount := n }) p r).reportSettings p slot n r :=
  ⟨⟨rfl, rfl, rfl⟩, fun _ => slot_setSlot .., rfl, rfl, fun _ => point_setPoint ..⟩

theorem bindEffect_changes (f : Vector Word 7) (s : State) : AccountChanges s (bindEffect f s).1 := by
  unfold bindEffect
  rcases withPoint_cases s f[0] _ with h | ⟨p, h⟩
  · rw [h]
  · rw [h]
    split
    · exact .refl
    · rename_i hp
      split
      · exact .refl
      · split
        · exact .refl
        · rename_i slot hl
          exact .single (.bound p slot (not_not.mp hp) (fun hd => (lookup_listed hd hl).1) (countedPoint_set ..))

theorem unbindEffect_changes (f : Vector Word 7) (s : State) : AccountChanges s (unbindEffect f s).1 := by
  unfold unbindEffect
  rcases withBoundPoint_cases s f[0] _ with h | ⟨p, -, h⟩
  · rw [h]
  · rw [h]
    split
    · exact .refl
    · rename_i slot hb
      exact .single (.unbound p slot hb (countedPoint_set ..))

/-! ### APPLY (R35) -/

theorem applyRequest_changes (s : State) (r : ApplyRequest) : AccountChanges s (s.applyRequest r).1 := by
  unfold State.applyRequest
  split
  · exact .refl
  · rename_i slot hl
    split
    · exact .refl
    · split
      · exact .refl
      · split
        · exact .refl
        · rename_i ho
          obtain ⟨a, ha⟩ := storeBalance_update s slot ((s.slot slot).balance + r.amount) {} true (credit_range ho)
          exact AccountChanges.frame (.single (ha.change hl)) (.of_points rfl rfl rfl rfl rfl rfl)

end Sys2Proof.Machine.Proofs

namespace Sys2Proof.Machine.Proofs

open Sys2Proof Sys2Proof.Machine Sys2Proof.Machine.Laws

/-! ### What a step can do -/

/-- The slot's page has been loaded (R187), or the part is not in LOADING. -/
def Loaded (s : State) (i : Fin 64) : Prop :=
  s.run.runState ≠ .loading ∨ (s.run.loadPage ≠ 8 ∧ i.val / 8 < s.run.loadPage.val)

/-- The slot's page is still to be loaded (R14). -/
def Unloaded (s : State) (i : Fin 64) : Prop :=
  s.run.runState = .reset ∨ (s.run.runState = .loading ∧ (s.run.loadPage = 8 ∨ s.run.loadPage.val ≤ i.val / 8))

theorem operating_iff (s : State) :
    s.operating = true ↔ s.run.runState = .run ∨ s.run.runState = .holdup ∨ s.run.runState = .safe := by
  simp [State.operating, or_assoc]

theorem loaded_of_operating {s : State} (h : s.operating = true) (i : Fin 64) : Loaded s i := by
  rcases (operating_iff s).mp h with h | h | h <;> simp [Loaded, h]

theorem not_unloaded_of_operating {s : State} (h : s.operating = true) (i : Fin 64) : ¬Unloaded s i := by
  rcases (operating_iff s).mp h with h | h | h <;> simp [Unloaded, h]

theorem operating_of_busy {s : State} (h : LoadingQuiet s) (hb : s.engine.op ≠ .free) : s.operating = true := by
  by_contra ho
  exact hb (((loadingQuiet_iff s).mp h).1 (by simpa using ho)).op

/-- No page is loaded, and none is unloaded. -/
structure PhaseKept (s t : State) : Prop where
  loaded : ∀ i, Loaded t i → Loaded s i
  unloaded : ∀ i, Unloaded t i → Unloaded s i

theorem PhaseKept.of_run {s t : State} (hr : t.run.runState = s.run.runState) (hp : t.run.loadPage = s.run.loadPage) :
    PhaseKept s t := by
  constructor <;> intro i h
  · rwa [Loaded, hr, hp] at h
  · rwa [Unloaded, hr, hp] at h

theorem PhaseKept.of_operating {s t : State} (hs : s.operating = true) (ht : t.operating = true) : PhaseKept s t :=
  ⟨fun i _ => loaded_of_operating hs i, fun i h => absurd h (not_unloaded_of_operating ht i)⟩

/-- A CHARGE in progress was in progress, or has just started for a point bound to the slot that it names, with units that are
charged to it (R29, R54). -/
def ChargeStarts (s t : State) : Prop :=
  ∀ p n slot price, t.engine.op = .busy (.charge p n slot price) →
    s.engine.op = .busy (.charge p n slot price) ∨
      s.operating = true ∧ (s.point p).binding = some slot ∧ chargeable (s.point p).view = true

/-- What one step does to the accounts, the operation in progress and the run state. -/
inductive StepOutcome (s t : State) : Prop
  /-- The accounts and the pages loaded are as they were. -/
  | kept (accounts : AccountsKept s t) (phase : PhaseKept s t) (charge : ChargeStarts s t)
      (quiet : LoadingQuiet s → LoadingQuiet t)
  /-- The operation in progress completes. -/
  | completed (busy : s.engine.op ≠ .free) (changes : AccountChanges s.freeEngine t)
  /-- The CHARGE in progress completes on the slot that it names (R30). -/
  | charged (p : Fin 16) (n : Nat) (slot : Fin 64) (price : Nat) (busy : s.engine.op = .busy (.charge p n slot price))
      (u : State) (a : Account) (update : AccountUpdate s.freeEngine u slot a) (frame : Frame u t)
  /-- RESET or LOADING_START: every volatile field has its reset value (R190). -/
  | cleared (engine : t.engine = AccountEngine.atReset) (points : ∀ p, t.point p = { line := (s.point p).line })
      (quiet : NothingInHand t)
      (run : t.run.runState = .reset ∧ t.run.loadPage = 0 ∨ t.run.runState = .loading ∧ t.run.loadPage = 8)
  /-- LOAD_SETTINGS_PAGE (R186). -/
  | settingsLoaded (runState : s.run.runState = .loading) (loadPage : s.run.loadPage = settingsPage)
      (result : t = { s.applySettingsPage with run := { s.run with loadPage := 0 } })
  /-- LOAD_ACCOUNT_PAGE (R187). -/
  | pageLoaded (page : Fin 8) (runState : s.run.runState = .loading) (loadPage : accountPage s.run.loadPage = some page)
      (result : t = if page = 7 then ((s.applyAccountPage page).reconcile page).endLoading
        else { (s.applyAccountPage page).reconcile page with
          run := { ((s.applyAccountPage page).reconcile page).run with loadPage := page.succ } })

theorem StepOutcome.framed {s t : State} (h : Frame s t) : StepOutcome s t := by
  refine .kept h.accounts (.of_run h.runState h.loadPage) (fun p n slot price hc => .inl (h.op ▸ hc)) fun hq => ?_
  obtain ⟨quiet, page⟩ := (loadingQuiet_iff s).mp hq
  refine (loadingQuiet_iff t).mpr ⟨fun ho => ?_, ?_⟩
  · rw [h.operating] at ho
    exact h.quiet ho (quiet ho)
  · rw [h.runState, h.loadPage]; exact page

/-- The part operates before and after the step. -/
theorem loadingQuiet_of_operating {s t : State} (hs : s.operating = true) (ht : t.operating = true)
    (hp : t.run.loadPage = 0 ∨ t.run.loadPage = s.run.loadPage) (h : LoadingQuiet s) : LoadingQuiet t := by
  refine (loadingQuiet_iff t).mpr ⟨fun ho => by simp [ht] at ho, fun _ => ?_⟩
  have notLoading : s.run.runState ≠ .loading := by
    rcases (operating_iff s).mp hs with h | h | h <;> simp [h]
  rcases hp with hp | hp
  · exact hp
  · exact hp.trans (h.2 notLoading)

/-- PFW_N, or ENTRY_TO_SAFE: the part operates on in another run state. -/
theorem StepOutcome.runChanged {s t : State} (accounts : AccountsKept s t) (op : t.engine.op = s.engine.op)
    (was : s.operating = true) (now : t.operating = true)
    (loadPage : t.run.loadPage = 0 ∨ t.run.loadPage = s.run.loadPage) : StepOutcome s t :=
  .kept accounts (.of_operating was now) (fun _ _ _ _ hc => .inl (op ▸ hc)) (loadingQuiet_of_operating was now loadPage)

/-- PORT RESET: the operation in progress may have lost its requester (R45). -/
theorem StepOutcome.disowned {s t : State} (accounts : AccountsKept s t) (op : t.engine.op = s.engine.op.disowned)
    (run : t.run = s.run) (quiet : NothingInHand s → NothingInHand t) : StepOutcome s t := by
  refine .kept accounts (.of_run (by rw [run]) (by rw [run])) (fun p n slot price hc => .inl ?_) fun hq => ?_
  · rw [op] at hc
    cases hs : s.engine.op with
    | free => simp [hs, EngineState.disowned] at hc
    | busy o => cases o <;> simp_all [EngineState.disowned, EngineOperation.disowned]
  · obtain ⟨hand, page⟩ := (loadingQuiet_iff s).mp hq
    refine (loadingQuiet_iff t).mpr ⟨fun ho => quiet (hand ?_), by rw [run]; exact page⟩
    rwa [operating_of_runState (s := s) (by rw [run])] at ho

/-- A grant: a CHARGE starts for a point bound to the slot that it names, with chargeable units (R29, R54). -/
theorem StepOutcome.granted {s t : State} (was : s.operating = true) (accounts : AccountsKept s t) (run : t.run = s.run)
    (charge : ∀ p n slot price, t.engine.op = .busy (.charge p n slot price) →
      (s.point p).binding = some slot ∧ chargeable (s.point p).view = true) : StepOutcome s t := by
  have now : t.operating = true := (operating_of_runState (by rw [run])).trans was
  exact .kept accounts (.of_operating was now) (fun p n slot price hc => .inr ⟨was, charge p n slot price hc⟩)
    (loadingQuiet_of_operating was now (.inr (by rw [run])))

/-! ### Engine operations -/

/-- The completion of a command's operation, if such an operation is in progress (R45, R114). -/
theorem completeCommand_cases (s : State) (code : Byte) (effect : Vector Word 7 → State → State × Answer)
    (h : ∀ f u, AccountChanges u (effect f u).1) :
    s.completeCommand code effect = s ∨
      s.engine.op ≠ .free ∧ AccountChanges s.freeEngine (s.completeCommand code effect) := by
  have answered : ∀ (u : State) cmd a (owned : Bool), Frame u (if owned then u.post cmd a else u).retestWait :=
    fun u cmd a owned => by
      refine .trans ?_ (retestWait_frame _)
      split
      · exact post_frame ..
      · exact .refl _
  unfold State.completeCommand
  split
  · rename_i cmd owned hop
    split
    · exact .inr ⟨by simp [hop], (h cmd.params s.freeEngine).frame (answered ..)⟩
    · exact .inl rfl
  · exact .inl rfl

theorem completeCommand_outcome (s : State) (code : Byte) (effect : Vector Word 7 → State → State × Answer)
    (h : ∀ f u, AccountChanges u (effect f u).1) : StepOutcome s (s.completeCommand code effect) := by
  rcases completeCommand_cases s code effect h with hs | ⟨busy, changes⟩
  · rw [hs]; exact .framed (.refl s)
  · exact .completed busy changes

/-- An effect that changes no state. -/
theorem changes_of_state {effect : Vector Word 7 → State → State × Answer} (h : ∀ f u, (effect f u).1 = u) :
    ∀ f u, AccountChanges u (effect f u).1 := fun f u => by rw [h]

theorem tallyCharge_frame (s : State) (p : Fin 16) (n amount : Nat) : Frame s (s.tallyCharge p n amount) := by
  unfold State.tallyCharge
  split
  · split
    · exact .of_blocks rfl (fun _ => .refl _) rfl rfl rfl rfl
    · exact .refl s
  · exact .refl s

theorem reducePending_frame (s : State) (p : Fin 16) (n : Nat) : Frame s (s.reducePending p n) :=
  setPoint_frame s ⟨rfl, rfl, Iff.rfl⟩

theorem charge_outcome {s t : State} (h : exec .charge s = .next t) : StepOutcome s t := by
  simp only [exec, execCharge, Host.Outcome.next.injEq] at h
  subst h
  split
  · rename_i p n slot price hop
    obtain ⟨a, ha⟩ := takeCharge_update s.freeEngine slot (n * price)
    refine .charged p n slot price hop _ a ha
      (.trans (reducePending_frame _ p n) (.trans (tallyCharge_frame ..) (retestWait_frame _)))
  · exact .framed (.refl s)

theorem owesStanding_listed {a : Account} {c : Nat} (h : owesStanding a c = true) : a.status.listed = true := by
  simp only [owesStanding, Bool.and_eq_true] at h
  exact h.1.1

theorem standing_outcome {s t : State} (h : exec .standing s = .next t) : StepOutcome s t := by
  simp only [exec, execStanding, Host.Outcome.next.injEq] at h
  subst h
  split
  · rename_i slot c hop
    have moved : ∀ u : State, AccountChange u u.advanceSweep.retestWait := fun u =>
      .of_blocks (by simp) (by simp) (by simp)
    refine .completed (by simp [hop]) (.tail ?_ (moved _))
    split
    · rename_i ho
      obtain ⟨a, ha⟩ := takeCharge_update s.freeEngine slot c
      exact .single (.updated slot a (fun _ => owesStanding_listed ho) ha)
    · exact .refl
  · exact .framed (.refl s)

theorem applyFrame_outcome {s t : State} (h : exec .applyFrame s = .next t) : StepOutcome s t := by
  simp only [exec, execApplyFrame, Host.Outcome.next.injEq] at h
  subst h
  split
  · rename_i request owned hop
    have answered : ∀ u reply, Frame u ((State.answerKiosk u owned reply).retestWait) := fun u reply => by
      refine .trans ?_ (retestWait_frame _)
      unfold State.answerKiosk
      split
      · exact setPort_frame ..
      · exact .refl _
    exact .completed (by simp [hop]) ((applyRequest_changes s.freeEngine request).frame (answered _ _))
  · exact .framed (.refl s)

theorem gather_outcome {s t : State} (h : exec .gather s = .next t) : StepOutcome s t := by
  simp only [exec, execGather, Host.Outcome.next.injEq] at h
  subst h
  split
  · rename_i hop
    split
    · exact .completed (by simp [hop]) (.single (.of_blocks (by simp) (by simp) (by simp)))
    · exact .framed (.refl s)
  · exact .framed (.refl s)

theorem unbindDetach_outcome {s t : State} (h : exec .unbindDetach s = .next t) : StepOutcome s t := by
  simp only [exec, execUnbindDetach, Host.Outcome.next.injEq] at h
  subst h
  rcases completeCommand_cases s 0x11 unbindEffect unbindEffect_changes with hs | ⟨busy, changes⟩
  · rw [hs]
    split
    · exact .framed (.of_blocks rfl (fun _ => .refl _) rfl rfl rfl rfl)
    · exact .framed (.refl s)
  · split
    · exact .completed busy (changes.frame (.of_blocks rfl (fun _ => .refl _) rfl rfl rfl rfl))
    · exact .completed busy changes

/-! ### The grant (R44) -/

/-- A grant of an operation that is no CHARGE. -/
theorem granted_of_started {s t : State} {op : EngineOperation} (ho : s.operating = true)
    (he : t.engine = { s.engine with op := .busy op }) (hp : t.points = s.points) (hr : t.run = s.run)
    (hop : ∀ p n slot price, op ≠ .charge p n slot price) : StepOutcome s t := by
  refine .granted ho ⟨by rw [he], by rw [he], by rw [he], fun p => ?_⟩ hr fun p n slot price h => ?_
  · rw [point_of_points hp]; exact .refl _
  · rw [he] at h
    exact absurd (EngineState.busy.inj h) (hop p n slot price)

theorem startCharge_outcome {s : State} {p : Fin 16} (ho : s.operating = true) (hp : s.firstCharge = some p) :
    StepOutcome s (s.startCharge p) := by
  have waits : s.chargeWaits p = true := List.find?_some hp
  simp only [State.chargeWaits, Point.chargeRequest, Bool.and_eq_true] at waits
  unfold State.startCharge
  split
  · rename_i slot hb
    refine .granted ho ⟨rfl, rfl, rfl, fun _ => .refl _⟩ rfl fun q n slot' price h => ?_
    cases h
    exact ⟨hb, waits.1.2⟩
  · exact .framed (.refl s)

theorem engineGrant_outcome {s t : State} (h : exec .engineGrant s = .next t) : StepOutcome s t := by
  simp only [exec, execEngineGrant, Host.Outcome.next.injEq] at h
  subst h
  split
  case isFalse => exact .framed (.refl s)
  case isTrue ho =>
    obtain ⟨ho, -⟩ := ho
    unfold State.grant
    split
    · exact granted_of_started ho rfl rfl rfl (by simp)
    split
    · rename_i hp; exact startCharge_outcome ho hp
    split
    · exact granted_of_started ho rfl rfl rfl (by simp)
    split
    · exact granted_of_started ho rfl rfl rfl (by simp)
    split
    · exact granted_of_started ho rfl rfl rfl (by simp)
    · exact .framed (.refl s)

end Sys2Proof.Machine.Proofs

namespace Sys2Proof.Machine.Proofs

open Sys2Proof Sys2Proof.Machine Sys2Proof.Machine.Laws

/-! ### The Run Controller (chapter 10) -/

theorem enterHoldupBlocks_accounts (s : State) : AccountsKept s s.enterHoldupBlocks :=
  .of_blocks (by simp [State.enterHoldupBlocks]) (by simp [State.enterHoldupBlocks])

/-- Entry to HOLDUP leaves the accounts and the operation in progress as they are (R194). -/
theorem enterHoldup_kept (s : State) (conditionFirst : Bool) :
    AccountsKept s (s.enterHoldup conditionFirst) ∧ (s.enterHoldup conditionFirst).engine.op = s.engine.op ∧
      (s.enterHoldup conditionFirst).run.runState = .holdup ∧ (s.enterHoldup conditionFirst).run.loadPage = 0 := by
  have settled := settleHandedWait_frame s
  unfold State.enterHoldup
  dsimp only
  split
  · refine ⟨settled.accounts.trans ((enterHoldupBlocks_accounts _).trans
      ((retestWait_frame _).accounts.trans (breakWait_frame _ _).accounts)), ?_, ?_, ?_⟩
    · rw [breakWait_engine, retestWait_engine]
      simp [State.enterHoldupBlocks, settled.op]
    · simp [State.enterHoldupBlocks]
    · simp [State.enterHoldupBlocks]
  · refine ⟨settled.accounts.trans ((breakWait_frame _ _).accounts.trans (enterHoldupBlocks_accounts _)), ?_, ?_, ?_⟩
    · simp [State.enterHoldupBlocks, settled.op]
    · simp [State.enterHoldupBlocks]
    · simp [State.enterHoldupBlocks]

theorem entryToHoldup_outcome {conditionFirst : Bool} {s t : State} (h : exec (.entryToHoldup conditionFirst) s = .next t) :
    StepOutcome s t := by
  simp only [exec, execEntryToHoldup, Host.Outcome.next.injEq] at h
  subst h
  split
  · rename_i hr
    obtain ⟨accounts, op, run, page⟩ := enterHoldup_kept { s with run.pfwAsserted := true } conditionFirst
    have warned : AccountsKept s { s with run.pfwAsserted := true } := .of_blocks rfl rfl
    exact .runChanged (warned.trans accounts) op (by simp [State.operating, hr])
      (by simp [State.operating, run]) (.inl page)
  · exact .framed ⟨.of_blocks rfl rfl, rfl, rfl, rfl, fun _ hq => hq.congr rfl rfl rfl rfl⟩

theorem entryToSafe_outcome {s t : State} (h : exec .entryToSafe s = .next t) : StepOutcome s t := by
  simp only [exec, execEntryToSafe, Host.Outcome.next.injEq] at h
  subst h
  split
  · rename_i hr
    exact .runChanged (.of_blocks rfl rfl) rfl (by simp [State.operating, hr.1]) (by simp [State.operating]) (.inr rfl)
  · exact .framed (.refl s)

theorem resumeSweep_blocks (s : State) :
    s.resumeSweep.engine = s.engine ∧ s.resumeSweep.points = s.points ∧ s.resumeSweep.run = s.run := by
  unfold State.resumeSweep
  split
  · exact ⟨rfl, rfl, rfl⟩
  · exact ⟨rfl, rfl, rfl⟩
  · split <;> exact ⟨rfl, rfl, rfl⟩

theorem returnToRun_outcome {s t : State} (h : exec .returnToRun s = .next t) : StepOutcome s t := by
  simp only [exec, execReturnToRun, Host.Outcome.next.injEq] at h
  subst h
  split
  · rename_i hw
    obtain ⟨he, hp, hr⟩ := resumeSweep_blocks { s with run := { s.run with pfwAsserted := false, runState := .run } }
    refine .runChanged (.of_blocks he hp) (by rw [he]) ?_ (by simp [State.operating, hr]) (.inr (by rw [hr]))
    simp only [State.warned, State.operating, Bool.or_eq_true] at hw ⊢
    exact hw.imp_left .inr
  · exact .framed ⟨.of_blocks rfl rfl, rfl, rfl, rfl, fun _ hq => hq.congr rfl rfl rfl rfl⟩

theorem reset_outcome {s t : State} (h : exec .reset s = .next t) : StepOutcome s t := by
  simp only [exec, execReset, Host.Outcome.next.injEq] at h
  subst h
  exact .cleared rfl (fun p => by simp [State.point, State.volatileReset]) ⟨rfl, rfl, rfl, rfl, rfl, rfl⟩ (.inl ⟨rfl, rfl⟩)

theorem loadingStart_outcome {s t : State} (h : exec .loadingStart s = .next t) : StepOutcome s t := by
  simp only [exec, execLoadingStart, Host.Outcome.next.injEq] at h
  subst h
  split
  · exact .cleared rfl (fun p => by simp [State.point, State.volatileReset]) ⟨rfl, rfl, rfl, rfl, rfl, rfl⟩
      (.inr ⟨rfl, rfl⟩)
  · exact .framed (.refl s)

theorem loadSettingsPage_outcome {s t : State} (h : exec .loadSettingsPage s = .next t) : StepOutcome s t := by
  simp only [exec, execLoadSettingsPage, Host.Outcome.next.injEq] at h
  subst h
  split
  · rename_i hr; exact .settingsLoaded hr.1 hr.2 rfl
  · exact .framed (.refl s)

theorem loadAccountPage_outcome {s t : State} (h : exec .loadAccountPage s = .next t) : StepOutcome s t := by
  simp only [exec, execLoadAccountPage, Host.Outcome.next.injEq] at h
  subst h
  split
  · rename_i page hr hp; exact .pageLoaded page hr hp rfl
  · exact .framed (.refl s)

/-! ### Ticks and meters (sections 3.2 and 4.2) -/

theorem tickPoints_frame (s : State) : Frame s s.tickPoints := mapPoints_frame s (ticked_alike _)

theorem tickCommit_frame (s : State) : Frame s s.tickCommit := .of_points rfl rfl rfl rfl rfl rfl

theorem tickPeriod_frame (s : State) (ho : s.operating = true) : Frame s s.tickPeriod := by
  unfold State.tickPeriod
  split
  · exact takeBoundary_frame s ho
  · exact .of_operating ho rfl (fun _ => .refl _) rfl

theorem tickWait_frame (s : State) : Frame s s.tickWait := by
  unfold State.tickWait
  split
  · rename_i hx
    split
    · exact .refl s
    · split
      · exact endWait_frame ..
      · exact .of_executing hx rfl rfl rfl
  · exact .refl s

theorem tick_frame {conditionFirst : Bool} {s t : State} (h : exec (.tick conditionFirst) s = .next t) : Frame s t := by
  simp only [exec, execTick, Host.Outcome.next.injEq] at h
  subst h
  split
  · rename_i ho
    have aged : Frame s s.tickPoints.tickCommit := (tickPoints_frame s).trans (tickCommit_frame _)
    refine aged.trans ?_
    have ho' := aged.operating.trans ho
    split
    · exact (tickPeriod_frame _ ho').trans (tickWait_frame _)
    · have waited := tickWait_frame s.tickPoints.tickCommit
      exact waited.trans (tickPeriod_frame _ (waited.operating.trans ho'))
  · split
    · exact tickCommit_frame s
    · exact .refl s

theorem periodBoundary_frame {s t : State} (h : exec .periodBoundary s = .next t) : Frame s t := by
  simp only [exec, execPeriodBoundary, Host.Outcome.next.injEq] at h
  subst h
  split
  · rename_i ho; exact takeBoundary_frame s ho.1
  · exact .refl s

theorem graceExpiry_frame {p : Fin 16} {s t : State} (h : exec (.graceExpiry p) s = .next t) : Frame s t := by
  simp only [exec, execGraceExpiry, Host.Outcome.next.injEq] at h
  subst h
  split
  · exact setPoint_frame s (graceExpired_alike ..)
  · exact .refl s

theorem routinePageEligible_frame {page : Fin 9} {s t : State} (h : exec (.routinePageEligible page) s = .next t) :
    Frame s t := by
  simp only [exec, execRoutinePageEligible, Host.Outcome.next.injEq] at h
  subst h
  split
  · split
    · exact .of_points rfl rfl rfl rfl rfl rfl
    · exact .refl s
  · exact .refl s

theorem waitTimeout_frame {s t : State} (h : exec .waitTimeout s = .next t) : Frame s t := by
  simp only [exec, execWaitTimeout, Host.Outcome.next.injEq] at h
  subst h
  split
  · split
    · exact endWait_frame ..
    · exact .refl s
  · exact .refl s

theorem meterLineChange_frame {p : Fin 16} {s t : State} (h : exec (.meterLineChange p) s = .next t) : Frame s t := by
  simp only [exec, execMeterLineChange, Host.Outcome.next.injEq] at h
  subst h
  exact setPoint_frame s (lineChanged_alike ..)

theorem debounceComplete_frame {p : Fin 16} {s t : State} (h : exec (.debounceComplete p) s = .next t) : Frame s t := by
  simp only [exec, execDebounceComplete, Host.Outcome.next.injEq] at h
  subst h
  split
  · exact setPoint_frame s (completeEdge_alike ..)
  · exact .refl s

/-! ### The Command Processor (chapter 5) -/

theorem submitted_frame (s : State) (value : Word) : Frame s (s.submitted value) := by
  unfold State.submitted
  split <;> exact .of_points rfl rfl rfl rfl rfl rfl

theorem popped_frame (s : State) : Frame s s.popped := by
  unfold State.popped
  split <;> exact .of_points rfl rfl rfl rfl rfl rfl

theorem purged_frame (s : State) : Frame s s.purged := by
  have emptied : Frame s { s.settleHandedWait with proc := { s.settleHandedWait.proc with queue := [] } } :=
    (settleHandedWait_frame s).trans (.of_points rfl rfl rfl rfl rfl rfl)
  exact emptied.trans (breakWait_frame _ _)

/-- A served register access that moves nothing. -/
theorem served_frame {s t : State} {u : State} (hu : Frame s u)
    (h : (Host.Outcome.next (if s.served then u else s) : Host.Outcome State Fault Refusal) = .next t) : Frame s t := by
  cases h
  split
  · exact hu
  · exact .refl s

theorem commandStart_frame {s t : State} (h : exec .commandStart s = .next t) : Frame s t := by
  simp only [exec, execCommandStart, Host.Outcome.next.injEq] at h
  subst h
  split
  · split
    · rename_i hc
      simp only [State.canStart, Bool.and_eq_true, beq_iff_eq] at hc
      exact .of_operating (by simp [State.operating, hc.1.1]) rfl (fun _ => .refl _) rfl
    · exact .refl s
  · exact .refl s

theorem badCommand_frame {s t : State} (h : exec .badCommand s = .next t) : Frame s t := by
  simp only [exec, execBadCommand, Host.Outcome.next.injEq] at h
  subst h
  split
  · split
    · exact .refl s
    · exact post_frame ..
  · exact .refl s

theorem wait_frame {s t : State} (h : exec .wait s = .next t) : Frame s t := by
  simp only [exec, execWait, Host.Outcome.next.injEq] at h
  subst h
  exact settleHandedWait_frame s

theorem portReset_outcome (s : State) : StepOutcome s s.portReset :=
  .disowned ⟨rfl, rfl, rfl, fun _ => .refl _⟩ rfl rfl fun h =>
    ⟨by simp [State.portReset, h.op, EngineState.disowned], rfl, h.phase, h.sweep, h.owed, h.remaining⟩

/-- A write to CONTROL (R111, R199). -/
theorem controlWrite_outcome (s : State) (value : Word) : StepOutcome s (s.controlWrite value) := by
  unfold State.controlWrite
  split
  · exact portReset_outcome s
  · split
    · exact .framed (purged_frame s)
    · exact .framed (.refl s)

theorem served_outcome {s t u : State} (hu : StepOutcome s u)
    (h : (Host.Outcome.next (if s.served then u else s) : Host.Outcome State Fault Refusal) = .next t) :
    StepOutcome s t := by
  cases h
  split
  · exact hu
  · exact .framed (.refl s)

theorem markEffect_frame (f : Vector Word 7) (s : State) : Frame s (markEffect f s).1 :=
  .of_points rfl rfl rfl rfl rfl rfl

/-! ### Point and settings commands (sections 3.7 and 4.1) -/

/-- A command about a point moves nothing when its part behind the point number does not. -/
theorem withPoint_frame {s : State} (field : Word) (f : Fin 16 → State × Answer) (h : ∀ p, Frame s (f p).1) :
    Frame s (s.withPoint field f).1 := by
  rcases withPoint_cases s field f with hs | ⟨p, hp⟩
  · rw [hs]; exact .refl s
  · rw [hp]; exact h p

theorem withBoundPoint_frame {s : State} (field : Word) (f : Fin 16 → State × Answer) (h : ∀ p, Frame s (f p).1) :
    Frame s (s.withBoundPoint field f).1 := by
  rcases withBoundPoint_cases s field f with hs | ⟨p, -, hp⟩
  · rw [hs]; exact .refl s
  · rw [hp]; exact h p

theorem bindRefusal_frame (f : Vector Word 7) (s : State) : Frame s (bindRefusal f s).1 :=
  withPoint_frame _ _ fun _ => .refl s

theorem configureEffect_frame (f : Vector Word 7) (s : State) : Frame s (configureEffect f s).1 :=
  withPoint_frame _ _ fun p => by
    split
    · exact .refl s
    · rename_i config _
      have configured : PointAlike (s.point p) ((s.point p).reconfigured config) := ⟨rfl, rfl, Iff.rfl⟩
      exact (setPoint_frame s configured).trans (report_frame _ settingsPage true)

theorem holdEffect_frame (f : Vector Word 7) (s : State) : Frame s (holdEffect f s).1 :=
  withBoundPoint_frame _ _ fun _ => setPoint_frame s (held_alike _)

theorem releaseEffect_frame (f : Vector Word 7) (s : State) : Frame s (releaseEffect f s).1 :=
  withBoundPoint_frame _ _ fun _ => setPoint_frame s (released_alike _)

theorem queryPointEffect_frame (f : Vector Word 7) (s : State) : Frame s (queryPointEffect f s).1 :=
  withPoint_frame _ _ fun _ => .refl s

theorem setDeferral_frame (s : State) (on : Bool) : Frame s (s.setDeferral on) := by
  unfold State.setDeferral
  split
  · exact .refl s
  · split
    · exact .of_blocks rfl (fun _ => .refl _) rfl rfl rfl rfl
    · exact (mapPoints_frame s (graceExpired_alike false)).trans (.of_blocks rfl (fun _ => .refl _) rfl rfl rfl rfl)

theorem setDeferEffect_frame (f : Vector Word 7) (s : State) : Frame s (setDeferEffect f s).1 := by
  unfold setDeferEffect
  split
  · exact .refl s
  · exact setDeferral_frame ..

theorem setTariffEffect_frame (f : Vector Word 7) (s : State) {e : Execution} (hx : s.proc.executing = some e) :
    Frame s (setTariffEffect f s).1 := by
  unfold setTariffEffect
  split
  · exact .refl s
  · exact .of_executing hx rfl rfl rfl

theorem setBandEffect_frame (f : Vector Word 7) (s : State) {e : Execution} (hx : s.proc.executing = some e) :
    Frame s (setBandEffect f s).1 := by
  unfold setBandEffect
  split
  · exact .refl s
  · exact .of_executing hx rfl rfl rfl

theorem setPeriodEffect_frame (f : Vector Word 7) (s : State) {e : Execution} (hx : s.proc.executing = some e) :
    Frame s (setPeriodEffect f s).1 := by
  unfold setPeriodEffect
  split
  · exact .of_executing hx rfl rfl rfl
  · exact .refl s

theorem setTopupEffect_frame (f : Vector Word 7) (s : State) : Frame s (setTopupEffect f s).1 := by
  unfold setTopupEffect
  split
  · exact .refl s
  · exact .of_points rfl rfl rfl rfl rfl rfl

theorem setIntervalEffect_frame (f : Vector Word 7) (s : State) : Frame s (setIntervalEffect f s).1 := by
  unfold setIntervalEffect
  split
  · exact .of_points rfl rfl rfl rfl rfl rfl
  · exact .refl s

theorem bind_outcome {s t : State} (h : exec .bind s = .next t) : StepOutcome s t := by
  have refused : StepOutcome s (s.takeCommand 0x10 bindRefusal) :=
    .framed (takeCommand_frame s _ _ fun _ _ _ => bindRefusal_frame ..)
  simp only [exec, execBind, Host.Outcome.next.injEq] at h
  subst h
  split
  · split
    · exact completeCommand_outcome s _ _ bindEffect_changes
    · exact refused
  · exact refused

theorem unbind_frame {s t : State} (h : exec .unbind s = .next t) : Frame s t := by
  simp only [exec, execUnbind, Host.Outcome.next.injEq] at h
  subst h
  split
  · rename_i hx
    split
    · split
      · exact post_frame ..
      · split
        · exact post_frame ..
        · exact ⟨.of_engine rfl fun _ => .refl _, rfl, rfl, rfl, fun _ hq => by simp [hq.executing] at hx⟩
    · exact .refl s
  · exact .refl s

/-! ### The Commit Engine (chapter 9) -/

/-- A step that finds a commit under way. -/
theorem Frame.of_phase {s t : State} (h : s.commit.phase ≠ .idle) (he : t.engine = s.engine) (hp : t.points = s.points)
    (hr : t.run = s.run) : Frame s t :=
  .of_inHand (fun hq => h hq.phase) he hp hr

theorem commit_frame {s t : State} (h : exec .commit s = .next t) : Frame s t := by
  simp only [exec, execCommit, Host.Outcome.next.injEq] at h
  subst h
  split
  · rename_i hx
    split
    · unfold State.takeCommit
      dsimp only
      split
      · exact .of_executing hx rfl rfl rfl
      · exact .of_executing hx rfl rfl rfl
    · exact .refl s
  · exact .refl s

theorem commitStart_frame {s t : State} (h : exec .commitStart s = .next t) : Frame s t := by
  simp only [exec, execCommitStart, Host.Outcome.next.injEq] at h
  subst h
  split
  · split
    · rename_i ho
      split <;> exact .of_operating ho rfl (fun _ => .refl _) rfl
    · exact .refl s
  · exact .refl s

theorem eraseComplete_frame {s t : State} (h : exec .eraseComplete s = .next t) : Frame s t := by
  simp only [exec, execEraseComplete, Host.Outcome.next.injEq] at h
  subst h
  split
  · rename_i hc; exact .of_phase (by simp [hc]) rfl rfl rfl
  · exact .refl s

theorem programComplete_frame {written : Bool} {s t : State} (h : exec (.programComplete written) s = .next t) :
    Frame s t := by
  simp only [exec, execProgramComplete, Host.Outcome.next.injEq] at h
  subst h
  split
  · rename_i hc; exact .of_phase (by simp [hc]) rfl rfl rfl
  · exact .refl s

theorem settleWanted_frame (s : State) (page : Fin 9) (succeeded : Bool) : Frame s (s.settleWanted page succeeded) := by
  unfold State.settleWanted
  split
  · exact .refl s
  · dsimp only
    split
    · unfold State.finishCommit
      split
      · exact .of_ended rfl rfl rfl rfl rfl rfl
      · exact .of_points rfl rfl rfl rfl rfl rfl
    · exact .of_points rfl rfl rfl rfl rfl rfl

theorem verifyComplete_frame {s t : State} (h : exec .verifyComplete s = .next t) : Frame s t := by
  simp only [exec, execVerifyComplete, Host.Outcome.next.injEq] at h
  subst h
  split
  · rename_i page hc
    have ended : ∀ (u : State) succeeded, u.engine = s.engine → u.points = s.points → u.run = s.run →
        Frame s (u.settleWanted page succeeded).retestWait := fun u succeeded he hp hr =>
      (Frame.of_phase (by simp [hc]) he hp hr).trans ((settleWanted_frame _ _ _).trans (retestWait_frame _))
    split
    · exact ended _ _ rfl rfl rfl
    · split
      · refine ended _ _ ?_ ?_ ?_ <;> simp [State.commitFailed]
      · exact .of_phase (by simp [hc]) rfl rfl rfl
  · exact .refl s

/-! ### The Top-up Port (chapter 7) -/

/-- The port moves, and a WAIT tests its conditions. -/
theorem setPort_retest_frame (s : State) (port : TopUpPort) : Frame s (s.setPort port).retestWait :=
  (setPort_frame s port).trans (retestWait_frame _)

theorem collision_frame {bit : Fin 8} {s t : State} (h : exec (.collision bit) s = .next t) : Frame s t := by
  simp only [exec, execCollision, Host.Outcome.next.injEq] at h
  subst h
  split
  · exact setPort_retest_frame ..
  · exact .refl s

/-! ### Notices and the register port (chapters 8 and 11) -/

theorem writeNoticeMode_frame (s : State) (value : Word) : Frame s (s.writeNoticeMode value) := by
  unfold State.writeNoticeMode
  split
  · split
    · exact .refl s
    · exact .of_points rfl rfl rfl rfl rfl rfl
  · exact .of_points rfl rfl rfl rfl rfl rfl

theorem writeNoticeDone_frame (s : State) : Frame s s.writeNoticeDone := by
  unfold State.writeNoticeDone
  split
  · exact .of_points rfl rfl rfl rfl rfl rfl
  · exact .refl s

theorem writePointFlags_frame (s : State) (p : Fin 16) (value : Word) : Frame s (s.writePointFlags p value) :=
  setPoint_frame s ⟨rfl, rfl, Iff.rfl⟩

theorem pushTaken_frame (s : State) : Frame s s.pushTaken := by
  unfold State.pushTaken
  split
  · exact .of_points rfl rfl rfl rfl rfl rfl
  · exact .refl s

theorem readRegister_frame (s : State) (offset : BitVec 7) : Frame s (s.readRegister offset) := by
  have effect : Frame s (s.readEffect offset) := by
    unfold State.readEffect
    split
    · exact pushTaken_frame s
    · split
      · exact .refl s
      · exact .of_points rfl rfl rfl rfl rfl rfl
  exact effect.trans (.of_points rfl rfl rfl rfl rfl rfl)

theorem writeRegister_outcome (s : State) (offset : Nat) (value : Word) : StepOutcome s (s.writeRegister offset value) := by
  unfold State.writeRegister
  split
  · exact .framed (.of_points rfl rfl rfl rfl rfl rfl)
  · exact .framed (writePointFlags_frame ..)
  · split
    · exact controlWrite_outcome ..
    · exact .framed (.of_points rfl rfl rfl rfl rfl rfl)
    · exact .framed (submitted_frame ..)
    · exact .framed (popped_frame ..)
    · exact .framed (.of_points rfl rfl rfl rfl rfl rfl)
    · exact .framed (.of_points rfl rfl rfl rfl rfl rfl)
    · exact .framed (writeNoticeMode_frame ..)
    · exact .framed (writeNoticeDone_frame ..)
    · exact .framed (.of_points rfl rfl rfl rfl rfl rfl)

/-! ### Every command -/

/-- What the meaning of a command can do to the accounts. -/
theorem exec_outcome {c : Instr} {s t : State} (h : exec c s = .next t) : StepOutcome s t := by
  have engineServed : ∀ {code effect}, (∀ f u, AccountChanges u (effect f u).1) →
      (Host.Outcome.next (s.completeCommand code effect) : Host.Outcome State Fault Refusal) = .next t →
      StepOutcome s t := by
    intro code effect he ht
    cases ht
    exact completeCommand_outcome s code effect he
  have taken : ∀ {code effect}, (∀ f e, s.proc.executing = some e → Frame s (effect f s).1) →
      (Host.Outcome.next (s.takeCommand code effect) : Host.Outcome State Fault Refusal) = .next t →
      StepOutcome s t := by
    intro code effect he ht
    cases ht
    exact .framed (takeCommand_frame s code effect he)
  have ported : ∀ {port : TopUpPort},
      (Host.Outcome.next (s.setPort port) : Host.Outcome State Fault Refusal) = .next t → StepOutcome s t := by
    intro port ht
    cases ht
    exact .framed (setPort_frame ..)
  have retested : ∀ {port : TopUpPort},
      (Host.Outcome.next (s.setPort port).retestWait : Host.Outcome State Fault Refusal) = .next t → StepOutcome s t := by
    intro port ht
    cases ht
    exact .framed (setPort_retest_frame ..)
  cases c with
  | reset => exact reset_outcome h
  | loadingStart => exact loadingStart_outcome h
  | loadSettingsPage => exact loadSettingsPage_outcome h
  | loadAccountPage => exact loadAccountPage_outcome h
  | entryToHoldup conditionFirst => exact entryToHoldup_outcome h
  | entryToSafe => exact entryToSafe_outcome h
  | returnToRun => exact returnToRun_outcome h
  | tick conditionFirst => exact .framed (tick_frame h)
  | periodBoundary => exact .framed (periodBoundary_frame h)
  | graceExpiry p => exact .framed (graceExpiry_frame h)
  | routinePageEligible page => exact .framed (routinePageEligible_frame h)
  | waitTimeout => exact .framed (waitTimeout_frame h)
  | meterLineChange p => exact .framed (meterLineChange_frame h)
  | debounceComplete p => exact .framed (debounceComplete_frame h)
  | engineGrant => exact engineGrant_outcome h
  | charge => exact charge_outcome h
  | standing => exact standing_outcome h
  | applyFrame => exact applyFrame_outcome h
  | gather => exact gather_outcome h
  | submit value => exact .framed (served_frame (submitted_frame s value) h)
  | commandStart => exact .framed (commandStart_frame h)
  | badCommand => exact .framed (badCommand_frame h)
  | pop value => exact .framed (served_frame (popped_frame s) h)
  | purge value => exact served_outcome (controlWrite_outcome s value) h
  | portReset value => exact served_outcome (controlWrite_outcome s value) h
  | wait => exact .framed (wait_frame h)
  | mark => exact taken (fun f _ _ => markEffect_frame f s) h
  | openAccount => exact engineServed openEffect_changes h
  | closeAccount => exact engineServed closeEffect_changes h
  | credit => exact engineServed creditEffect_changes h
  | debit => exact engineServed debitEffect_changes h
  | transfer => exact engineServed transferEffect_changes h
  | query => exact engineServed (changes_of_state queryEffect_state) h
  | querySlot => exact engineServed (changes_of_state querySlotEffect_state) h
  | scan => exact engineServed (changes_of_state scanEffect_state) h
  | amend => exact engineServed amendEffect_changes h
  | suspend => exact engineServed (statusEffect_changes rfl) h
  | resume => exact engineServed (statusEffect_changes rfl) h
  | repair => exact engineServed repairEffect_changes h
  | discard => exact engineServed discardEffect_changes h
  | nextAttention => exact engineServed nextAttentionEffect_changes h
  | bind => exact bind_outcome h
  | unbind => exact .framed (unbind_frame h)
  | unbindDetach => exact unbindDetach_outcome h
  | configurePoint => exact taken (fun f _ _ => configureEffect_frame f s) h
  | hold => exact taken (fun f _ _ => holdEffect_frame f s) h
  | release => exact taken (fun f _ _ => releaseEffect_frame f s) h
  | queryPoint => exact taken (fun f _ _ => queryPointEffect_frame f s) h
  | setDefer => exact taken (fun f _ _ => setDeferEffect_frame f s) h
  | setTariff => exact taken (fun f _ hx => setTariffEffect_frame f s hx) h
  | setBand => exact taken (fun f _ hx => setBandEffect_frame f s hx) h
  | setPeriod => exact taken (fun f _ hx => setPeriodEffect_frame f s hx) h
  | setTopup => exact taken (fun f _ _ => setTopupEffect_frame f s) h
  | setInterval => exact taken (fun f _ _ => setIntervalEffect_frame f s) h
  | commit => exact .framed (commit_frame h)
  | commitStart => exact .framed (commitStart_frame h)
  | eraseComplete => exact .framed (eraseComplete_frame h)
  | programComplete written => exact .framed (programComplete_frame h)
  | verifyComplete => exact .framed (verifyComplete_frame h)
  | busStart => exact retested h
  | busStop => exact retested h
  | addressByte byte => exact ported h
  | kindByte byte => exact ported h
  | frameByte byte => exact ported h
  | discardByte byte => exact ported h
  | replyByte acknowledged => exact retested h
  | collision bit => exact .framed (collision_frame h)
  | busTimeout => exact retested h
  | noticeReadyWrite value =>
    exact .framed (served_frame (u := s.writeNoticeReady value) (.of_points rfl rfl rfl rfl rfl rfl) h)
  | noticeEnableWrite value =>
    exact .framed (served_frame (u := s.writeNoticeEnable value) (.of_points rfl rfl rfl rfl rfl rfl) h)
  | noticeModeWrite value => exact .framed (served_frame (writeNoticeMode_frame s value) h)
  | noticeTake => exact .framed (served_frame (readRegister_frame s 0x19) h)
  | noticeDone value => exact .framed (served_frame (writeNoticeDone_frame s) h)
  | errorsWrite value => exact .framed (served_frame (u := s.writeErrors value) (.of_points rfl rfl rfl rfl rfl rfl) h)
  | pointFlagsWrite p value => exact .framed (served_frame (writePointFlags_frame s p value) h)
  | unassignedRead offset => exact .framed (served_frame (readRegister_frame s offset) h)
  | registerWrite offset value => exact served_outcome (writeRegister_outcome s offset.toNat value) h

/-- What one step can do to the accounts: nothing on an empty queue, else what the meaning of the front command does. -/
theorem step_outcome {s t : State} (h : step s = .next t) : s = t ∨ ∃ rest, StepOutcome { s with pending := rest } t := by
  unfold step at h
  split at h
  · cases h; exact .inl rfl
  · rename_i rest _; exact .inr ⟨rest, exec_outcome h⟩

end Sys2Proof.Machine.Proofs

namespace Sys2Proof.Machine.Proofs

open Sys2Proof Sys2Proof.Machine Sys2Proof.Machine.Laws

/-! ### Load (section 9.6) -/

/-- What load leaves as it is while it applies an account page: run state, points, and all that is in hand. -/
structure LoadFrame (s t : State) : Prop where
  run : t.run = s.run
  op : t.engine.op = s.engine.op
  points : t.points = s.points
  executing : t.proc.executing = s.proc.executing
  phase : t.commit.phase = s.commit.phase
  timer : t.timer = s.timer

theorem LoadFrame.refl (s : State) : LoadFrame s s := ⟨rfl, rfl, rfl, rfl, rfl, rfl⟩

theorem LoadFrame.trans {s t u : State} (h : LoadFrame s t) (h' : LoadFrame t u) : LoadFrame s u :=
  ⟨h'.run.trans h.run, h'.op.trans h.op, h'.points.trans h.points, h'.executing.trans h.executing,
    h'.phase.trans h.phase, h'.timer.trans h.timer⟩

/-- One slot has been loaded with a record: an ACTIVE or SUSPENDED one enters the directory with a number that no entry has,
and a reason joins the attention list for a slot that is not FREE alone (R9). -/
structure SlotLoaded (s t : State) (slot : Fin 64) (a : Account) : Prop extends LoadFrame s t where
  record : ∀ i, t.slot i = if slot = i then a else s.slot i
  directory : a.status.listed = true ∧ s.lookup a.number = none ∧
      t.engine.directory = insertEntry { number := a.number, slot } s.engine.directory ∨
    a.status.listed = false ∧ t.engine.directory = s.engine.directory
  attention : t.engine.attention = s.engine.attention ∨
    a.status ≠ .free ∧ ∃ r, r.isEmpty = false ∧ t.engine.attention = joinReasons slot r s.engine.attention
  range : RecordInRange a

theorem loadRecord_inRange (stored : StoredAccount) (status : Status) : RecordInRange (loadRecord stored status) := by
  have number := bcdMended_lt 8 stored.number.toNat
  have balance := bcdMended_lt 10 stored.balance.toNat
  have ec := bcdMended_lt 8 stored.ec.toNat
  have low := bcdMended_lt 8 stored.low.toNat
  obtain ⟨above, below⟩ := signed_range (sign := stored.sign.toNat) (v := bcdMended 10 stored.balance.toNat) (by omega)
  exact relevelled_inRange ⟨by dsimp only; omega, by dsimp only; omega, by dsimp only; omega, above, below⟩

theorem zeroedRecord_inRange : RecordInRange zeroedRecord := by
  constructor
  · constructor <;> decide
  · intro _; rfl

theorem setSlot_free_loaded (s : State) (slot : Fin 64) : SlotLoaded s (s.setSlot slot Account.free) slot Account.free :=
  ⟨⟨rfl, rfl, rfl, rfl, rfl, rfl⟩, fun _ => slot_setSlot .., .inr ⟨rfl, rfl⟩, .inl rfl, free_inRange⟩

theorem SlotLoaded.setLoadDamage {s t : State} {slot : Fin 64} {a : Account} (h : SlotLoaded s t slot a) :
    SlotLoaded s t.setLoadDamage slot a :=
  ⟨⟨h.run, h.op, h.points, h.executing, h.phase, h.timer⟩, h.record, h.directory, h.attention, h.range⟩

theorem quarantine_loaded (s : State) (slot : Fin 64) (a : Account)
    (ha : RecordInRange { a with status := .quarantined }) :
    SlotLoaded s (s.quarantine slot a) slot { a with status := .quarantined } where
  run := by simp [State.quarantine]
  op := by simp [State.quarantine, State.setSlot]
  points := by simp [State.quarantine]
  executing := by simp [State.quarantine]
  phase := by simp [State.quarantine]
  timer := by simp [State.quarantine]
  record i := by simp only [State.quarantine, slot_addReasons, slot_setSlot]
  directory := .inr ⟨rfl, by simp [State.quarantine, State.setSlot]⟩
  attention := .inr ⟨by simp, { quarantine := true }, rfl, rfl⟩
  range := ha

theorem loadRecord_quarantined_inRange (stored : StoredAccount) (status : Status) :
    RecordInRange { loadRecord stored status with status := .quarantined } :=
  loadRecord_inRange stored .quarantined

theorem loadAccount_loaded (s : State) (slot : Fin 64) (stored : StoredAccount) {status : Status}
    (hs : status.listed = true) : ∃ a, SlotLoaded s (s.loadAccount slot stored status) slot a := by
  unfold State.loadAccount
  dsimp only
  split
  · rename_i h
    exact ⟨_, ⟨rfl, rfl, rfl, rfl, rfl, rfl⟩, fun _ => slot_setSlot .., .inl ⟨hs, h.2.2, rfl⟩, .inl rfl,
      loadRecord_inRange ..⟩
  · exact ⟨_, (quarantine_loaded s slot _ (loadRecord_quarantined_inRange stored status)).setLoadDamage⟩

theorem loadSlot_loaded (s : State) (slot : Fin 64) (stored : StoredAccount) :
    ∃ a, SlotLoaded s (s.loadSlot slot stored) slot a := by
  have quarantined := quarantine_loaded s slot _ (loadRecord_quarantined_inRange stored .quarantined)
  unfold State.loadSlot
  split
  · exact ⟨_, setSlot_free_loaded s slot⟩
  split
  · exact loadAccount_loaded s slot stored rfl
  split
  · exact loadAccount_loaded s slot stored rfl
  split
  · exact ⟨_, quarantined⟩
  · exact ⟨_, quarantined.setLoadDamage⟩

/-- The slots of a page have been loaded one after another. -/
inductive SlotsLoaded (page : Fin 8) : List (Fin 8) → State → State → Prop
  | nil (s : State) : SlotsLoaded page [] s s
  | cons {s u t : State} {j : Fin 8} {js : List (Fin 8)} (a : Account) (first : SlotLoaded s u (slotAt page j) a)
      (rest : SlotsLoaded page js u t) : SlotsLoaded page (j :: js) s t

theorem foldl_slotsLoaded (page : Fin 8) (f : State → Fin 8 → State)
    (h : ∀ s j, ∃ a, SlotLoaded s (f s j) (slotAt page j) a) (js : List (Fin 8)) (s : State) :
    SlotsLoaded page js s (js.foldl f s) := by
  induction js generalizing s with
  | nil => exact .nil s
  | cons j js ih =>
    obtain ⟨a, first⟩ := h s j
    exact .cons a first (ih _)

/-- The eight slots of an account page are loaded, in ascending order (R187). -/
theorem applyAccountPage_loaded (s : State) (page : Fin 8) :
    ∃ u, (u = s ∨ u = s.markDamaged page.castSucc) ∧ SlotsLoaded page (List.finRange 8) u (s.applyAccountPage page) := by
  have damaged : ∀ u : State, SlotsLoaded page (List.finRange 8) u (u.quarantinePage page) := fun u =>
    foldl_slotsLoaded page _ (fun v _ => ⟨_, (quarantine_loaded v _ zeroedRecord zeroedRecord_inRange).setLoadDamage⟩) _ u
  unfold State.applyAccountPage
  split
  · exact ⟨s, .inl rfl, foldl_slotsLoaded page _ (fun u _ => ⟨_, setSlot_free_loaded u _⟩) _ s⟩
  · exact ⟨s, .inl rfl, foldl_slotsLoaded page _ (fun u _ => loadSlot_loaded u _ _) _ s⟩
  · exact ⟨s, .inl rfl, damaged s⟩
  · exact ⟨_, .inr rfl, damaged _⟩

theorem SlotsLoaded.frame {page : Fin 8} {js : List (Fin 8)} {s t : State} (h : SlotsLoaded page js s t) :
    LoadFrame s t := by
  induction h with
  | nil s => exact .refl s
  | cons a first _ ih => exact first.toLoadFrame.trans ih

theorem slotAt_onPage (page j : Fin 8) : onPage page (slotAt page j) = true := by
  simp only [onPage, slotAt, beq_iff_eq]
  omega

/-- A slot on another page is as it was. -/
theorem SlotsLoaded.other {page : Fin 8} {js : List (Fin 8)} {s t : State} (h : SlotsLoaded page js s t) {i : Fin 64}
    (hi : onPage page i = false) : t.slot i = s.slot i := by
  induction h with
  | nil s => rfl
  | cons a first _ ih =>
    rw [ih, first.record, if_neg]
    rintro rfl
    simp [slotAt_onPage] at hi

/-- Load of a page leaves the frame of load. -/
theorem applyAccountPage_frame (s : State) (page : Fin 8) : LoadFrame s (s.applyAccountPage page) := by
  obtain ⟨u, rfl | rfl, h⟩ := applyAccountPage_loaded s page
  · exact h.frame
  · have marked : LoadFrame s (s.markDamaged page.castSucc) := ⟨rfl, rfl, rfl, rfl, rfl, rfl⟩
    exact marked.trans h.frame

theorem applyAccountPage_other (s : State) (page : Fin 8) {i : Fin 64} (hi : onPage page i = false) :
    (s.applyAccountPage page).slot i = s.slot i := by
  obtain ⟨u, rfl | rfl, h⟩ := applyAccountPage_loaded s page
  · exact h.other hi
  · exact h.other hi

/-! ### Reconciling the points (R188) -/

/-- The points reconciled and counted, before the settings page is reported. -/
theorem reconcile_cases (s : State) (page : Fin 8) :
    s.reconcile page = ((s.mapPoints (s.reconciled page)).countBindings page).report settingsPage true ∨
      s.reconcile page = (s.mapPoints (s.reconciled page)).countBindings page :=
  ite_eq_or_eq ..

@[simp] theorem countBindings_points (s : State) (page : Fin 8) : (s.countBindings page).points = s.points := by
  simp only [State.countBindings]
@[simp] theorem countBindings_run (s : State) (page : Fin 8) : (s.countBindings page).run = s.run := by
  simp only [State.countBindings]
@[simp] theorem countBindings_op (s : State) (page : Fin 8) : (s.countBindings page).engine.op = s.engine.op := by
  simp only [State.countBindings]
@[simp] theorem countBindings_directory (s : State) (page : Fin 8) :
    (s.countBindings page).engine.directory = s.engine.directory := by
  simp only [State.countBindings]
@[simp] theorem countBindings_attention (s : State) (page : Fin 8) :
    (s.countBindings page).engine.attention = s.engine.attention := by
  simp only [State.countBindings]
@[simp] theorem countBindings_proc (s : State) (page : Fin 8) : (s.countBindings page).proc = s.proc := by
  simp only [State.countBindings]
@[simp] theorem countBindings_commit (s : State) (page : Fin 8) : (s.countBindings page).commit = s.commit := by
  simp only [State.countBindings]
@[simp] theorem countBindings_timer (s : State) (page : Fin 8) : (s.countBindings page).timer = s.timer := by
  simp only [State.countBindings]

theorem countBindings_slot (s : State) (page : Fin 8) (i : Fin 64) :
    (s.countBindings page).slot i =
      if onPage page i then { s.slot i with boundCount := s.bindingsOf i } else s.slot i := by
  simp only [State.countBindings, State.slot, Fin.getElem_fin, Vector.getElem_ofFn]
  rfl

theorem bindingsOf_of_points {s t : State} (h : t.points = s.points) (i : Fin 64) : t.bindingsOf i = s.bindingsOf i := by
  simp [State.bindingsOf, State.point, h]

theorem reconcile_points (s : State) (page : Fin 8) :
    (s.reconcile page).points = (s.mapPoints (s.reconciled page)).points := by
  rcases reconcile_cases s page with h | h <;> rw [h] <;> simp

/-- The slots of the page count the points bound to them, and every other record is as it was. -/
theorem reconcile_slot (s : State) (page : Fin 8) (i : Fin 64) :
    (s.reconcile page).slot i =
      if onPage page i then { s.slot i with boundCount := (s.reconcile page).bindingsOf i } else s.slot i := by
  rw [bindingsOf_of_points (reconcile_points s page)]
  rcases reconcile_cases s page with h | h <;> simp only [h, slot_report, countBindings_slot] <;> rfl

theorem reconcile_point (s : State) (page : Fin 8) (p : Fin 16) :
    (s.reconcile page).point p = s.reconciled page (s.point p) := by
  rw [point_of_points (reconcile_points s page), point_mapPoints]

/-- What reconciling the points leaves as it is. -/
structure ReconcileFrame (s t : State) : Prop where
  run : t.run = s.run
  op : t.engine.op = s.engine.op
  directory : t.engine.directory = s.engine.directory
  attention : t.engine.attention = s.engine.attention
  executing : t.proc.executing = s.proc.executing
  phase : t.commit.phase = s.commit.phase
  timer : t.timer = s.timer

theorem reconcile_frame (s : State) (page : Fin 8) : ReconcileFrame s (s.reconcile page) := by
  rcases reconcile_cases s page with h | h <;> rw [h]
  · constructor <;> simp [(report_keeps _ _ _).1]
  · constructor <;> simp

/-! ### The end of load (R192) -/

theorem endLoading_kept (s : State) :
    AccountsKept s s.endLoading ∧ s.endLoading.engine.op = s.engine.op ∧ s.endLoading.operating = true ∧
      s.endLoading.run.loadPage = 0 := by
  unfold State.endLoading
  dsimp only
  split
  · obtain ⟨accounts, op, run, page⟩ := enterHoldup_kept
      { s with timer.remaining := s.timer.periodLength, run.loadPage := 0 } false
    have loaded : AccountsKept s { s with timer.remaining := s.timer.periodLength, run.loadPage := 0 } := .of_blocks rfl rfl
    exact ⟨loaded.trans accounts, op, by simp [State.operating, run], page⟩
  · exact ⟨.of_blocks rfl rfl, rfl, by simp [State.operating], rfl⟩

/-- A page of the state that LOAD_ACCOUNT_PAGE leaves: the accounts of the reconciled page, and load moved on (R187, R192). -/
structure PageTaken (s t : State) (page : Fin 8) : Prop where
  accounts : AccountsKept ((s.applyAccountPage page).reconcile page) t
  op : t.engine.op = s.engine.op
  moved : t.operating = true ∧ t.run.loadPage = 0 ∧ page = 7 ∨
    t.run.runState = s.run.runState ∧ t.run.loadPage = page.succ ∧ page ≠ 7 ∧ (NothingInHand s → NothingInHand t)

theorem pageTaken (s : State) (page : Fin 8) :
    PageTaken s (if page = 7 then ((s.applyAccountPage page).reconcile page).endLoading
      else { (s.applyAccountPage page).reconcile page with
        run := { ((s.applyAccountPage page).reconcile page).run with loadPage := page.succ } }) page := by
  have applied := applyAccountPage_frame s page
  have reconciled := reconcile_frame (s.applyAccountPage page) page
  split
  · rename_i h7
    obtain ⟨accounts, op, operating, loadPage⟩ := endLoading_kept ((s.applyAccountPage page).reconcile page)
    exact ⟨accounts, op.trans (reconciled.op.trans applied.op), .inl ⟨operating, loadPage, h7⟩⟩
  · rename_i h7
    refine ⟨.of_blocks rfl rfl, reconciled.op.trans applied.op, .inr ⟨?_, rfl, h7, fun h => ?_⟩⟩
    · show ((s.applyAccountPage page).reconcile page).run.runState = s.run.runState
      rw [reconciled.run, applied.run]
    · exact h.congr (reconciled.op.trans applied.op) (reconciled.executing.trans applied.executing)
        (reconciled.phase.trans applied.phase) (reconciled.timer.trans applied.timer)

theorem accountPage_eq {loadPage : Fin 9} {page : Fin 8} (h : accountPage loadPage = some page) :
    loadPage.val = page.val := by
  unfold accountPage at h
  split at h <;> cases h
  rfl

/-! ### The settings page (R186) -/

/-- What load of the settings page leaves as it is, and what it makes of the points. -/
structure SettingsTaken (s t : State) : Prop where
  engine : t.engine = s.engine
  executing : t.proc.executing = s.proc.executing
  phase : t.commit.phase = s.commit.phase
  sweep : t.timer.sweep = s.timer.sweep
  owed : t.timer.owed = s.timer.owed
  remaining : t.timer.remaining = s.timer.remaining
  points : ∀ p, ∃ stored, t.point p = (s.point p).configured stored

theorem takeSettings_taken (s : State) (stored : StoredSettings) : SettingsTaken s (s.takeSettings stored) :=
  ⟨rfl, rfl, rfl, rfl, rfl, rfl, fun p => ⟨stored.points[p], by simp [State.point, State.takeSettings]⟩⟩

theorem SettingsTaken.settingsDamaged {s t : State} (h : SettingsTaken s t) : SettingsTaken s t.settingsDamaged :=
  ⟨h.engine, h.executing, h.phase, h.sweep, h.owed, h.remaining, h.points⟩

theorem applySettingsPage_taken (s : State) : SettingsTaken s s.applySettingsPage := by
  unfold State.applySettingsPage
  split
  · exact takeSettings_taken ..
  · split
    · exact (takeSettings_taken ..).settingsDamaged
    · exact takeSettings_taken ..
  · exact (takeSettings_taken ..).settingsDamaged
  · exact (takeSettings_taken ..).settingsDamaged

/-! ### A quiet LOADING (R46, R84, R88, R99, R177) -/

theorem nothingInHand_of_loading {s : State} (h : LoadingQuiet s) (hr : s.run.runState = .loading) : NothingInHand s :=
  ((loadingQuiet_iff s).mp h).1 (by simp [State.operating, hr])

/-- The operation of an operating part completes. -/
theorem loadingQuiet_of_control {s t : State} (h : LoadingQuiet s) (hb : s.engine.op ≠ .free)
    (hr : t.run.runState = s.run.runState) (hp : t.run.loadPage = s.run.loadPage) : LoadingQuiet t :=
  have was := operating_of_busy h hb
  loadingQuiet_of_operating was ((operating_of_runState hr).trans was) (.inr hp) h

/-- Every step keeps LOADING quiet. -/
theorem outcome_keeps_loadingQuiet {s t : State} (o : StepOutcome s t) (h : LoadingQuiet s) : LoadingQuiet t := by
  cases o with
  | kept accounts phase charge quiet => exact quiet h
  | completed busy changes =>
    have control := accountChanges_control changes
    exact loadingQuiet_of_control h busy control.runState control.loadPage
  | charged p n slot price busy u a update frame =>
    exact loadingQuiet_of_control h (by simp [busy]) (frame.runState.trans update.runState)
      (frame.loadPage.trans update.loadPage)
  | cleared engine points quiet run =>
    refine (loadingQuiet_iff t).mpr ⟨fun _ => quiet, fun hr => ?_⟩
    rcases run with ⟨-, hp⟩ | ⟨hl, -⟩
    · exact hp
    · exact absurd hl hr
  | settingsLoaded runState loadPage result =>
    have taken := applySettingsPage_taken s
    have hand := nothingInHand_of_loading h runState
    subst result
    exact (loadingQuiet_iff _).mpr ⟨fun _ => ⟨taken.engine ▸ hand.op, taken.executing.trans hand.executing,
      taken.phase.trans hand.phase, taken.sweep.trans hand.sweep, taken.owed.trans hand.owed,
      taken.remaining.trans hand.remaining⟩, fun _ => rfl⟩
  | pageLoaded page runState loadPage result =>
    subst result
    have hand := nothingInHand_of_loading h runState
    rcases (pageTaken s page).moved with ⟨operating, hp, -⟩ | ⟨hr, -, -, quiet⟩
    · exact (loadingQuiet_iff _).mpr ⟨fun ho => by simp [operating] at ho, fun _ => hp⟩
    · exact (loadingQuiet_iff _).mpr ⟨fun _ => quiet hand, fun hn => absurd (hr.trans runState) hn⟩

end Sys2Proof.Machine.Proofs

namespace Sys2Proof.Machine.Proofs

open Sys2Proof Sys2Proof.Machine Sys2Proof.Machine.Laws

/-! ### The directory (R15 to R18) -/

theorem mem_insertEntry {e d : DirectoryEntry} {entries : List DirectoryEntry} :
    d ∈ insertEntry e entries ↔ d = e ∨ d ∈ entries := by
  induction entries with
  | nil => simp [insertEntry]
  | cons x rest ih =>
    unfold insertEntry
    split
    · simp
    · simp only [List.mem_cons, ih]; tauto

/-- An entry with a number that no entry has keeps the numbers strictly ascending (R17). -/
theorem pairwise_insertEntry {e : DirectoryEntry} {entries : List DirectoryEntry}
    (h : entries.Pairwise fun a b => a.number < b.number) (fresh : ∀ d ∈ entries, d.number ≠ e.number) :
    (insertEntry e entries).Pairwise fun a b => a.number < b.number := by
  induction entries with
  | nil => simp [insertEntry]
  | cons x rest ih =>
    obtain ⟨first, later⟩ := List.pairwise_cons.mp h
    unfold insertEntry
    split
    · rename_i hx
      refine List.pairwise_cons.mpr ⟨fun d hd => ?_, h⟩
      rcases List.mem_cons.mp hd with rfl | hd
      · exact hx
      · exact hx.trans (first d hd)
    · refine List.pairwise_cons.mpr ⟨fun d hd => ?_, ih later fun d hd => fresh d (List.mem_cons_of_mem _ hd)⟩
      rcases mem_insertEntry.mp hd with rfl | hd
      · have := fresh x List.mem_cons_self
        omega
      · exact first d hd

theorem lookup_eq_none_iff (s : State) (number : Nat) :
    s.lookup number = none ↔ ∀ e ∈ s.engine.directory, e.number ≠ number := by
  simp [State.lookup]

/-- Slots whose status and number the directory reads alike, under the same directory. -/
theorem directoryExact_congr {s t : State} (h : DirectoryExact s) (hd : t.engine.directory = s.engine.directory)
    (hl : ∀ i, (t.slot i).status.listed = (s.slot i).status.listed) (hn : ∀ i, (t.slot i).number = (s.slot i).number) :
    DirectoryExact t := by
  obtain ⟨ascending, sound, complete⟩ := h
  refine ⟨hd ▸ ascending, fun e he => ?_, fun i hi => ?_⟩
  · rw [hl, hn]; exact sound e (hd ▸ he)
  · rw [hd]; exact complete i (hl i ▸ hi)

/-- An unlisted slot takes an ACTIVE or SUSPENDED record with a number that no entry has, and its entry (R17). -/
theorem directoryExact_insert {s t : State} {slot : Fin 64} {a : Account} (h : DirectoryExact s)
    (hr : ∀ i, t.slot i = if slot = i then a else s.slot i) (was : (s.slot slot).status.listed = false)
    (listed : a.status.listed = true) (fresh : s.lookup a.number = none)
    (hd : t.engine.directory = insertEntry { number := a.number, slot } s.engine.directory) : DirectoryExact t := by
  obtain ⟨ascending, sound, complete⟩ := h
  refine ⟨hd ▸ pairwise_insertEntry ascending ((lookup_eq_none_iff s _).mp fresh), fun e he => ?_, fun i hi => ?_⟩
  · rw [hd, mem_insertEntry] at he
    rcases he with rfl | he
    · rw [hr, if_pos rfl]; exact ⟨listed, rfl⟩
    · have hs := sound e he
      have hne : slot ≠ e.slot := by
        rintro rfl; simp [was] at hs
      rw [hr, if_neg hne]; exact hs
  · rw [hd]
    by_cases hi' : slot = i
    · exact ⟨_, mem_insertEntry.mpr (.inl rfl), hi'⟩
    · rw [hr, if_neg hi'] at hi
      obtain ⟨e, he, hs⟩ := complete i hi
      exact ⟨e, mem_insertEntry.mpr (.inr he), hs⟩

/-- An unlisted slot takes an unlisted record: the directory does not change. -/
theorem directoryExact_unlisted {s t : State} {slot : Fin 64} {a : Account} (h : DirectoryExact s)
    (hr : ∀ i, t.slot i = if slot = i then a else s.slot i) (was : (s.slot slot).status.listed = false)
    (now : a.status.listed = false) (hd : t.engine.directory = s.engine.directory) : DirectoryExact t := by
  obtain ⟨ascending, sound, complete⟩ := h
  refine ⟨hd ▸ ascending, fun e he => ?_, fun i hi => ?_⟩
  · have hs := sound e (hd ▸ he)
    have hne : slot ≠ e.slot := by
      rintro rfl; simp [was] at hs
    rw [hr, if_neg hne]; exact hs
  · rw [hd]
    rw [hr] at hi
    split at hi
    · simp [now] at hi
    · exact complete i hi

/-- A slot becomes FREE and loses its entry (R18). -/
theorem directoryExact_remove {s t : State} {slot : Fin 64} (h : DirectoryExact s)
    (hr : ∀ i, t.slot i = if slot = i then Account.free else s.slot i)
    (hd : t.engine.directory = s.engine.directory.filter fun e => e.slot != slot) : DirectoryExact t := by
  obtain ⟨ascending, sound, complete⟩ := h
  refine ⟨hd ▸ ascending.filter _, fun e he => ?_, fun i hi => ?_⟩
  · rw [hd, List.mem_filter, bne_iff_ne] at he
    rw [hr, if_neg he.2.symm]; exact sound e he.1
  · rw [hr] at hi
    split at hi
    · simp [Account.free, Status.listed] at hi
    · rename_i hne
      obtain ⟨e, he, hs⟩ := complete i hi
      exact ⟨e, by rw [hd, List.mem_filter, bne_iff_ne]; exact ⟨he, hs ▸ Ne.symm hne⟩, hs⟩

theorem SlotRewritten.keeps_directory {s t : State} {slot : Fin 64} {a : Account} (r : SlotRewritten s t slot a)
    (hd : t.engine.directory = s.engine.directory) (hn : a.number = (s.slot slot).number)
    (hl : a.status.listed = (s.slot slot).status.listed) (h : DirectoryExact s) : DirectoryExact t := by
  refine directoryExact_congr h hd (fun i => ?_) fun i => ?_ <;> rw [r.record] <;> split
  · rename_i hi; exact hi ▸ hl
  · rfl
  · rename_i hi; exact hi ▸ hn
  · rfl

/-- A new status is listed like the old one. -/
theorem AccountUpdate.listed_eq {s t : State} {slot : Fin 64} {a : Account} (u : AccountUpdate s t slot a)
    (h : DirectoryExact s) : a.status.listed = (s.slot slot).status.listed := by
  rcases u.status with hs | ⟨now, was⟩
  · rw [hs]
  · rw [now, was h]

theorem AccountUpdate.keeps_directory {s t : State} {slot : Fin 64} {a : Account} (u : AccountUpdate s t slot a)
    (h : DirectoryExact s) : DirectoryExact t :=
  u.toSlotRewritten.keeps_directory u.directory u.number (u.listed_eq h) h

theorem AccountsKept.keeps_directory {s t : State} (k : AccountsKept s t) (h : DirectoryExact s) : DirectoryExact t :=
  directoryExact_congr h k.directory (fun i => by rw [k.slot]) fun i => by rw [k.slot]

theorem CountedPoint.keeps_directory {s t : State} {p : Fin 16} {slot : Fin 64} {n : Nat} {r : Point}
    (c : CountedPoint s t p slot n r) (h : DirectoryExact s) : DirectoryExact t := by
  refine directoryExact_congr h c.directory (fun i => ?_) fun i => ?_ <;> rw [c.record] <;> split <;> simp [*]

theorem AccountChange.keeps_directory {s t : State} (c : AccountChange s t) (h : DirectoryExact s) : DirectoryExact t := by
  cases c with
  | kept control accounts => exact accounts.keeps_directory h
  | updated slot a listed update => exact update.keeps_directory h
  | entered slot a entry =>
    exact directoryExact_insert h entry.record entry.unlisted entry.listed entry.fresh entry.directory
  | freed slot freed =>
    rcases freed.directory with hd | ⟨hd, unlisted⟩
    · exact directoryExact_remove h freed.record hd
    · exact directoryExact_unlisted h freed.record unlisted rfl hd
  | attentionTaken taken =>
    exact directoryExact_congr h taken.directory (fun i => by rw [slot_of_slots taken.slots])
      fun i => by rw [slot_of_slots taken.slots]
  | bound p slot was listed bound => exact bound.keeps_directory h
  | unbound p slot was unbound => exact unbound.keeps_directory h

theorem AccountChanges.keep_directory {s t : State} (c : AccountChanges s t) (h : DirectoryExact s) :
    DirectoryExact t := by
  induction c with
  | refl => exact h
  | tail _ last ih => exact last.keeps_directory ih

/-! Load: each slot was FREE before it is loaded, so no entry names it. -/

theorem SlotLoaded.keeps_directory {s t : State} {slot : Fin 64} {a : Account} (l : SlotLoaded s t slot a)
    (was : (s.slot slot).status = .free) (h : DirectoryExact s) : DirectoryExact t := by
  have unlisted : (s.slot slot).status.listed = false := by rw [was]; rfl
  rcases l.directory with ⟨listed, fresh, hd⟩ | ⟨now, hd⟩
  · exact directoryExact_insert h l.record unlisted listed fresh hd
  · exact directoryExact_unlisted h l.record unlisted now hd

/-- Slots of one page at different places are different slots. -/
theorem slotAt_injective {page j k : Fin 8} (h : slotAt page j = slotAt page k) : j = k := by
  have := congrArg Fin.val h
  simp only [slotAt] at this
  omega

/-- The records of a page still to be loaded are FREE after one of them has been loaded. -/
theorem SlotLoaded.rest_free {page j : Fin 8} {js : List (Fin 8)} {s t : State} {a : Account}
    (l : SlotLoaded s t (slotAt page j) a) (hj : j ∉ js) (free : ∀ k ∈ js, (s.slot (slotAt page k)).status = .free) :
    ∀ k ∈ js, (t.slot (slotAt page k)).status = .free := by
  intro k hk
  rw [l.record, if_neg]
  · exact free k hk
  · intro h
    exact hj (slotAt_injective h ▸ hk)

theorem SlotsLoaded.keep_directory {page : Fin 8} {js : List (Fin 8)} {s t : State} (l : SlotsLoaded page js s t)
    (nodup : js.Nodup) (free : ∀ k ∈ js, (s.slot (slotAt page k)).status = .free) (h : DirectoryExact s) :
    DirectoryExact t := by
  induction l with
  | nil s => exact h
  | cons a first _ ih =>
    obtain ⟨hj, nodup⟩ := List.nodup_cons.mp nodup
    exact ih nodup (first.rest_free hj fun k hk => free k (List.mem_cons_of_mem _ hk))
      (first.keeps_directory (free _ List.mem_cons_self) h)

/-- The slots of the page that LOAD_ACCOUNT_PAGE loads are FREE before it (R14). -/
theorem page_unloaded {s : State} {page : Fin 8} (h : UnloadedFree s) (hr : s.run.runState = .loading)
    (hp : accountPage s.run.loadPage = some page) (j : Fin 8) : (s.slot (slotAt page j)).status = .free := by
  refine h _ (.inr ⟨hr, .inr ?_⟩)
  rw [accountPage_eq hp]
  simp only [slotAt]
  omega

theorem applyAccountPage_directory {s : State} {page : Fin 8} (free : ∀ j, (s.slot (slotAt page j)).status = .free)
    (h : DirectoryExact s) : DirectoryExact (s.applyAccountPage page) := by
  obtain ⟨u, rfl | rfl, l⟩ := applyAccountPage_loaded s page
  · exact l.keep_directory (List.nodup_finRange 8) (fun k _ => free k) h
  · exact l.keep_directory (List.nodup_finRange 8) (fun k _ => free k) h

theorem reconcile_directory {s : State} (page : Fin 8) (h : DirectoryExact s) : DirectoryExact (s.reconcile page) := by
  refine directoryExact_congr h (reconcile_frame s page).directory (fun i => ?_) fun i => ?_ <;> rw [reconcile_slot] <;>
    split <;> rfl

/-! ### Unloaded slots are FREE (R14) -/

theorem unloadedFree_of_operating {s : State} (h : s.operating = true) : UnloadedFree s :=
  fun i hi => absurd hi (not_unloaded_of_operating h i)

theorem AccountsKept.keeps_unloadedFree {s t : State} (k : AccountsKept s t) (hp : ∀ i, Unloaded t i → Unloaded s i)
    (h : UnloadedFree s) : UnloadedFree t := fun i hi => by
  rw [k.slot]; exact h i (hp i hi)

theorem slot_atReset {t : State} (h : t.engine = AccountEngine.atReset) (i : Fin 64) : t.slot i = Account.free := by
  simp [State.slot, h, AccountEngine.atReset]

theorem outcome_keeps_unloadedFree {s t : State} (o : StepOutcome s t) (hq : LoadingQuiet s) (h : UnloadedFree s) :
    UnloadedFree t := by
  cases o with
  | kept accounts phase charge quiet => exact accounts.keeps_unloadedFree phase.unloaded h
  | completed busy changes =>
    have was := operating_of_busy hq busy
    exact unloadedFree_of_operating ((operating_of_runState (accountChanges_control changes).runState).trans was)
  | charged p n slot price busy u a update frame =>
    have was := operating_of_busy hq (by simp [busy])
    exact unloadedFree_of_operating ((operating_of_runState (frame.runState.trans update.runState)).trans was)
  | cleared engine points quiet run => exact fun i _ => by rw [slot_atReset engine]; rfl
  | settingsLoaded runState loadPage result =>
    subst result
    intro i _
    show (s.applySettingsPage.slot i).status = .free
    rw [slot_of_engine (applySettingsPage_taken s).engine]
    exact h i (.inr ⟨runState, .inl loadPage⟩)
  | pageLoaded page runState loadPage result =>
    subst result
    have taken := pageTaken s page
    rcases taken.moved with ⟨operating, -⟩ | ⟨hr, hp, h7, -⟩
    · exact unloadedFree_of_operating operating
    · intro i hi
      have beyond : page.val + 1 ≤ i.val / 8 := by
        rcases hi with hi | ⟨-, hi | hi⟩
        · simp [hr, runState] at hi
        · exact absurd (Fin.succ_inj.mp (hp.symm.trans hi : page.succ = (7 : Fin 8).succ)) h7
        · simpa [hp] using hi
      have other : onPage page i = false := by
        simp only [onPage, beq_eq_false_iff_ne]
        omega
      rw [taken.accounts.slot, reconcile_slot, other]
      simp only [Bool.false_eq_true, if_false]
      rw [applyAccountPage_other s page other]
      refine h i (.inr ⟨runState, .inr ?_⟩)
      rw [accountPage_eq loadPage]
      omega

theorem outcome_keeps_directoryExact {s t : State} (o : StepOutcome s t) (hu : UnloadedFree s) (h : DirectoryExact s) :
    DirectoryExact t := by
  cases o with
  | kept accounts phase charge quiet => exact accounts.keeps_directory h
  | completed busy changes => exact changes.keep_directory h
  | charged p n slot price busy u a update frame => exact frame.accounts.keeps_directory (update.keeps_directory h)
  | cleared engine points quiet run =>
    refine ⟨?_, fun e he => ?_, fun i hi => ?_⟩
    · rw [engine]; exact List.Pairwise.nil
    · rw [engine] at he; cases he
    · rw [slot_atReset engine] at hi; cases hi
  | settingsLoaded runState loadPage result =>
    subst result
    have engine := (applySettingsPage_taken s).engine
    exact directoryExact_congr h (congrArg AccountEngine.directory engine)
      (fun i => congrArg (fun a => a.status.listed) (slot_of_engine engine i))
      fun i => congrArg Account.number (slot_of_engine engine i)
  | pageLoaded page runState loadPage result =>
    subst result
    exact (pageTaken s page).accounts.keeps_directory
      (reconcile_directory page (applyAccountPage_directory (page_unloaded hu runState loadPage) h))

theorem outcome_keeps_directorySound {s t : State} (o : StepOutcome s t) (h : DirectorySound s) : DirectorySound t :=
  ⟨outcome_keeps_loadingQuiet o h.1, outcome_keeps_unloadedFree o h.1 h.2.1, outcome_keeps_directoryExact o h.2.1 h.2.2⟩

/-- An invariant that the queue plays no part in is kept by every step when every outcome keeps it. -/
theorem step_keeps {P : State → Prop} (hp : ∀ s rest, P s → P { s with pending := rest })
    (ho : ∀ s t, StepOutcome s t → P s → P t) : ∀ s t, P s → step s = .next t → P t := by
  intro s t hs h
  rcases step_outcome h with rfl | ⟨rest, o⟩
  · exact hs
  · exact ho _ t o (hp s rest hs)

/-! ### Lookups in an exact directory (R16) -/

theorem listed_iff (status : Status) : status.listed = true ↔ status = .active ∨ status = .suspended := by
  simp [Status.listed]

/-- In strictly ascending numbers there is one entry with a number. -/
theorem entry_unique {entries : List DirectoryEntry} (h : entries.Pairwise fun a b => a.number < b.number)
    {d e : DirectoryEntry} (hd : d ∈ entries) (he : e ∈ entries) (hn : d.number = e.number) : d = e := by
  exact List.Pairwise.forall_of_forall_of_flip (R := fun a b => a.number = b.number → a = b) (fun _ _ _ => rfl)
    (h.imp fun hlt heq => absurd heq hlt.ne) (h.imp fun hlt heq => absurd heq hlt.ne') hd he hn

/-- In an exact directory a lookup finds a slot exactly when the slot is ACTIVE or SUSPENDED and has the number (R16). -/
theorem lookup_eq_some_iff {s : State} (h : DirectoryExact s) (number : Nat) (i : Fin 64) :
    s.lookup number = some i ↔ (s.slot i).status.listed = true ∧ (s.slot i).number = number := by
  refine ⟨lookup_listed h, fun ⟨listed, hn⟩ => ?_⟩
  obtain ⟨ascending, sound, complete⟩ := h
  obtain ⟨e, he, rfl⟩ := complete i listed
  cases hl : s.lookup number with
  | none => exact absurd ((sound e he).2.symm.trans hn) ((lookup_eq_none_iff s number).mp hl e he)
  | some j =>
    obtain ⟨d, hd, rfl⟩ := Option.map_eq_some_iff.mp hl
    have found : d.number = number := by simpa using List.find?_some hd
    rw [entry_unique ascending (List.mem_of_find?_eq_some hd) he (found.trans (hn.symm.trans (sound e he).2))]

theorem lookup_eq_none_iff_unlisted {s : State} (h : DirectoryExact s) (number : Nat) :
    s.lookup number = none ↔ ∀ i, ¬((s.slot i).status.listed = true ∧ (s.slot i).number = number) := by
  simp only [← lookup_eq_some_iff h, Option.eq_none_iff_forall_ne_some, ne_eq]

/-- Settles O58: every outcome of a step keeps the directory exact, and lookups read it. -/
theorem everyStepKeepsDirectorySound : Obligations.EveryStepKeepsDirectorySound := by
  refine ⟨step_keeps (fun _ _ h => h) fun _ _ => outcome_keeps_directorySound, fun s number h => ?_⟩
  simp only [← listed_iff]
  exact ⟨lookup_eq_some_iff h number, lookup_eq_none_iff_unlisted h number⟩

end Sys2Proof.Machine.Proofs

namespace Sys2Proof.Machine.Proofs

open Sys2Proof Sys2Proof.Machine Sys2Proof.Machine.Laws

/-! ### Counting the points bound to a slot (R12) -/

/-- The points bound to a slot, as a set. -/
theorem bindingsOf_eq_card (s : State) (i : Fin 64) :
    s.bindingsOf i = (Finset.univ.filter fun p => (s.point p).binding = some i).card := by
  rw [State.bindingsOf, List.countP_eq_length_filter, Fin.univ_def, Finset.filter, Finset.card]
  simp [beq_eq_decide]

theorem bindingsOf_congr {s t : State} {i : Fin 64}
    (h : ∀ p, (t.point p).binding = some i ↔ (s.point p).binding = some i) : t.bindingsOf i = s.bindingsOf i := by
  simp only [bindingsOf_eq_card, h]

theorem bindingsOf_eq_zero {s : State} {i : Fin 64} (h : ∀ p, (s.point p).binding ≠ some i) : s.bindingsOf i = 0 := by
  simp [bindingsOf_eq_card, h]

theorem bindingsOf_pos {s : State} {p : Fin 16} {i : Fin 64} (h : (s.point p).binding = some i) : 0 < s.bindingsOf i := by
  rw [bindingsOf_eq_card, Finset.card_pos]
  exact ⟨p, by simp [h]⟩

/-- A point without a binding becomes bound to a slot. -/
theorem bindingsOf_bound {s t : State} {p : Fin 16} {slot : Fin 64} {r : Point} (was : (s.point p).binding = none)
    (hr : r.binding = some slot) (h : ∀ q, t.point q = if p = q then r else s.point q) (i : Fin 64) :
    t.bindingsOf i = if slot = i then s.bindingsOf i + 1 else s.bindingsOf i := by
  split
  · rename_i hi
    have joined : (Finset.univ.filter fun q => (t.point q).binding = some i) =
        insert p (Finset.univ.filter fun q => (s.point q).binding = some i) := by
      ext q
      by_cases hq : p = q <;> simp [h, hr, hi, hq, eq_comm]
    rw [bindingsOf_eq_card, bindingsOf_eq_card, joined, Finset.card_insert_of_notMem (by simp [was])]
  · rename_i hi
    refine bindingsOf_congr fun q => ?_
    by_cases hq : p = q
    · subst hq; simp [h, hr, was, hi]
    · simp [h, hq]

/-- A point bound to a slot loses its binding. -/
theorem bindingsOf_unbound {s t : State} {p : Fin 16} {slot : Fin 64} {r : Point} (was : (s.point p).binding = some slot)
    (hr : r.binding = none) (h : ∀ q, t.point q = if p = q then r else s.point q) (i : Fin 64) :
    t.bindingsOf i = if slot = i then s.bindingsOf i - 1 else s.bindingsOf i := by
  split
  · rename_i hi
    have left : (Finset.univ.filter fun q => (t.point q).binding = some i) =
        (Finset.univ.filter fun q => (s.point q).binding = some i).erase p := by
      ext q
      by_cases hq : p = q
      · subst hq; simp [h, hr]
      · simp [h, hq, Ne.symm hq]
    rw [bindingsOf_eq_card, bindingsOf_eq_card, left, Finset.card_erase_of_mem (by simp [was, hi])]
  · rename_i hi
    refine bindingsOf_congr fun q => ?_
    by_cases hq : p = q
    · subst hq; simp [h, hr, was, hi]
    · simp [h, hq]

/-! ### Bound counts agree with the bindings -/

/-- A point is DETACHED exactly when it has no binding, a FREE slot counts none, and a slot whose page is loaded counts the
points bound to it (R8, R12, R48). -/
structure BindingsCounted (s : State) : Prop where
  attached : ∀ p, (s.point p).state = .detached ↔ (s.point p).binding = none
  free : ∀ i, (s.slot i).status = .free → (s.slot i).boundCount = 0
  count : ∀ i, Loaded s i → (s.slot i).boundCount = s.bindingsOf i

theorem boundCountsAgree_iff (s : State) : BoundCountsAgree s ↔ DirectorySound s ∧ BindingsCounted s :=
  ⟨fun ⟨d, a, f, c⟩ => ⟨d, a, f, c⟩, fun ⟨d, a, f, c⟩ => ⟨d, a, f, c⟩⟩

theorem BindingsCounted.state_ne {s : State} (h : BindingsCounted s) {p : Fin 16} {slot : Fin 64}
    (hb : (s.point p).binding = some slot) : (s.point p).state ≠ .detached := fun hd => by
  simp [(h.attached p).mp hd] at hb

theorem AccountsKept.bindingsOf {s t : State} (k : AccountsKept s t) (i : Fin 64) : t.bindingsOf i = s.bindingsOf i :=
  bindingsOf_congr fun p => by rw [(k.points p).binding]

theorem AccountsKept.keeps_counts {s t : State} (k : AccountsKept s t) (hl : ∀ i, Loaded t i → Loaded s i)
    (h : BindingsCounted s) : BindingsCounted t where
  attached p := by rw [(k.points p).detached, (k.points p).binding]; exact h.attached p
  free i := by rw [k.slot]; exact h.free i
  count i hi := by rw [k.slot, k.bindingsOf]; exact h.count i (hl i hi)

theorem ControlKept.loaded {s t : State} (c : ControlKept s t) (i : Fin 64) (h : Loaded t i) : Loaded s i :=
  (PhaseKept.of_run c.runState c.loadPage).loaded i h

/-- A slot is rewritten with its bound count: the points keep their bindings. -/
theorem SlotRewritten.binding {s t : State} {slot : Fin 64} {a : Account} (r : SlotRewritten s t slot a) (p : Fin 16) :
    (t.point p).binding = (s.point p).binding ∧ ((t.point p).state = .detached ↔ (s.point p).state = .detached) := by
  rcases r.point p with hp | ⟨-, deferral, hp⟩ <;> rw [hp]
  · exact ⟨rfl, Iff.rfl⟩
  · exact ⟨notified_binding .., notified_detached_iff ..⟩

theorem SlotRewritten.keeps_counts {s t : State} {slot : Fin 64} {a : Account} (r : SlotRewritten s t slot a)
    (hb : a.boundCount = (s.slot slot).boundCount) (hf : a.status = .free → (s.slot slot).status = .free)
    (h : BindingsCounted s) : BindingsCounted t where
  attached p := by rw [(r.binding p).2, (r.binding p).1]; exact h.attached p
  free i hi := by
    rw [r.record] at hi ⊢
    split at hi
    · rename_i hs
      rw [if_pos hs, hb]
      exact h.free slot (hf hi)
    · rename_i hs
      rw [if_neg hs]
      exact h.free i hi
  count i hi := by
    rw [r.record, bindingsOf_congr (s := s) (t := t) fun p => by rw [(r.binding p).1]]
    have counted := h.count i (r.toControlKept.loaded i hi)
    split
    · rename_i hs; subst hs; exact hb.trans counted
    · exact counted

theorem listed_ne_free {status : Status} (h : status.listed = true) : status ≠ .free := by
  rintro rfl; cases h

theorem AccountUpdate.keeps_counts {s t : State} {slot : Fin 64} {a : Account} (u : AccountUpdate s t slot a)
    (h : BindingsCounted s) : BindingsCounted t := by
  refine u.toSlotRewritten.keeps_counts u.boundCount (fun hf => ?_) h
  rcases u.status with hs | ⟨listed, -⟩
  · exact hs ▸ hf
  · exact absurd hf (listed_ne_free listed)

/-- A slot that enters the directory keeps its count: a FREE one counts none. -/
theorem AccountEntry.boundCount_eq {s t : State} {slot : Fin 64} {a : Account} (e : AccountEntry s t slot a)
    (h : BindingsCounted s) : a.boundCount = (s.slot slot).boundCount := by
  rcases e.boundCount with hb | ⟨hf, hb⟩
  · exact hb
  · rw [hb, h.free slot hf]

theorem SlotFreed.keeps_counts {s t : State} {slot : Fin 64} (f : SlotFreed s t slot) (h : BindingsCounted s) :
    BindingsCounted t := by
  have free : ∀ i, (t.slot i).status = .free → (t.slot i).boundCount = 0 := fun i hi => by
    rw [f.record] at hi ⊢
    split at hi
    · rename_i hs; rw [if_pos hs]; rfl
    · rename_i hs; rw [if_neg hs]; exact h.free i hi
  rcases f.point with ⟨same, none⟩ | detached
  · refine ⟨fun p => by rw [same]; exact h.attached p, free, fun i hi => ?_⟩
    rw [f.record, bindingsOf_congr (s := s) (t := t) fun p => by rw [same]]
    have counted := h.count i (f.toControlKept.loaded i hi)
    split
    · rename_i hs; subst hs; exact none.symm.trans counted
    · exact counted
  · refine ⟨fun p => ?_, free, fun i hi => ?_⟩
    · rw [detached]
      split
      · exact iff_of_true rfl rfl
      · exact h.attached p
    · rw [f.record]
      split
      · rename_i hs
        refine (bindingsOf_eq_zero fun p hp => ?_).symm
        rw [detached] at hp
        split at hp
        · cases hp
        · rename_i hne; exact hne (hs ▸ hp)
      · rename_i hs
        rw [h.count i (f.toControlKept.loaded i hi)]
        refine (bindingsOf_congr fun p => ?_).symm
        rw [detached]
        split
        · rename_i hp; rw [hp]; simp [Point.detached, hs]
        · exact Iff.rfl

theorem bound_binding (slot : Fin 64) (status : Status) (level : Level) (p : Point) :
    (p.bound slot status level).binding = some slot := evaluate_binding _

theorem bound_view (slot : Fin 64) (status : Status) (level : Level) (p : Point) :
    (p.bound slot status level).view = some (status, level) := evaluate_view _

theorem bound_attached (slot : Fin 64) (status : Status) (level : Level) (p : Point) :
    (p.bound slot status level).state ≠ .detached := evaluate_attached _

/-- One slot's count and one point's binding move together. -/
theorem CountedPoint.keeps_counts {s t : State} {p : Fin 16} {slot : Fin 64} {n : Nat} {r : Point}
    (c : CountedPoint s t p slot n r) (attached : r.state = .detached ↔ r.binding = none)
    (hf : (s.slot slot).status = .free → n = 0)
    (count : ∀ i, s.bindingsOf i = (s.slot i).boundCount → t.bindingsOf i = if slot = i then n else s.bindingsOf i)
    (h : BindingsCounted s) : BindingsCounted t where
  attached q := by
    rw [c.point]
    split
    · exact attached
    · exact h.attached q
  free i hi := by
    rw [c.record] at hi ⊢
    split at hi
    · rename_i hs; rw [if_pos hs]; exact hf hi
    · rename_i hs; rw [if_neg hs]; exact h.free i hi
  count i hi := by
    have counted := h.count i (c.toControlKept.loaded i hi)
    rw [c.record, count i counted.symm]
    split
    · rfl
    · exact counted

theorem AccountChange.keeps_counts {s t : State} (c : AccountChange s t) (hd : DirectoryExact s) (h : BindingsCounted s) :
    BindingsCounted t := by
  cases c with
  | kept control accounts => exact accounts.keeps_counts control.loaded h
  | updated slot a listed update => exact update.keeps_counts h
  | entered slot a entry =>
    exact entry.toSlotRewritten.keeps_counts (entry.boundCount_eq h)
      (fun hf => absurd hf (listed_ne_free entry.listed)) h
  | freed slot freed => exact freed.keeps_counts h
  | attentionTaken taken =>
    have accounts : ∀ p, t.point p = s.point p := point_of_points taken.points
    refine ⟨fun p => by rw [accounts]; exact h.attached p, fun i => ?_, fun i hi => ?_⟩
    · rw [slot_of_slots taken.slots]; exact h.free i
    · rw [slot_of_slots taken.slots, bindingsOf_congr (s := s) (t := t) fun p => by rw [accounts]]
      exact h.count i (taken.toControlKept.loaded i hi)
  | bound p slot was listed bound =>
    refine bound.keeps_counts (iff_of_false (bound_attached _ _ _ _) (by simp [bound_binding]))
      (fun hf => absurd hf (listed_ne_free (listed hd))) (fun i hi => ?_) h
    rw [bindingsOf_bound ((h.attached p).mp was) (bound_binding ..) bound.point]
    split
    · rename_i hs; subst hs; rw [hi]
    · rfl
  | unbound p slot was unbound =>
    refine unbound.keeps_counts (iff_of_true rfl rfl) (fun hf => by rw [h.free slot hf]) (fun i hi => ?_) h
    rw [bindingsOf_unbound was rfl unbound.point]
    split
    · rename_i hs; subst hs; rw [hi]
    · rfl

theorem AccountChanges.keep_counts {s t : State} (c : AccountChanges s t) (hd : DirectoryExact s)
    (h : BindingsCounted s) : BindingsCounted t := by
  induction c with
  | refl => exact h
  | tail before last ih => exact last.keeps_counts (AccountChanges.keep_directory before hd) ih

/-! ### Load (R77, R78, R186, R188) -/

theorem configured_attached (stored : StoredPoint) (p : Point) :
    (p.configured stored).state = .detached ↔ (p.configured stored).binding = none := by
  cases h : loadBinding stored.binding <;> simp [Point.configured, h]

/-- A reconciled point: detached when its slot on the page loaded FREE, told of a slot on the page that did not, and otherwise
as it was (R78). -/
theorem reconciled_cases (s : State) (page : Fin 8) (p : Point) :
    (∃ slot, p.binding = some slot ∧ onPage page slot = true ∧ (s.slot slot).status = .free ∧
        s.reconciled page p = p.detached) ∨
      (∃ slot deferral, p.binding = some slot ∧ onPage page slot = true ∧ (s.slot slot).status ≠ .free ∧
        s.reconciled page p = p.notified deferral (s.slot slot).status (s.slot slot).level) ∨
      (∀ slot, p.binding = some slot → onPage page slot = false) ∧ s.reconciled page p = p := by
  unfold State.reconciled
  split
  · rename_i slot hb
    split
    · rename_i hp
      split
      · rename_i hf; exact .inl ⟨slot, hb, hp, hf, rfl⟩
      · rename_i hf; exact .inr (.inl ⟨slot, _, hb, hp, hf, rfl⟩)
    · rename_i hp
      refine .inr (.inr ⟨fun slot' h => ?_, rfl⟩)
      rw [hb] at h; cases h
      simpa using hp
  · rename_i hb; exact .inr (.inr ⟨fun slot' h => by simp [hb] at h, rfl⟩)

theorem reconciled_attached {s : State} {page : Fin 8} {p : Point} (h : p.state = .detached ↔ p.binding = none) :
    (s.reconciled page p).state = .detached ↔ (s.reconciled page p).binding = none := by
  rcases reconciled_cases s page p with ⟨slot, -, -, -, hr⟩ | ⟨slot, deferral, -, -, -, hr⟩ | ⟨-, hr⟩ <;> rw [hr]
  · exact iff_of_true rfl rfl
  · rw [notified_detached_iff, notified_binding]; exact h
  · exact h

/-- A point is bound after the reconciliation when it was before, unless its slot on the page loaded FREE. -/
theorem reconciled_binding_iff (s : State) (page : Fin 8) (p : Point) (i : Fin 64) :
    (s.reconciled page p).binding = some i ↔
      p.binding = some i ∧ ¬(onPage page i = true ∧ (s.slot i).status = .free) := by
  rcases reconciled_cases s page p with ⟨slot, hb, hp, hf, hr⟩ | ⟨slot, deferral, hb, -, hf, hr⟩ | ⟨hp, hr⟩ <;> rw [hr]
  · refine iff_of_false (by simp [Point.detached]) fun ⟨hi, hn⟩ => hn ?_
    rw [hb] at hi; cases hi
    exact ⟨hp, hf⟩
  · rw [notified_binding, iff_self_and]
    intro hi hn
    rw [hb] at hi; cases hi
    exact hf hn.2
  · rw [iff_self_and]
    intro hi hn
    simp [hp i hi] at hn

theorem onPage_iff (page : Fin 8) (i : Fin 64) : onPage page i = true ↔ i.val / 8 = page.val := by
  simp [onPage]

/-- A slot loaded after LOAD_ACCOUNT_PAGE lies on the page, or was loaded before it (R187). -/
theorem PageTaken.loaded {s t : State} {page : Fin 8} (k : PageTaken s t page) (hr : s.run.runState = .loading)
    (hp : accountPage s.run.loadPage = some page) {i : Fin 64} (h : Loaded t i) :
    onPage page i = true ∨ Loaded s i := by
  have page_eq := accountPage_eq hp
  rw [onPage_iff]
  by_cases hi : i.val / 8 = page.val
  · exact .inl hi
  · refine .inr (.inr ⟨fun h8 => ?_, ?_⟩)
    · rw [h8] at page_eq
      have := page.isLt
      omega
    · rw [page_eq]
      rcases k.moved with ⟨-, -, rfl⟩ | ⟨hrun, hload, -, -⟩
      · have := i.isLt
        omega
      · rcases h with h | ⟨-, h⟩
        · exact absurd (hrun.trans hr) h
        · rw [hload, Fin.val_succ] at h
          omega

theorem pageTaken_counts {s t : State} {page : Fin 8} (k : PageTaken s t page) (hr : s.run.runState = .loading)
    (hp : accountPage s.run.loadPage = some page) (h : BindingsCounted s) : BindingsCounted t := by
  have points : ∀ p, ((s.applyAccountPage page).reconcile page).point p =
      (s.applyAccountPage page).reconciled page (s.point p) := fun p => by
    rw [reconcile_point, point_of_points (applyAccountPage_frame s page).points]
  have bindings : ∀ p i, (t.point p).binding = some i ↔
      (s.point p).binding = some i ∧ ¬(onPage page i = true ∧ ((s.applyAccountPage page).slot i).status = .free) :=
    fun p i => by rw [(k.accounts.points p).binding, points, reconciled_binding_iff]
  have records : ∀ i, t.slot i = if onPage page i then
      { (s.applyAccountPage page).slot i with boundCount := t.bindingsOf i } else s.slot i := fun i => by
    rw [k.accounts.slot, k.accounts.bindingsOf, reconcile_slot]
    split
    · rfl
    · rename_i hi; exact applyAccountPage_other s page (by simpa using hi)
  refine ⟨fun p => ?_, fun i hi => ?_, fun i hi => ?_⟩
  · rw [(k.accounts.points p).detached, (k.accounts.points p).binding, points]
    exact reconciled_attached (h.attached p)
  · rw [records] at hi ⊢
    split at hi
    · rename_i hs
      rw [if_pos hs]
      exact bindingsOf_eq_zero fun p hb => ((bindings p i).mp hb).2 ⟨hs, hi⟩
    · rename_i hs
      rw [if_neg hs]
      exact h.free i hi
  · rw [records]
    split
    · rfl
    · rename_i hs
      rw [h.count i ((k.loaded hr hp hi).resolve_left hs)]
      exact (bindingsOf_congr fun p => (bindings p i).trans (and_iff_left fun hn => hs hn.1)).symm

theorem outcome_keeps_counts {s t : State} (o : StepOutcome s t) (hd : DirectoryExact s) (h : BindingsCounted s) :
    BindingsCounted t := by
  cases o with
  | kept accounts phase charge quiet => exact accounts.keeps_counts phase.loaded h
  | completed busy changes => exact changes.keep_counts hd ⟨h.attached, h.free, h.count⟩
  | charged p n slot price busy u a update frame =>
    refine frame.accounts.keeps_counts (PhaseKept.of_run frame.runState frame.loadPage).loaded
      (update.keeps_counts ⟨h.attached, h.free, h.count⟩)
  | cleared engine points quiet run =>
    refine ⟨fun p => ?_, fun i _ => ?_, fun i _ => ?_⟩
    · rw [points]; exact iff_of_true rfl rfl
    · rw [slot_atReset engine]; rfl
    · rw [slot_atReset engine]
      exact (bindingsOf_eq_zero fun p => by rw [points]; simp).symm
  | settingsLoaded runState loadPage result =>
    subst result
    have taken := applySettingsPage_taken s
    refine ⟨fun p => ?_, fun i => ?_, fun i hi => ?_⟩
    · obtain ⟨stored, hp⟩ := taken.points p
      show (s.applySettingsPage.point p).state = .detached ↔ (s.applySettingsPage.point p).binding = none
      rw [hp]
      exact configured_attached ..
    · show (s.applySettingsPage.slot i).status = .free → (s.applySettingsPage.slot i).boundCount = 0
      rw [slot_of_engine taken.engine]
      exact h.free i
    · simp [Loaded, runState] at hi
  | pageLoaded page runState loadPage result =>
    subst result
    exact pageTaken_counts (pageTaken s page) runState loadPage h

theorem outcome_keeps_boundCounts {s t : State} (o : StepOutcome s t) (h : BoundCountsAgree s) : BoundCountsAgree t := by
  obtain ⟨hd, hc⟩ := (boundCountsAgree_iff s).mp h
  exact (boundCountsAgree_iff t).mpr ⟨outcome_keeps_directorySound o hd, outcome_keeps_counts o hd.2.2 hc⟩

/-- Settles O59: every outcome of a step keeps the counts, beside a sound directory. -/
theorem everyStepKeepsBoundCounts : Obligations.EveryStepKeepsBoundCounts :=
  step_keeps (fun _ _ h => h) fun _ _ => outcome_keeps_boundCounts

end Sys2Proof.Machine.Proofs

namespace Sys2Proof.Machine.Proofs

open Sys2Proof Sys2Proof.Machine Sys2Proof.Machine.Laws

/-! ### Records stay in range (R3, R4, R11) -/

theorem AccountChange.keeps_range {s t : State} (c : AccountChange s t) (h : ∀ i, RecordInRange (s.slot i)) :
    ∀ i, RecordInRange (t.slot i) := by
  intro i
  cases c with
  | kept control accounts => rw [accounts.slot]; exact h i
  | updated slot a listed update =>
    rw [update.record]
    split
    · exact update.range (h slot)
    · exact h i
  | entered slot a entry =>
    rw [entry.record]
    split
    · exact entry.range
    · exact h i
  | freed slot freed =>
    rw [freed.record]
    split
    · exact free_inRange
    · exact h i
  | attentionTaken taken => rw [slot_of_slots taken.slots]; exact h i
  | bound p slot was listed bound =>
    rw [bound.record]
    split
    · exact (h slot).withCount _
    · exact h i
  | unbound p slot was unbound =>
    rw [unbound.record]
    split
    · exact (h slot).withCount _
    · exact h i

theorem AccountChanges.keep_range {s t : State} (c : AccountChanges s t) (h : ∀ i, RecordInRange (s.slot i)) :
    ∀ i, RecordInRange (t.slot i) := by
  induction c with
  | refl => exact h
  | tail _ last ih => exact last.keeps_range ih

theorem SlotsLoaded.keep_range {page : Fin 8} {js : List (Fin 8)} {s t : State} (l : SlotsLoaded page js s t)
    (h : ∀ i, RecordInRange (s.slot i)) : ∀ i, RecordInRange (t.slot i) := by
  induction l with
  | nil s => exact h
  | cons a first _ ih =>
    refine ih fun i => ?_
    rw [first.record]
    split
    · exact first.range
    · exact h i

theorem applyAccountPage_range (s : State) (page : Fin 8) (h : ∀ i, RecordInRange (s.slot i)) :
    ∀ i, RecordInRange ((s.applyAccountPage page).slot i) := by
  obtain ⟨u, rfl | rfl, l⟩ := applyAccountPage_loaded s page
  · exact l.keep_range h
  · exact l.keep_range h

theorem outcome_keeps_range {s t : State} (o : StepOutcome s t) (h : AccountsInRange s) : AccountsInRange t := by
  rw [accountsInRange_iff] at h ⊢
  cases o with
  | kept accounts phase charge quiet => exact fun i => by rw [accounts.slot]; exact h i
  | completed busy changes => exact changes.keep_range h
  | charged p n slot price busy u a update frame =>
    intro i
    rw [frame.accounts.slot, update.record]
    split
    · exact update.range (h slot)
    · exact h i
  | cleared engine points quiet run => exact fun i => by rw [slot_atReset engine]; exact free_inRange
  | settingsLoaded runState loadPage result =>
    subst result
    intro i
    show RecordInRange (s.applySettingsPage.slot i)
    rw [slot_of_engine (applySettingsPage_taken s).engine]
    exact h i
  | pageLoaded page runState loadPage result =>
    subst result
    intro i
    rw [(pageTaken s page).accounts.slot, reconcile_slot]
    split
    · exact (applyAccountPage_range s page h i).withCount _
    · exact applyAccountPage_range s page h i

/-! ### Account views show the slots (R37, R49) -/

/-- A point bound to a slot whose page is loaded sees the slot's status and level. -/
def ViewsShown (s : State) : Prop :=
  ∀ p slot, (s.point p).binding = some slot → Loaded s slot →
    (s.point p).view = some ((s.slot slot).status, (s.slot slot).level)

/-- A CHARGE in progress names an ACTIVE or SUSPENDED slot (R29). -/
def ChargeListed (s : State) : Prop :=
  ∀ p n slot price, s.engine.op = .busy (.charge p n slot price) → (s.slot slot).status.listed = true

theorem viewsAgree_iff (s : State) : ViewsAgree s ↔ BoundCountsAgree s ∧ ViewsShown s ∧ ChargeListed s := Iff.rfl

theorem AccountsKept.keeps_views {s t : State} (k : AccountsKept s t) (hl : ∀ i, Loaded t i → Loaded s i)
    (h : ViewsShown s) : ViewsShown t := fun p slot hb hs => by
  rw [(k.points p).binding] at hb
  rw [(k.points p).view, k.slot]
  exact h p slot hb (hl slot hs)

/-- A slot that keeps its bound count counts its points, so they are told of every change (R37). -/
theorem SlotRewritten.keeps_views {s t : State} {slot : Fin 64} {a : Account} (r : SlotRewritten s t slot a)
    (hb : a.boundCount = (s.slot slot).boundCount) (hc : BindingsCounted s) (h : ViewsShown s) : ViewsShown t := by
  intro p i hp hi
  rw [(r.binding p).1] at hp
  have loaded := r.toControlKept.loaded i hi
  have seen := h p i hp loaded
  rw [r.record]
  split
  · rename_i hs
    subst hs
    by_cases changed : a.level ≠ (s.slot slot).level ∨ a.status ≠ (s.slot slot).status
    · have counted : 0 < a.boundCount := by
        rw [hb, hc.count slot loaded]
        exact bindingsOf_pos hp
      obtain ⟨deferral, told⟩ := r.told changed counted p hp
      rw [told]
      exact notified_view _ _ _ _ (hc.state_ne hp)
    · push Not at changed
      obtain ⟨level, status⟩ := changed
      rcases r.point p with same | ⟨-, deferral, told⟩
      · rw [same, seen, level, status]
      · rw [told]
        exact notified_view _ _ _ _ (hc.state_ne hp)
  · rename_i hs
    rcases r.point p with same | ⟨other, -⟩
    · rw [same, seen]
    · rw [hp] at other
      exact absurd (Option.some.inj other).symm hs

theorem SlotFreed.keeps_views {s t : State} {slot : Fin 64} (f : SlotFreed s t slot) (hc : BindingsCounted s)
    (h : ViewsShown s) : ViewsShown t := by
  intro p i hp hi
  have loaded := f.toControlKept.loaded i hi
  rcases f.point with ⟨same, none⟩ | detached
  · rw [same] at hp ⊢
    have other : slot ≠ i := by
      rintro rfl
      have := bindingsOf_pos hp
      rw [← hc.count slot loaded, none] at this
      omega
    rw [f.record, if_neg other]
    exact h p i hp loaded
  · rw [detached] at hp ⊢
    split at hp
    · cases hp
    · rename_i hne
      rw [if_neg hne, f.record, if_neg fun (hs : slot = i) => hne (hs ▸ hp)]
      exact h p i hp loaded

/-- A count moves with one point; the status and the level of every slot stay. -/
theorem CountedPoint.keeps_views {s t : State} {p : Fin 16} {slot : Fin 64} {n : Nat} {r : Point}
    (c : CountedPoint s t p slot n r)
    (hr : ∀ i, r.binding = some i → r.view = some ((s.slot i).status, (s.slot i).level)) (h : ViewsShown s) :
    ViewsShown t := by
  intro q i hq hi
  have record : (t.slot i).status = (s.slot i).status ∧ (t.slot i).level = (s.slot i).level := by
    rw [c.record]
    split
    · rename_i hs; subst hs; exact ⟨rfl, rfl⟩
    · exact ⟨rfl, rfl⟩
  rw [record.1, record.2]
  rw [c.point] at hq ⊢
  split at hq
  · rename_i hp; rw [if_pos hp]; exact hr i hq
  · rename_i hp; rw [if_neg hp]; exact h q i hq (c.toControlKept.loaded i hi)

theorem AccountChange.keeps_views {s t : State} (c : AccountChange s t) (hc : BindingsCounted s) (h : ViewsShown s) :
    ViewsShown t := by
  cases c with
  | kept control accounts => exact accounts.keeps_views control.loaded h
  | updated slot a listed update => exact update.toSlotRewritten.keeps_views update.boundCount hc h
  | entered slot a entry => exact entry.toSlotRewritten.keeps_views (entry.boundCount_eq hc) hc h
  | freed slot freed => exact freed.keeps_views hc h
  | attentionTaken taken =>
    intro p i hp hi
    rw [point_of_points taken.points] at hp ⊢
    rw [slot_of_slots taken.slots]
    exact h p i hp (taken.toControlKept.loaded i hi)
  | bound p slot was listed bound =>
    refine bound.keeps_views (fun i hi => ?_) h
    rw [bound_binding] at hi
    cases hi
    exact bound_view ..
  | unbound p slot was unbound => exact unbound.keeps_views (fun i hi => by cases hi) h

theorem AccountChanges.keep_views {s t : State} (c : AccountChanges s t) (hd : DirectoryExact s)
    (hc : BindingsCounted s) (h : ViewsShown s) : ViewsShown t := by
  induction c with
  | refl => exact h
  | tail before last ih => exact last.keeps_views (AccountChanges.keep_counts before hd hc) ih

theorem pageTaken_views {s t : State} {page : Fin 8} (k : PageTaken s t page) (hr : s.run.runState = .loading)
    (hp : accountPage s.run.loadPage = some page) (hc : BindingsCounted s) (h : ViewsShown s) : ViewsShown t := by
  intro p i hb hi
  rw [(k.accounts.points p).binding, reconcile_point, point_of_points (applyAccountPage_frame s page).points] at hb
  rw [(k.accounts.points p).view, k.accounts.slot, reconcile_point, reconcile_slot,
    point_of_points (applyAccountPage_frame s page).points]
  have was : (s.point p).binding = some i := ((reconciled_binding_iff ..).mp hb).1
  rcases reconciled_cases (s.applyAccountPage page) page (s.point p) with
    ⟨slot, -, -, -, rec⟩ | ⟨slot, deferral, bound, on, -, rec⟩ | ⟨off, rec⟩
  · rw [rec] at hb; cases hb
  · rw [was] at bound; cases bound
    rw [rec, on, notified_view _ _ _ _ (hc.state_ne was)]
    rfl
  · have notOn := off i was
    rw [rec, notOn, h p i was ((k.loaded hr hp hi).resolve_left (by simp [notOn])), ← applyAccountPage_other s page notOn]
    rfl

theorem outcome_keeps_views {s t : State} (o : StepOutcome s t) (hd : DirectoryExact s) (hc : BindingsCounted s)
    (h : ViewsShown s) : ViewsShown t := by
  cases o with
  | kept accounts phase charge quiet => exact accounts.keeps_views phase.loaded h
  | completed busy changes => exact changes.keep_views hd ⟨hc.attached, hc.free, hc.count⟩ h
  | charged p n slot price busy u a update frame =>
    exact frame.accounts.keeps_views (PhaseKept.of_run frame.runState frame.loadPage).loaded
      (update.toSlotRewritten.keeps_views update.boundCount ⟨hc.attached, hc.free, hc.count⟩ h)
  | cleared engine points quiet run =>
    intro p i hp
    rw [points] at hp
    cases hp
  | settingsLoaded runState loadPage result =>
    subst result
    intro p i _ hi
    simp [Loaded, runState] at hi
  | pageLoaded page runState loadPage result =>
    subst result
    exact pageTaken_views (pageTaken s page) runState loadPage hc h

/-- Units that are charged through the view of a slot are charged to an ACTIVE or SUSPENDED slot (R54). -/
theorem listed_of_chargeable {status : Status} {level : Level} (h : chargeable (some (status, level)) = true) :
    status.listed = true := h

theorem chargeListed_of_free {t : State} (h : t.engine.op = .free) : ChargeListed t := fun p n slot price hc => by
  rw [h] at hc; cases hc

theorem outcome_keeps_charge {s t : State} (o : StepOutcome s t) (hq : LoadingQuiet s) (hv : ViewsShown s)
    (h : ChargeListed s) : ChargeListed t := by
  cases o with
  | kept accounts phase charge quiet =>
    intro p n slot price hc
    rw [accounts.slot]
    rcases charge p n slot price hc with was | ⟨operating, bound, units⟩
    · exact h p n slot price was
    · rw [hv p slot bound (loaded_of_operating operating slot)] at units
      exact listed_of_chargeable units
  | completed busy changes => exact chargeListed_of_free (accountChanges_control changes).op
  | charged p n slot price busy u a update frame => exact chargeListed_of_free (frame.op.trans update.op)
  | cleared engine points quiet run => exact chargeListed_of_free quiet.op
  | settingsLoaded runState loadPage result =>
    subst result
    have engine := (applySettingsPage_taken s).engine
    exact chargeListed_of_free ((congrArg AccountEngine.op engine).trans (nothingInHand_of_loading hq runState).op)
  | pageLoaded page runState loadPage result =>
    subst result
    exact chargeListed_of_free ((pageTaken s page).op.trans (nothingInHand_of_loading hq runState).op)

/-- Every step keeps the views of the points. -/
theorem outcome_keeps_viewsAgree {s t : State} (o : StepOutcome s t) (h : ViewsAgree s) : ViewsAgree t := by
  obtain ⟨hb, hv, hc⟩ := (viewsAgree_iff s).mp h
  obtain ⟨hd, counted⟩ := (boundCountsAgree_iff s).mp hb
  exact (viewsAgree_iff t).mpr ⟨outcome_keeps_boundCounts o hb, outcome_keeps_views o hd.2.2 counted hv,
    outcome_keeps_charge o hd.1 hv hc⟩

/-! ### The attention list (R20 to R24) -/

theorem union_isEmpty (a b : Reasons) : (a.union b).isEmpty = (a.isEmpty && b.isEmpty) := by
  rw [Bool.eq_iff_iff]
  simp only [Reasons.union, Reasons.isEmpty, Bool.not_eq_true', Bool.or_eq_false_iff, Bool.and_eq_true]
  tauto

/-- The slots in the list after reasons have joined it: a slot that was not there stands at the tail (R21). -/
theorem joinReasons_slots (slot : Fin 64) (r : Reasons) (entries : List AttentionEntry) :
    (joinReasons slot r entries).map AttentionEntry.slot =
      if slot ∈ entries.map AttentionEntry.slot then entries.map AttentionEntry.slot
      else entries.map AttentionEntry.slot ++ [slot] := by
  induction entries with
  | nil => simp [joinReasons]
  | cons e rest ih =>
    unfold joinReasons
    split
    · rename_i he; simp [he]
    · rename_i he
      rw [List.map_cons, ih, List.map_cons]
      simp only [List.mem_cons, Ne.symm he, false_or]
      split <;> simp

/-- An entry after reasons have joined the list: the slot's own, with reasons, or one that was there. -/
theorem mem_joinReasons {slot : Fin 64} {r : Reasons} (hr : r.isEmpty = false) {entries : List AttentionEntry}
    {e : AttentionEntry} (h : e ∈ joinReasons slot r entries) :
    e.slot = slot ∧ e.reasons.isEmpty = false ∨ e ∈ entries := by
  induction entries with
  | nil =>
    simp only [joinReasons, List.mem_singleton] at h
    subst h
    exact .inl ⟨rfl, hr⟩
  | cons x rest ih =>
    unfold joinReasons at h
    split at h
    · rename_i hx
      rcases List.mem_cons.mp h with rfl | h
      · exact .inl ⟨hx, by simp [union_isEmpty, hr]⟩
      · exact .inr (List.mem_cons_of_mem _ h)
    · rcases List.mem_cons.mp h with rfl | h
      · exact .inr List.mem_cons_self
      · exact (ih h).imp_right (List.mem_cons_of_mem _)

theorem nodup_joinReasons {slot : Fin 64} (r : Reasons) {entries : List AttentionEntry}
    (h : (entries.map AttentionEntry.slot).Nodup) : ((joinReasons slot r entries).map AttentionEntry.slot).Nodup := by
  rw [joinReasons_slots]
  split
  · exact h
  · rename_i hn
    refine List.nodup_append.mpr ⟨h, List.nodup_singleton _, fun a ha b hb => ?_⟩
    rintro rfl
    exact hn (List.mem_singleton.mp hb ▸ ha)

/-- No slot stands in the list twice, no entry's slot is FREE, and every entry has a reason (R20, R21). -/
structure AttentionListed (s : State) : Prop where
  nodup : (s.engine.attention.map AttentionEntry.slot).Nodup
  entry : ∀ e ∈ s.engine.attention, (s.slot e.slot).status ≠ .free ∧ e.reasons.isEmpty = false

theorem attentionSound_iff (s : State) : AttentionSound s ↔ ViewsAgree s ∧ AttentionListed s :=
  ⟨fun ⟨v, n, e⟩ => ⟨v, n, e⟩, fun ⟨v, n, e⟩ => ⟨v, n, e⟩⟩

theorem AttentionListed.congr {s t : State} (h : AttentionListed s) (ha : t.engine.attention = s.engine.attention)
    (hs : ∀ i, (t.slot i).status = (s.slot i).status) : AttentionListed t :=
  ⟨ha ▸ h.nodup, fun e he => by rw [hs]; exact h.entry e (ha ▸ he)⟩

/-- Fewer entries, of slots whose status is as it was. -/
theorem AttentionListed.sublist {s t : State} (h : AttentionListed s)
    (ha : t.engine.attention.Sublist s.engine.attention)
    (hs : ∀ e ∈ t.engine.attention, (t.slot e.slot).status = (s.slot e.slot).status) : AttentionListed t :=
  ⟨h.nodup.sublist (ha.map _), fun e he => by rw [hs e he]; exact h.entry e (ha.subset he)⟩

/-- A slot takes a record that is not FREE, and reasons may join its entry. -/
theorem AttentionListed.rewrite {s t : State} {slot : Fin 64} {a : Account} (h : AttentionListed s)
    (hr : ∀ i, t.slot i = if slot = i then a else s.slot i) (ha : a.status ≠ .free)
    (ht : t.engine.attention = s.engine.attention ∨
      ∃ r, r.isEmpty = false ∧ t.engine.attention = joinReasons slot r s.engine.attention) : AttentionListed t := by
  have old : ∀ e ∈ s.engine.attention, (t.slot e.slot).status ≠ .free ∧ e.reasons.isEmpty = false := fun e he => by
    rw [hr]
    split
    · exact ⟨ha, (h.entry e he).2⟩
    · exact h.entry e he
  rcases ht with ht | ⟨r, hne, ht⟩
  · exact ⟨ht ▸ h.nodup, ht ▸ old⟩
  · refine ⟨ht ▸ nodup_joinReasons r h.nodup, fun e he => ?_⟩
    rw [ht] at he
    rcases mem_joinReasons hne he with ⟨hs, reasons⟩ | he
    · rw [hr, if_pos hs.symm]
      exact ⟨ha, reasons⟩
    · exact old e he

/-- An update of an ACTIVE or SUSPENDED slot. -/
theorem AccountUpdate.keeps_attention {s t : State} {slot : Fin 64} {a : Account} (u : AccountUpdate s t slot a)
    (hl : (s.slot slot).status.listed = true) (h : AttentionListed s) : AttentionListed t := by
  refine h.rewrite u.record ?_ u.attention
  rcases u.status with hs | ⟨listed, -⟩
  · rw [hs]; exact listed_ne_free hl
  · exact listed_ne_free listed

theorem CountedPoint.keeps_attention {s t : State} {p : Fin 16} {slot : Fin 64} {n : Nat} {r : Point}
    (c : CountedPoint s t p slot n r) (h : AttentionListed s) : AttentionListed t :=
  h.congr c.attention fun i => by
    rw [c.record]
    split
    · rename_i hs; subst hs; rfl
    · rfl

theorem AccountChange.keeps_attention {s t : State} (c : AccountChange s t) (hd : DirectoryExact s)
    (h : AttentionListed s) : AttentionListed t := by
  cases c with
  | kept control accounts => exact h.congr accounts.attention fun i => by rw [accounts.slot]
  | updated slot a listed update => exact update.keeps_attention (listed hd) h
  | entered slot a entry => exact h.rewrite entry.record (listed_ne_free entry.listed) entry.attention
  | freed slot freed =>
    refine h.sublist (freed.attention ▸ List.filter_sublist) fun e he => ?_
    rw [freed.attention, List.mem_filter, bne_iff_ne] at he
    rw [freed.record, if_neg he.2.symm]
  | attentionTaken taken =>
    exact h.sublist (taken.attention ▸ List.tail_sublist _) fun e _ => by rw [slot_of_slots taken.slots]
  | bound p slot was listed bound => exact bound.keeps_attention h
  | unbound p slot was unbound => exact unbound.keeps_attention h

theorem AccountChanges.keep_attention {s t : State} (c : AccountChanges s t) (hd : DirectoryExact s)
    (h : AttentionListed s) : AttentionListed t := by
  induction c with
  | refl => exact h
  | tail before last ih => exact last.keeps_attention (AccountChanges.keep_directory before hd) ih

/-- A slot that was FREE is loaded: it had no entry, and gets one only when it is not FREE (R9, R22). -/
theorem SlotLoaded.keeps_attention {s t : State} {slot : Fin 64} {a : Account} (l : SlotLoaded s t slot a)
    (was : (s.slot slot).status = .free) (h : AttentionListed s) : AttentionListed t := by
  rcases l.attention with ha | ⟨notFree, ha⟩
  · refine h.sublist (ha ▸ List.Sublist.refl _) fun e he => ?_
    have hne : slot ≠ e.slot := by
      rintro rfl
      exact (h.entry e (ha ▸ he)).1 was
    rw [l.record, if_neg hne]
  · exact h.rewrite l.record notFree (.inr ha)

theorem SlotsLoaded.keep_attention {page : Fin 8} {js : List (Fin 8)} {s t : State} (l : SlotsLoaded page js s t)
    (nodup : js.Nodup) (free : ∀ k ∈ js, (s.slot (slotAt page k)).status = .free) (h : AttentionListed s) :
    AttentionListed t := by
  induction l with
  | nil s => exact h
  | cons a first _ ih =>
    obtain ⟨hj, nodup⟩ := List.nodup_cons.mp nodup
    exact ih nodup (first.rest_free hj fun k hk => free k (List.mem_cons_of_mem _ hk))
      (first.keeps_attention (free _ List.mem_cons_self) h)

theorem applyAccountPage_attention {s : State} {page : Fin 8} (free : ∀ j, (s.slot (slotAt page j)).status = .free)
    (h : AttentionListed s) : AttentionListed (s.applyAccountPage page) := by
  obtain ⟨u, rfl | rfl, l⟩ := applyAccountPage_loaded s page
  · exact l.keep_attention (List.nodup_finRange 8) (fun k _ => free k) h
  · exact l.keep_attention (List.nodup_finRange 8) (fun k _ => free k) ⟨h.nodup, h.entry⟩

theorem reconcile_attention {s : State} (page : Fin 8) (h : AttentionListed s) : AttentionListed (s.reconcile page) :=
  h.congr (reconcile_frame s page).attention fun i => by rw [reconcile_slot]; split <;> rfl

theorem outcome_keeps_attention {s t : State} (o : StepOutcome s t) (hu : UnloadedFree s) (hd : DirectoryExact s)
    (hc : ChargeListed s) (h : AttentionListed s) : AttentionListed t := by
  cases o with
  | kept accounts phase charge quiet => exact h.congr accounts.attention fun i => by rw [accounts.slot]
  | completed busy changes => exact changes.keep_attention hd ⟨h.nodup, h.entry⟩
  | charged p n slot price busy u a update frame =>
    refine AttentionListed.congr ?_ frame.accounts.attention fun i => by rw [frame.accounts.slot]
    exact update.keeps_attention (hc p n slot price busy) ⟨h.nodup, h.entry⟩
  | cleared engine points quiet run =>
    constructor <;> simp [engine, AccountEngine.atReset]
  | settingsLoaded runState loadPage result =>
    subst result
    have engine := (applySettingsPage_taken s).engine
    exact h.congr (congrArg AccountEngine.attention engine) fun i => congrArg Account.status (slot_of_engine engine i)
  | pageLoaded page runState loadPage result =>
    subst result
    have accounts := (pageTaken s page).accounts
    refine AttentionListed.congr ?_ accounts.attention fun i => by rw [accounts.slot]
    exact reconcile_attention page (applyAccountPage_attention (page_unloaded hu runState loadPage) h)

theorem outcome_keeps_attentionSound {s t : State} (o : StepOutcome s t) (h : AttentionSound s) : AttentionSound t := by
  obtain ⟨hv, ha⟩ := (attentionSound_iff s).mp h
  obtain ⟨⟨⟨-, hu, hd⟩, -⟩, -, hc⟩ := hv
  exact (attentionSound_iff t).mpr ⟨outcome_keeps_viewsAgree o h.1, outcome_keeps_attention o hu hd hc ha⟩

/-- Settles O60: every outcome of a step keeps the records in range, and the attention list sound beside agreeing views. -/
theorem everyStepKeepsAccountsInRange : Obligations.EveryStepKeepsAccountsInRange :=
  ⟨step_keeps (fun _ _ h => h) fun _ _ => outcome_keeps_range,
    step_keeps (fun _ _ h => h) fun _ _ => outcome_keeps_attentionSound⟩

end Sys2Proof.Machine.Proofs

namespace Sys2Proof.Machine.Proofs

open Sys2Proof Sys2Proof.Machine Sys2Proof.Machine.Laws

/-! ### The state after reset (R190) -/

theorem reset_slot (i : Fin 64) : State.reset.slot i = Account.free := slot_atReset rfl i

theorem reset_point (p : Fin 16) : State.reset.point p = {} := by
  simp [State.point, State.reset, PointController.atReset]

theorem reset_tariff (i : Fin 8) : State.reset.timer.tariffs[i] = {} := by
  simp [State.reset, PeriodTimer.atReset]

theorem reset_staging (i : Fin 7) : State.reset.proc.staging[i] = 0 := by
  simp [State.reset, CommandProcessor.atReset]

theorem reset_dirty (page : Fin 9) : State.reset.commit.dirty[page] = none := by
  simp [State.reset, CommitEngine.atReset]

theorem reset_nv (page : Fin 9) : State.reset.nv[page] = .erased := by
  simp [State.reset]

theorem reset_readyFlags : State.reset.readyFlags = 0 := by
  have points : (List.finRange 16).map (fun p => (State.reset.point p).flags.any) = List.replicate 16 false := by
    simp only [reset_point]
    rfl
  rw [State.readyFlags, points]
  rfl

/-- Settles O2: the reset values of the blocks, and those of the slots, points, tariffs, staging registers and pages. -/
theorem resetHoldsResetValues : Obligations.ResetHoldsResetValues := by
  refine ⟨rfl, reset_slot, rfl, rfl, rfl, fun p => ?_, rfl, reset_tariff, rfl, rfl, rfl, rfl, rfl, reset_staging, rfl,
    rfl, rfl, rfl, rfl, rfl, rfl, rfl, rfl, rfl, rfl, rfl, rfl, rfl, reset_readyFlags, rfl, rfl, rfl, reset_dirty, rfl,
    rfl, rfl, rfl, rfl, reset_nv⟩
  rw [reset_point]
  exact ⟨rfl, rfl, rfl, rfl, rfl, rfl, rfl, rfl, rfl⟩

/-! ### The level function and the reasons of a change (R11, R21) -/

theorem levelOf_iff (b : Int) (low ec : Nat) :
    (levelOf b low ec = .normal ↔ (low : Int) < b) ∧ (levelOf b low ec = .low ↔ 0 ≤ b ∧ b ≤ low) ∧
      (levelOf b low ec = .emergency ↔ -(ec : Int) ≤ b ∧ b < 0) ∧ (levelOf b low ec = .exhausted ↔ b < -(ec : Int)) := by
  unfold levelOf
  split_ifs
  all_goals
    simp only [true_iff, false_iff]
    omega

/-- The reason of a worse level is that level's; of a level better than EXHAUSTED, RESTORED (R21). -/
theorem levelReasons_eq (before after : Level) :
    levelReasons before after =
      if before.code < after.code then
        { low := after == .low, emergency := after == .emergency, exhausted := after == .exhausted }
      else if before = .exhausted ∧ after ≠ .exhausted then { restored := true } else {} := by
  unfold levelReasons
  split
  · cases after <;> rfl
  · rfl

theorem joinReasons_new {slot : Fin 64} (reasons : Reasons) {ahead : List AttentionEntry}
    (h : ∀ e ∈ ahead, e.slot ≠ slot) : joinReasons slot reasons ahead = ahead ++ [{ slot := slot, reasons := reasons }] := by
  induction ahead with
  | nil => rfl
  | cons e rest ih =>
    obtain ⟨he, hr⟩ := List.forall_mem_cons.mp h
    rw [joinReasons, if_neg he, ih hr, List.cons_append]

theorem joinReasons_join {slot : Fin 64} (reasons old : Reasons) {ahead : List AttentionEntry}
    (behind : List AttentionEntry) (h : ∀ e ∈ ahead, e.slot ≠ slot) :
    joinReasons slot reasons (ahead ++ { slot := slot, reasons := old } :: behind) =
      ahead ++ { slot := slot, reasons := old.union reasons } :: behind := by
  induction ahead with
  | nil => simp [joinReasons]
  | cons e rest ih =>
    obtain ⟨he, hr⟩ := List.forall_mem_cons.mp h
    rw [List.cons_append, joinReasons, if_neg he, ih hr, List.cons_append]

/-- Settles O19: the level function by its intervals, the reason of a change by cases, and the join by where the entry
stands. -/
theorem levelAndReasonOfChange : Obligations.LevelAndReasonOfChange :=
  ⟨levelOf_iff, levelReasons_eq, fun _ reasons old _ behind h =>
    ⟨joinReasons_new reasons h, joinReasons_join reasons old behind h⟩⟩

/-! ### The steps of a commit (R177 to R179) -/

/-- A processor that is not WAITING has nothing to test (R108). -/
theorem retestWait_of_notWaiting {s : State} (h : NotWaiting s) : s.retestWait = s := by
  rcases retestWait_cases s with hs | ⟨cmd, w, hx, -⟩
  · exact hs
  · exact absurd hx (h cmd w)

theorem commitStart_account {s : State} {page : Fin 9} {rest : List (Fin 9)} (ho : s.operating = true)
    (hp : s.commit.phase = .idle) (he : s.commit.eligible = page :: rest) (h8 : page ≠ 8) :
    exec .commitStart s = .next { s with commit := { s.commit with phase := .gather page } } := by
  simp [exec, execCommitStart, hp, he, ho, settingsPage, h8]

theorem commitStart_settings {s : State} {rest : List (Fin 9)} (ho : s.operating = true)
    (hp : s.commit.phase = .idle) (he : s.commit.eligible = 8 :: rest) :
    exec .commitStart s = .next (s.fixSnapshot 8 s.gatherSettings) := by
  simp [exec, execCommitStart, hp, he, ho, settingsPage]

theorem accountPage_castSucc (k : Fin 8) : accountPage k.castSucc = some k := by
  simp [accountPage]

theorem gather_completes {s : State} {k : Fin 8} (hop : s.engine.op = .busy (.gather k.castSucc)) (hw : NotWaiting s) :
    exec .gather s = .next (s.freeEngine.fixSnapshot k.castSucc (s.gatherAccounts k)) := by
  have notWaiting : NotWaiting (s.freeEngine.fixSnapshot k.castSucc (s.gatherAccounts k)) := hw
  simp only [exec, execGather, hop, accountPage_castSucc]
  rw [retestWait_of_notWaiting notWaiting]

theorem eraseComplete_damages {s : State} {page : Fin 9} (hp : s.commit.phase = .erase page) :
    exec .eraseComplete s =
      .next { s with nv := s.nv.set page .damaged, commit := { s.commit with phase := .program page } } := by
  simp [exec, execEraseComplete, hp]

theorem programComplete_writes {s : State} {page : Fin 9} (written : Bool) (hp : s.commit.phase = .program page) :
    exec (.programComplete written) s =
      .next { s with
        nv := s.nv.set page (programmed written s.commit.snapshot), commit := { s.commit with phase := .verify page } } := by
  simp [exec, execProgramComplete, hp]

/-- Settles O39: one equation for each step of a commit. -/
theorem commitStepsWritePage : Obligations.CommitStepsWritePage := by
  refine ⟨fun _ => rfl, fun _ _ => rfl, fun s page rest ho hp he => ⟨commitStart_account ho hp he, ?_⟩,
    fun s k hop hw => gather_completes hop hw, fun s page hp => eraseComplete_damages hp, fun s page contents hp hs => ?_⟩
  · rintro rfl
    exact commitStart_settings ho hp he
  · rw [programComplete_writes true hp, programComplete_writes false hp, hs]
    exact ⟨rfl, rfl⟩

end Sys2Proof.Machine.Proofs

namespace Sys2Proof.Machine.Proofs

open Sys2Proof Sys2Proof.Machine Sys2Proof.Machine.Laws

/-! ### The digits of a packed field (R27) -/

theorem nibble_zero (w : Nat) : nibble w 0 = w % 16 := by simp [nibble]

theorem nibble_succ (w j : Nat) : nibble w (j + 1) = nibble (w / 16) j := by
  simp only [nibble, pow_succ', Nat.div_div_eq_div_mul]

theorem digitsGood_succ (digits w : Nat) : DigitsGood (digits + 1) w ↔ DigitsGood digits (w / 16) ∧ w % 16 ≤ 9 := by
  constructor
  · intro h
    exact ⟨fun j hj => nibble_succ w j ▸ h (j + 1) (by omega), nibble_zero w ▸ h 0 (by omega)⟩
  · rintro ⟨rest, last⟩ j hj
    cases j with
    | zero => rwa [nibble_zero]
    | succ j => exact nibble_succ w j ▸ rest j (by omega)

/-- A sum of weighted digits by its last digit and the digits before it. -/
theorem sum_digits_succ (digit : Nat → Nat) (digits : Nat) :
    ((List.range (digits + 1)).map fun j => digit j * 10 ^ j).sum =
      ((List.range digits).map fun j => digit (j + 1) * 10 ^ j).sum * 10 + digit 0 := by
  rw [List.range_succ_eq_map, List.map_cons, List.sum_cons, List.map_map, ← List.sum_map_mul_right, pow_zero, mul_one,
    add_comm]
  simp only [Function.comp_def, Nat.succ_eq_add_one, pow_succ, mul_assoc]

/-- A mended field is the sum of its digits, a bad one counted as 0 (R9). -/
theorem bcdMended_eq_sum (digits w : Nat) :
    bcdMended digits w =
      ((List.range digits).map fun j => (if nibble w j ≤ 9 then nibble w j else 0) * 10 ^ j).sum := by
  induction digits generalizing w with
  | zero => rfl
  | succ d ih =>
    rw [sum_digits_succ (fun j => if nibble w j ≤ 9 then nibble w j else 0)]
    simp only [bcdMended, ih, nibble_succ, nibble_zero]

theorem bcdValue_eq_some_iff (digits w v : Nat) :
    bcdValue digits w = some v ↔ DigitsGood digits w ∧ v = bcdMended digits w := by
  induction digits generalizing w v with
  | zero => simp [bcdValue, bcdMended, DigitsGood, eq_comm]
  | succ d ih =>
    rw [digitsGood_succ, bcdValue, bcdMended]
    cases hv : bcdValue d (w / 16) with
    | none =>
      have bad : ¬DigitsGood d (w / 16) := fun good => by simp [(ih _ _).mpr ⟨good, rfl⟩] at hv
      simp [bad]
    | some u =>
      obtain ⟨good, rfl⟩ := (ih _ _).mp hv
      by_cases last : w % 16 ≤ 9 <;> simp [good, last, eq_comm]

theorem bcdValue_isSome_iff (digits w : Nat) : (bcdValue digits w).isSome = true ↔ DigitsGood digits w := by
  simp [Option.isSome_iff_exists, bcdValue_eq_some_iff]

theorem bcdMended_of_value {digits w v : Nat} (h : bcdValue digits w = some v) : bcdMended digits w = v :=
  ((bcdValue_eq_some_iff ..).mp h).2.symm

theorem bcdMended_eq_sum_of_good {digits w : Nat} (h : DigitsGood digits w) :
    bcdMended digits w = ((List.range digits).map fun j => nibble w j * 10 ^ j).sum := by
  rw [bcdMended_eq_sum]
  refine congrArg List.sum (List.map_congr_left fun j hj => ?_)
  rw [if_pos (h j (List.mem_range.mp hj))]

/-- The value of a packed field without bad digits is the sum of its digits (R27). -/
theorem bcdValue_eq_some_iff_sum (digits w v : Nat) :
    bcdValue digits w = some v ↔
      DigitsGood digits w ∧ v = ((List.range digits).map fun j => nibble w j * 10 ^ j).sum := by
  rw [bcdValue_eq_some_iff]
  exact and_congr_right fun good => by rw [bcdMended_eq_sum_of_good good]

/-! ### Packing a number (R27) -/

theorem toBcd_lt (digits v : Nat) : toBcd digits v < 16 ^ digits := by
  induction digits generalizing v with
  | zero => simp [toBcd]
  | succ d ih =>
    have := ih (v / 10)
    rw [toBcd, pow_succ]
    omega

theorem bcdValue_toBcd {digits v : Nat} (h : v < 10 ^ digits) : bcdValue digits (toBcd digits v) = some v := by
  induction digits generalizing v with
  | zero => simp [bcdValue]; omega
  | succ d ih =>
    rw [pow_succ] at h
    have front : (toBcd d (v / 10) * 16 + v % 10) / 16 = toBcd d (v / 10) := by omega
    have last : (toBcd d (v / 10) * 16 + v % 10) % 16 = v % 10 := by omega
    rw [toBcd, bcdValue, front, last, ih (by omega)]
    dsimp only
    rw [if_pos (by omega)]
    congr 1
    omega

/-- A number packed into a word of the width its digits take has its value there. -/
theorem bcdValue_ofNat_toBcd {digits width v : Nat} (hw : 16 ^ digits ≤ 2 ^ width) (h : v < 10 ^ digits) :
    bcdValue digits (BitVec.ofNat width (toBcd digits v)).toNat = some v := by
  rw [BitVec.toNat_ofNat, Nat.mod_eq_of_lt (lt_of_lt_of_le (toBcd_lt digits v) hw), bcdValue_toBcd h]

theorem digits8_bcdWord {n : Nat} (h : n ≤ 99999999) : digits8 (bcdWord n) = some n :=
  bcdValue_ofNat_toBcd (by decide) (by omega)

/-! ### A stored record as load takes it (R9) -/

theorem sound_iff (stored : StoredAccount) :
    stored.sound = true ↔
      DigitsGood 8 stored.number.toNat ∧ DigitsGood 10 stored.balance.toNat ∧ DigitsGood 8 stored.ec.toNat ∧
        DigitsGood 8 stored.low.toNat ∧ stored.tariff.toNat ≤ 7 := by
  simp only [StoredAccount.sound, Bool.and_eq_true, bcdValue_isSome_iff, decide_eq_true_eq, Nat.lt_succ_iff, and_assoc]

/-- The fields a stored record loads with, whatever its status (R9). -/
structure FieldsLoaded (stored : StoredAccount) (a : Account) : Prop where
  number : a.number = bcdMended 8 stored.number.toNat
  balance : a.balance = if stored.sign = 0 then (bcdMended 10 stored.balance.toNat : Int)
    else -(bcdMended 10 stored.balance.toNat : Int)
  ec : a.ec = bcdMended 8 stored.ec.toNat
  low : a.low = bcdMended 8 stored.low.toNat
  tariff : a.tariff.val = if stored.tariff.toNat < 8 then stored.tariff.toNat else 0
  level : a.level = levelOf a.balance a.low a.ec
  boundCount : a.boundCount = 0

theorem loadRecord_fields (stored : StoredAccount) (status : Status) :
    FieldsLoaded stored (loadRecord stored status) where
  number := rfl
  balance := by
    show signed _ _ = _
    exact if_congr (BitVec.toNat_inj (y := 0)) rfl rfl
  ec := rfl
  low := rfl
  tariff := by
    show (Option.getD (tariffIndex _) 0).val = _
    unfold tariffIndex
    split <;> rfl
  level := rfl
  boundCount := rfl

theorem FieldsLoaded.withStatus {stored : StoredAccount} {a : Account} (h : FieldsLoaded stored a) (status : Status) :
    FieldsLoaded stored { a with status } :=
  ⟨h.number, h.balance, h.ec, h.low, h.tariff, h.level, h.boundCount⟩

/-- The stored record makes an account with this number: it is sound, and the number is not 0 and not taken (R9). -/
def Accepted (s : State) (stored : StoredAccount) : Prop :=
  stored.sound = true ∧ bcdMended 8 stored.number.toNat ≠ 0 ∧ s.lookup (bcdMended 8 stored.number.toNat) = none

theorem loadAccount_accepted {s : State} {stored : StoredAccount} (slot : Fin 64) (status : Status)
    (h : Accepted s stored) :
    s.loadAccount slot stored status =
      (s.setSlot slot (loadRecord stored status)).insertDirectory (bcdMended 8 stored.number.toNat) slot := by
  unfold State.loadAccount
  exact if_pos h

theorem loadAccount_refused {s : State} {stored : StoredAccount} (slot : Fin 64) (status : Status)
    (h : ¬Accepted s stored) :
    s.loadAccount slot stored status = (s.quarantine slot (loadRecord stored status)).setLoadDamage := by
  unfold State.loadAccount
  exact if_neg h

/-- What one loaded record does: the slot has status `now`, and this is what becomes of the rest. -/
structure RecordTaken (s t : State) (slot : Fin 64) (stored : StoredAccount) (now : Status) : Prop where
  status : (t.slot slot).status = now
  fields : now ≠ .free → FieldsLoaded stored (t.slot slot)
  quarantined : now = .quarantined → t.engine.attention = joinReasons slot { quarantine := true } s.engine.attention
  others : now ≠ .quarantined → t.engine.attention = s.engine.attention
  kept : SlotsKept s t slot
  points : t.points = s.points
  commit : t.commit = s.commit
  directory : now.listed = false → t.engine.directory = s.engine.directory

theorem quarantine_notice (s : State) (slot : Fin 64) (a : Account) : (s.quarantine slot a).notice = s.notice := by
  simp [State.quarantine]

theorem quarantine_taken (s : State) (slot : Fin 64) (stored : StoredAccount) (status : Status) :
    RecordTaken s (s.quarantine slot (loadRecord stored status)) slot stored .quarantined where
  status := by simp [State.quarantine]
  fields _ := by
    simpa [State.quarantine] using (loadRecord_fields stored status).withStatus .quarantined
  quarantined _ := rfl
  others h := absurd rfl h
  kept i hi := by simp [State.quarantine, slot_setSlot, hi.symm]
  points := by simp [State.quarantine]
  commit := by simp [State.quarantine]
  directory _ := by simp [State.quarantine, State.setSlot]

theorem RecordTaken.setLoadDamage {s t : State} {slot : Fin 64} {stored : StoredAccount} {now : Status}
    (h : RecordTaken s t slot stored now) : RecordTaken s t.setLoadDamage slot stored now :=
  ⟨h.status, h.fields, h.quarantined, h.others, h.kept, h.points, h.commit, h.directory⟩

theorem setSlot_free_taken (s : State) (slot : Fin 64) (stored : StoredAccount) :
    RecordTaken s (s.setSlot slot Account.free) slot stored .free where
  status := by simp [Account.free]
  fields h := absurd rfl h
  quarantined h := by cases h
  others _ := rfl
  kept i hi := by simp [slot_setSlot, hi.symm]
  points := rfl
  commit := rfl
  directory _ := rfl

theorem slot_insertDirectory (s : State) (number : Nat) (slot i : Fin 64) :
    (s.insertDirectory number slot).slot i = s.slot i := rfl

theorem accepted_taken (s : State) (slot : Fin 64) (stored : StoredAccount) {status : Status}
    (hs : status.listed = true) (number : Nat) :
    RecordTaken s ((s.setSlot slot (loadRecord stored status)).insertDirectory number slot) slot stored status where
  status := by rw [slot_insertDirectory, slot_setSlot_same]; rfl
  fields _ := by rw [slot_insertDirectory, slot_setSlot_same]; exact loadRecord_fields stored status
  quarantined h := by simp [h, Status.listed] at hs
  others _ := rfl
  kept i hi := by rw [slot_insertDirectory, slot_setSlot, if_neg hi.symm]
  points := rfl
  commit := rfl
  directory h := by simp [h] at hs

/-- A record stored ACTIVE or SUSPENDED keeps its status, or is QUARANTINED as damage (R9). -/
theorem loadAccount_taken (s : State) (slot : Fin 64) (stored : StoredAccount) {status : Status}
    (hs : status.listed = true) :
    ∃ now, now ≠ .free ∧ RecordTaken s (s.loadAccount slot stored status) slot stored now := by
  by_cases h : Accepted s stored
  · have notFree : status ≠ .free := by
      rintro rfl
      cases hs
    exact ⟨status, notFree, loadAccount_accepted slot status h ▸ accepted_taken s slot stored hs _⟩
  · exact ⟨.quarantined, nofun,
      loadAccount_refused slot status h ▸ (quarantine_taken s slot stored status).setLoadDamage⟩

/-! ### One slot of a good page, by its stored status (R9) -/

theorem loadSlot_free {s : State} {slot : Fin 64} {stored : StoredAccount} (h : stored.status = 0) :
    s.loadSlot slot stored = s.setSlot slot Account.free := by
  simp [State.loadSlot, h]

theorem loadSlot_account {s : State} {slot : Fin 64} {stored : StoredAccount}
    (h : stored.status = 1 ∨ stored.status = 2) :
    s.loadSlot slot stored = s.loadAccount slot stored (if stored.status = 1 then .active else .suspended) := by
  rcases h with h | h <;> simp [State.loadSlot, h]

theorem loadSlot_quarantined {s : State} {slot : Fin 64} {stored : StoredAccount} (h : stored.status = 3) :
    s.loadSlot slot stored = s.quarantine slot (loadRecord stored .quarantined) := by
  simp [State.loadSlot, h]

theorem loadSlot_unknown {s : State} {slot : Fin 64} {stored : StoredAccount} (h : 3 < stored.status.toNat) :
    s.loadSlot slot stored = (s.quarantine slot (loadRecord stored .quarantined)).setLoadDamage := by
  unfold State.loadSlot
  rw [if_neg (by omega), if_neg (by omega), if_neg (by omega), if_neg (by omega)]

theorem storedStatus_listed (stored : StoredAccount) :
    (if stored.status = 1 then Status.active else .suspended).listed = true := by
  split <;> rfl

theorem storedStatus_cases (b : Byte) : b = 0 ∨ (b = 1 ∨ b = 2) ∨ b = 3 ∨ 3 < b.toNat := by
  simp only [← BitVec.toNat_inj]
  change b.toNat = 0 ∨ (b.toNat = 1 ∨ b.toNat = 2) ∨ b.toNat = 3 ∨ 3 < b.toNat
  omega

theorem loadSlot_taken (s : State) (slot : Fin 64) (stored : StoredAccount) :
    ∃ now, (stored.status ≠ 0 → now ≠ .free) ∧ RecordTaken s (s.loadSlot slot stored) slot stored now := by
  rcases storedStatus_cases stored.status with h | h | h | h
  · exact ⟨.free, fun h0 => absurd h h0, loadSlot_free h ▸ setSlot_free_taken s slot stored⟩
  · obtain ⟨now, hnow, taken⟩ := loadAccount_taken s slot stored (storedStatus_listed stored)
    exact ⟨now, fun _ => hnow, loadSlot_account h ▸ taken⟩
  · exact ⟨.quarantined, fun _ => nofun, loadSlot_quarantined h ▸ quarantine_taken s slot stored _⟩
  · exact ⟨.quarantined, fun _ => nofun, loadSlot_unknown h ▸ (quarantine_taken s slot stored _).setLoadDamage⟩

theorem loadSlot_accepted {s : State} {slot : Fin 64} {stored : StoredAccount}
    (h : stored.status = 1 ∨ stored.status = 2) (accepted : Accepted s stored) :
    RecordTaken s (s.loadSlot slot stored) slot stored (if stored.status = 1 then .active else .suspended) ∧
      { number := bcdMended 8 stored.number.toNat, slot } ∈ (s.loadSlot slot stored).engine.directory ∧
      (s.loadSlot slot stored).notice = s.notice := by
  rw [loadSlot_account h, loadAccount_accepted slot _ accepted]
  exact ⟨accepted_taken s slot stored (storedStatus_listed stored) _, mem_insertEntry.mpr (.inl rfl), rfl⟩

theorem loadSlot_refused {s : State} {slot : Fin 64} {stored : StoredAccount}
    (h : stored.status = 1 ∨ stored.status = 2) (refused : ¬Accepted s stored) :
    RecordTaken s (s.loadSlot slot stored) slot stored .quarantined ∧
      (s.loadSlot slot stored).notice.errors.loadDamage = true := by
  rw [loadSlot_account h, loadAccount_refused slot _ refused]
  exact ⟨(quarantine_taken s slot stored _).setLoadDamage, rfl⟩

/-- Settles O6: the digits, then the record taken by the status it is stored with. -/
theorem storedRecordLoadsOrQuarantines : Obligations.StoredRecordLoadsOrQuarantines := by
  refine ⟨sound_iff, bcdMended_eq_sum, fun s slot stored => ?_⟩
  obtain ⟨now, notFree, taken⟩ := loadSlot_taken s slot stored
  refine ⟨fun h => ?_, fun number h sound value nonzero fresh => ?_, fun number h mended cause => ?_, fun h => ?_,
    fun h => ?_, fun h => ?_, fun h => ?_, fun h => ?_, taken.kept, taken.points, taken.commit⟩
  · rw [loadSlot_free h]
    exact ⟨by simp, rfl, rfl⟩
  · obtain rfl := bcdMended_of_value value
    obtain ⟨taken, entry, notice⟩ := loadSlot_accepted (slot := slot) h ⟨sound, nonzero, fresh⟩
    have fields := taken.fields (by split <;> nofun)
    exact ⟨fields.number, taken.status, fields.level, entry, notice⟩
  · have refused : ¬Accepted s stored := by
      rintro ⟨sound, nonzero, fresh⟩
      rw [mended] at nonzero fresh
      simp [sound, nonzero, fresh] at cause
    obtain ⟨taken, damage⟩ := loadSlot_refused (slot := slot) h refused
    exact ⟨taken.status, taken.directory rfl, damage⟩
  · rw [loadSlot_quarantined h]
    exact ⟨(quarantine_taken s slot stored _).status, quarantine_notice ..⟩
  · rw [loadSlot_unknown h]
    exact ⟨(quarantine_taken s slot stored _).setLoadDamage.status, rfl⟩
  · obtain ⟨number, balance, ec, low, tariff, level, count⟩ := taken.fields (notFree h)
    exact ⟨number, balance, ec, low, tariff, level, count⟩
  · exact taken.quarantined (taken.status ▸ h)
  · exact taken.others (taken.status ▸ h)

end Sys2Proof.Machine.Proofs

namespace Sys2Proof.Machine.Proofs

open Sys2Proof Sys2Proof.Machine Sys2Proof.Machine.Laws

/-! ### Codes that load back (R42, R170, R178) -/

theorem storedCode_toNat {n : Nat} (h : n < 256) : (BitVec.ofNat 8 n).toNat = n := by
  rw [BitVec.toNat_ofNat, Nat.mod_eq_of_lt h]

theorem statusCode_stored (st : Status) : (BitVec.ofNat 8 st.code).toNat = st.code := by cases st <;> rfl

theorem signed_signByte (b : Int) : signed (BitVec.ofNat 8 (signByte b)).toNat b.natAbs = b := by
  unfold signByte
  split
  · rw [signed, if_neg (by decide)]; omega
  · rw [signed, if_pos (by decide)]; omega

theorem tariffIndex_val (t : Fin 8) : tariffIndex t.val = some t := dif_pos t.isLt

theorem edgeMode_ofCode_stored (m : EdgeMode) : EdgeMode.ofCode (BitVec.ofNat 8 m.code).toNat = some m := by
  cases m <;> rfl

theorem debounce_ofCode_stored (d : Debounce) : Debounce.ofCode (BitVec.ofNat 8 d.code).toNat = some d := by
  cases d <;> rfl

theorem restoreMode_ofCode_stored (m : RestoreMode) : RestoreMode.ofCode (BitVec.ofNat 8 m.code).toNat = some m := by
  cases m <;> rfl

theorem loadPrescale_stored {n : Nat} (low : 1 ≤ n) (high : n ≤ 16) : loadPrescale (BitVec.ofNat 8 n) = some n := by
  rw [loadPrescale, storedCode_toNat (by omega), if_pos ⟨low, high⟩]

theorem loadBinding_stored (binding : Option (Fin 64)) : loadBinding (binding.map slotByte) = binding := by
  cases binding with
  | none => rfl
  | some slot =>
    have code : (slotByte slot).toNat = slot.val := storedCode_toNat (by omega)
    simp [loadBinding, code]

/-! ### Accounts -/

/-- The packed fields of the stored record have the values of the account, and its tariff. -/
structure FieldsStored (a : Account) (stored : StoredAccount) : Prop where
  number : bcdValue 8 stored.number.toNat = some a.number
  balance : bcdValue 10 stored.balance.toNat = some a.balance.natAbs
  ec : bcdValue 8 stored.ec.toNat = some a.ec
  low : bcdValue 8 stored.low.toNat = some a.low
  tariff : stored.tariff.toNat = a.tariff.val

theorem storeAccount_stored {a : Account} (h : FieldsInRange a) : FieldsStored a (storeAccount a) where
  number := bcdValue_ofNat_toBcd (by decide) (by have := h.number; omega)
  balance := bcdValue_ofNat_toBcd (by decide) (by have := h.above; have := h.below; omega)
  ec := bcdValue_ofNat_toBcd (by decide) (by have := h.ec; omega)
  low := bcdValue_ofNat_toBcd (by decide) (by have := h.low; omega)
  tariff := storedCode_toNat (by omega)

theorem FieldsStored.sound {a : Account} {stored : StoredAccount} (h : FieldsStored a stored) : stored.sound = true := by
  simp [StoredAccount.sound, h.number, h.balance, h.ec, h.low, h.tariff]

theorem loadRecord_storeAccount {a : Account} (range : FieldsInRange a)
    (level : a.level = levelOf a.balance a.low a.ec) :
    loadRecord (storeAccount a) a.status = { a with boundCount := 0 } := by
  obtain ⟨number, balance, ec, low, tariff⟩ := storeAccount_stored range
  have sign : signed (storeAccount a).sign.toNat a.balance.natAbs = a.balance := signed_signByte a.balance
  rw [loadRecord, bcdMended_of_value number, bcdMended_of_value balance, bcdMended_of_value ec, bcdMended_of_value low,
    tariff, tariffIndex_val, sign, Account.relevelled]
  simp only [Option.getD_some, ← level]

/-! ### Settings -/

theorem loadConfig_storePoint {p : Point} (low : 1 ≤ p.config.prescale) (high : p.config.prescale ≤ 16)
    (grace : p.config.grace ≤ 65535) : loadConfig (storePoint p) = p.config := by
  have graceStored : (storePoint p).grace.toNat = p.config.grace := by
    change (BitVec.ofNat 16 _).toNat = _
    rw [BitVec.toNat_ofNat, Nat.mod_eq_of_lt (by omega)]
  rw [loadConfig, graceStored]
  simp only [storePoint, edgeMode_ofCode_stored, loadPrescale_stored low high, debounce_ofCode_stored,
    restoreMode_ofCode_stored, Option.getD_some]

theorem storePoint_usable {p : Point} (low : 1 ≤ p.config.prescale) (high : p.config.prescale ≤ 16) :
    (storePoint p).unusable = false := by
  simp only [StoredPoint.unusable, storePoint, edgeMode_ofCode_stored, loadPrescale_stored low high,
    debounce_ofCode_stored, restoreMode_ofCode_stored, loadBinding_stored, Option.isSome_map, Option.isNone_some,
    Bool.or_false]
  cases p.binding <;> rfl

/-- The packed fields of the stored tariff have the values of the tariff. -/
structure TariffStored (t : Tariff) (stored : StoredTariff) : Prop where
  priceA : bcdValue 6 stored.priceA.toNat = some t.priceA
  priceB : bcdValue 6 stored.priceB.toNat = some t.priceB
  standing : bcdValue 6 stored.standing.toNat = some t.standing

theorem storeTariff_stored {t : Tariff} (a : t.priceA ≤ 999999) (b : t.priceB ≤ 999999) (c : t.standing ≤ 999999) :
    TariffStored t (storeTariff t) where
  priceA := bcdValue_ofNat_toBcd (by decide) (by omega)
  priceB := bcdValue_ofNat_toBcd (by decide) (by omega)
  standing := bcdValue_ofNat_toBcd (by decide) (by omega)

theorem TariffStored.usable {t : Tariff} {stored : StoredTariff} (h : TariffStored t stored) :
    stored.unusable = false := by
  simp [StoredTariff.unusable, h.priceA, h.priceB, h.standing]

theorem TariffStored.load {t : Tariff} {stored : StoredTariff} (h : TariffStored t stored) : loadTariff stored = t := by
  simp [loadTariff, h.priceA, h.priceB, h.standing]

theorem loadPeriod_stored {n : Nat} (low : 60 ≤ n) (high : n ≤ 86400) : loadPeriod (BitVec.ofNat 32 n) = some n := by
  rw [loadPeriod, BitVec.toNat_ofNat, Nat.mod_eq_of_lt (by omega), if_pos ⟨low, high⟩]

theorem loadInterval_stored {n : Nat} (low : 1 ≤ n) (high : n ≤ 255) : loadInterval (BitVec.ofNat 8 n) = some n := by
  rw [loadInterval, storedCode_toNat (by omega), if_neg (by omega)]

theorem loadEnable_stored (enabled : Bool) : loadEnable (if enabled then 1 else 0) = some enabled := by
  cases enabled <;> rfl

theorem loadAddress_stored {address : BitVec 7} (low : 0x08 ≤ address.toNat) (high : address.toNat ≤ 0x77) :
    loadAddress (address.zeroExtend 8) = some address := by
  have stored : (address.zeroExtend 8).toNat = address.toNat := by
    rw [BitVec.toNat_setWidth]; omega
  rw [loadAddress, stored, if_pos ⟨low, high⟩, BitVec.ofNat_toNat, BitVec.setWidth_eq]

/-- Settles O41: each stored field has the value of the field it was taken from. -/
theorem storedFieldsLoadBack : Obligations.StoredFieldsLoadBack := by
  refine ⟨fun a _ number ec low above below level => ?_, rfl, fun p low high grace => ?_, fun t a b c => ?_,
    fun s periodLow periodHigh intervalLow intervalHigh addressLow addressHigh maximum => ?_⟩
  · have range : FieldsInRange a := ⟨number, ec, low, above, below⟩
    exact ⟨statusCode_stored a.status, (storeAccount_stored range).sound, loadRecord_storeAccount range level⟩
  · exact ⟨storePoint_usable low high, loadBinding_stored p.binding, loadConfig_storePoint low high grace⟩
  · exact ⟨(storeTariff_stored a b c).usable, (storeTariff_stored a b c).load⟩
  · exact ⟨_, rfl, fun p => by simp [State.point], fun i => by simp, loadPeriod_stored periodLow periodHigh,
      loadInterval_stored intervalLow intervalHigh, loadEnable_stored _, loadAddress_stored addressLow addressHigh,
      bcdValue_ofNat_toBcd (by decide) (by omega)⟩

end Sys2Proof.Machine.Proofs

namespace Sys2Proof.Machine.Proofs

open Sys2Proof Sys2Proof.Machine Sys2Proof.Machine.Laws

/-! ### A change report in the words of the statements (R173, R175) -/

theorem report_commitKept (s : State) (page : Fin 9) (urgent : Bool) : CommitKept s (s.report page urgent) page := by
  refine ⟨fun q hq => ?_, rfl⟩
  rw [dirty_report, if_neg hq.symm]

theorem reportJoins_eligible (record : Option DirtyRecord) (page : Fin 9) (pages : List (Fin 9)) :
    (if reportJoins true record then joinEligible page pages else pages) = eligibleAfterUrgent record page pages := by
  rcases record with _ | ⟨urgent, age⟩
  · simp [reportJoins, joinEligible, eligibleAfterUrgent]
  · cases urgent <;> simp [reportJoins, joinEligible, eligibleAfterUrgent]

theorem reportedRecord_urgent (record : Option DirtyRecord) :
    reportedRecord true record = { urgent := true, age := (record.map DirtyRecord.age).getD 0 } := by
  cases record <;> simp [reportedRecord]

theorem report_urgent {s : State} {urgent : Bool} (page : Fin 9) (h : (urgent || s.warned) = true) :
    ReportedUrgent s (s.report page urgent) page := by
  constructor
  · rw [RecordedUrgent, dirty_report, if_pos rfl, h, reportedRecord_urgent]
  · rw [← reportJoins_eligible, State.report, h]

theorem report_routine {s : State} (page : Fin 9) (h : s.warned = false) :
    ReportedRoutine s (s.report page false) page := by
  constructor
  · rw [dirty_report, if_pos rfl, h]
    cases s.commit.dirty[page] <;> simp [reportedRecord]
  · have routine : reportJoins (false || s.warned) s.commit.dirty[page] = false := by
      rw [h]
      cases s.commit.dirty[page] <;> rfl
    rw [State.report]
    dsimp only
    rw [routine]
    rfl

/-! ### A balance is stored (R30 to R33, R36, R37, R41) -/

/-- The slot's record with a balance, and the level that follows from it. -/
def withBalance (a : Account) (balance : Int) : Account :=
  { a with balance, level := levelOf balance a.low a.ec }

/-- What the storing of a balance does: the record, the reasons, the notices and the report of the slot's page; a balance equal
to the old one leaves the record and the page (R30). -/
structure BalanceStored (s t : State) (slot : Fin 64) (balance : Int) (clamped urgent : Bool) : Prop where
  op : t.engine.op = s.engine.op
  directory : t.engine.directory = s.engine.directory
  stored : balance ≠ (s.slot slot).balance → t.slot slot = withBalance (s.slot slot) balance
  same : balance = (s.slot slot).balance → t.slot slot = s.slot slot ∧ t.commit = s.commit
  slots : SlotsKept s t slot
  attention : t.engine.attention =
    attentionAfter slot (s.slot slot).level (t.slot slot).level clamped s.engine.attention
  points : PointsKept s t slot
  told : PointsTold s t slot
  commit : CommitKept s t (pageOf slot)
  reportedUrgent : balance ≠ (s.slot slot).balance → (urgent || s.warned) = true → ReportedUrgent s t (pageOf slot)
  reportedRoutine : balance ≠ (s.slot slot).balance → (urgent || s.warned) = false → ReportedRoutine s t (pageOf slot)
  frame : CommandFrame s t
  proc : t.proc = s.proc

theorem levelReasons_self (level : Level) : levelReasons level level = {} := by cases level <;> rfl

/-- Only LIMIT joins the entry of a slot that stays at its level (R22). -/
theorem attentionAfter_self (slot : Fin 64) (level : Level) (clamped : Bool) (entries : List AttentionEntry) :
    attentionAfter slot level level clamped entries =
      if clamped then joinReasons slot { limit := true } entries else entries := by
  rw [attentionAfter, levelReasons_self]
  cases clamped <;> rfl

theorem toldPoint_of_same {s t : State} {slot : Fin 64} (h : t.slot slot = s.slot slot) (p : Fin 16) :
    toldPoint s t slot p = s.point p := by
  simp [toldPoint, h]

theorem addLimit_stored (s : State) (slot : Fin 64) (clamped urgent : Bool) :
    BalanceStored s (s.addReasons slot { limit := clamped }) slot (s.slot slot).balance clamped urgent where
  op := addReasons_op ..
  directory := addReasons_directory ..
  stored h := absurd rfl h
  same _ := ⟨slot_addReasons .., addReasons_commit ..⟩
  slots i _ := slot_addReasons ..
  attention := by
    rw [slot_addReasons, attentionAfter_self, addReasons_attention]
    cases clamped <;> rfl
  points := ⟨fun p _ => point_of_points (addReasons_points ..) p, by rw [addReasons_points], by rw [addReasons_points]⟩
  told _ p _ := by rw [toldPoint_of_same (slot_addReasons ..), point_of_points (addReasons_points ..)]
  commit := by simp [CommitKept, CommitFrame]
  reportedUrgent h := absurd rfl h
  reportedRoutine h := absurd rfl h
  frame := by simp [CommandFrame]
  proc := addReasons_proc ..

theorem changeAccount_points_kept (s : State) (slot : Fin 64) (a : Account) (before : Level) (extra : Reasons) :
    PointsKept s (s.changeAccount slot a before extra) slot := by
  refine ⟨fun p hp => ?_, ?_, ?_⟩
  · rw [changeAccount_point, if_neg fun h => hp h.2.2]
  all_goals
    unfold State.changeAccount
    dsimp only
    split <;> simp [State.notifyPoints, State.mapPoints]

theorem changeAccount_told (s : State) (slot : Fin 64) {a : Account} (before : Level) (extra : Reasons)
    (count : a.boundCount = (s.slot slot).boundCount) :
    PointsTold s (s.changeAccount slot a before extra) slot := by
  intro bound p hp
  rw [changeAccount_point, toldPoint, changeAccount_slot, if_pos rfl, count]
  simp only [bound, hp, and_true]
  rfl

theorem newBalance_stored (s : State) (slot : Fin 64) {balance : Int} (clamped urgent : Bool)
    (h : balance ≠ (s.slot slot).balance) :
    BalanceStored s ((s.changeAccount slot { s.slot slot with balance := balance } (s.slot slot).level
      { limit := clamped }).report (pageOf slot) urgent) slot balance clamped urgent := by
  have record : (s.changeAccount slot { s.slot slot with balance := balance } (s.slot slot).level
      { limit := clamped }).slot slot = withBalance (s.slot slot) balance := by
    rw [changeAccount_slot, if_pos rfl]
    rfl
  exact {
    op := changeAccount_op ..
    directory := changeAccount_directory ..
    stored := fun _ => record
    same := fun same => absurd same h
    slots := fun i hi => by rw [slot_report, changeAccount_slot, if_neg hi.symm]
    attention := by
      rw [slot_report, record]
      exact changeAccount_attentionAfter ..
    points := changeAccount_points_kept ..
    told := changeAccount_told s slot _ _ rfl
    commit := by
      have kept := report_commitKept (s.changeAccount slot { s.slot slot with balance := balance } (s.slot slot).level
        { limit := clamped }) (pageOf slot) urgent
      simpa only [CommitKept, CommitFrame, changeAccount_commit] using kept
    reportedUrgent := fun _ hu => by
      have reported := report_urgent (s := s.changeAccount slot { s.slot slot with balance := balance }
        (s.slot slot).level { limit := clamped }) (urgent := urgent) (pageOf slot) (by simpa [State.warned] using hu)
      simpa only [ReportedUrgent, RecordedUrgent, changeAccount_commit] using reported
    reportedRoutine := fun _ hu => by
      obtain ⟨rfl, hw⟩ := Bool.or_eq_false_iff.mp hu
      have reported := report_routine (s := s.changeAccount slot { s.slot slot with balance := balance }
        (s.slot slot).level { limit := clamped }) (pageOf slot) (by simpa [State.warned] using hw)
      simpa only [ReportedRoutine, changeAccount_commit] using reported
    frame := by simp [CommandFrame]
    proc := by simp }

theorem storeBalance_stored (s : State) (slot : Fin 64) (balance : Int) (clamped urgent : Bool) :
    BalanceStored s (s.storeBalance slot balance { limit := clamped } urgent) slot balance clamped urgent := by
  unfold State.storeBalance
  dsimp only
  split
  · rename_i h
    exact h ▸ addLimit_stored s slot clamped urgent
  · rename_i h
    exact newBalance_stored s slot clamped urgent h

/-- CHARGE and STANDING store the difference, or the end of the range with LIMIT (R30, R31, R22). -/
theorem takeCharge_eq (s : State) (slot : Fin 64) {amount : Nat} (h : amount ≠ 0) :
    s.takeCharge slot amount =
      s.storeBalance slot (max ((s.slot slot).balance - amount) (-9999999999))
        { limit := decide ((s.slot slot).balance - amount < -9999999999) } false := by
  unfold State.takeCharge
  rw [if_neg h]
  have limit : (-Config.maxBalance : Int) = -9999999999 := rfl
  rw [limit]
  split
  · rename_i clamped
    rw [max_eq_right (by omega), decide_eq_true clamped]
  · rename_i within
    rw [max_eq_left (by omega), decide_eq_false within]

theorem takeCharge_stored (s : State) (slot : Fin 64) {amount : Nat} (h : amount ≠ 0) :
    BalanceStored s (s.takeCharge slot amount) slot (max ((s.slot slot).balance - amount) (-9999999999))
      (decide ((s.slot slot).balance - amount < -9999999999)) false :=
  takeCharge_eq s slot h ▸ storeBalance_stored ..

end Sys2Proof.Machine.Proofs

namespace Sys2Proof.Machine.Proofs

open Sys2Proof Sys2Proof.Machine Sys2Proof.Machine.Laws

/-! ### A notice changes no pending units (R30, R37) -/

theorem evaluate_pending (p : Point) : p.evaluate.pending = p.pending := by
  unfold Point.evaluate; split
  · rfl
  · split <;> rfl

theorem follow_pending (deferral : Bool) (level : Level) (p : Point) : (p.follow deferral level).pending = p.pending := by
  have enterGrace : (p.enterGrace deferral).pending = p.pending := by
    unfold Point.enterGrace; split <;> rfl
  have restored : p.restored.pending = p.pending := by
    unfold Point.restored; split <;> rfl
  unfold Point.follow
  split
  case h_1 => split; exacts [enterGrace, rfl]
  case h_2 => split <;> rfl
  case h_3 => split; exacts [rfl, restored]
  case h_4 => split <;> rfl
  all_goals rfl

theorem notified_pending (deferral : Bool) (status : Status) (level : Level) (p : Point) :
    (p.notified deferral status level).pending = p.pending := by
  have told : (if status = .active then (p.seeing status level).follow deferral level
      else (p.seeing status level).toHeld).pending = p.pending := by
    split
    · exact follow_pending ..
    · rfl
  unfold Point.notified
  split
  case h_1 => rfl
  case h_2 => rfl
  case h_3 => split; exacts [rfl, evaluate_pending _]
  all_goals exact told

/-! ### The completion of CHARGE (R30, R68) -/

/-- A tally for the point takes the units and the amount; any other tally is as it was (R68). -/
theorem tallyCharge_eq (s : State) (p : Fin 16) (n amount : Nat) :
    s.tallyCharge p n amount = { s with points := { s.points with
      tally := s.points.tally.map fun y =>
        if y.point = p then { y with units := y.units + n, amount := y.amount + amount } else y } } := by
  have unchanged (h : s.points.tally = s.points.tally.map fun y =>
      if y.point = p then { y with units := y.units + n, amount := y.amount + amount } else y) :
      s = { s with points := { s.points with
        tally := s.points.tally.map fun y =>
          if y.point = p then { y with units := y.units + n, amount := y.amount + amount } else y } } := by
    rw [← h]
  unfold State.tallyCharge
  split
  · rename_i y h
    split
    · rename_i hp
      simp [h, hp]
    · rename_i hp
      exact unchanged (by simp [h, hp])
  · rename_i h
    exact unchanged (by simp [h])

/-- The state when a CHARGE of n units has completed: the account has paid, and point and tally have changed (R30). -/
def charged (s : State) (p : Fin 16) (n : Nat) (slot : Fin 64) (amount : Nat) : State :=
  let paid := s.freeEngine.takeCharge slot amount
  { paid with points := { paid.points with
    points := paid.points.points.set p { paid.point p with pending := (paid.point p).pending - n }
    tally := paid.points.tally.map fun y =>
      if y.point = p then { y with units := y.units + n, amount := y.amount + amount } else y } }

theorem exec_charge {s : State} {p : Fin 16} {n : Nat} {slot : Fin 64} {price : Nat}
    (h : s.engine.op = .busy (.charge p n slot price)) (hw : NotWaiting s) :
    exec .charge s = .next (charged s p n slot (n * price)) := by
  have notWaiting : NotWaiting (charged s p n slot (n * price)) := by
    have proc : (charged s p n slot (n * price)).proc = s.proc := by simp [charged, State.freeEngine]
    simpa only [NotWaiting, proc] using hw
  simp only [exec, execCharge, h, tallyCharge_eq]
  exact congrArg _ (retestWait_of_notWaiting notWaiting)

theorem charged_point (s : State) (p : Fin 16) (n : Nat) (slot : Fin 64) (amount : Nat) (q : Fin 16) :
    (charged s p n slot amount).point q =
      if p = q then
        { (s.freeEngine.takeCharge slot amount).point p with
          pending := ((s.freeEngine.takeCharge slot amount).point p).pending - n }
      else (s.freeEngine.takeCharge slot amount).point q :=
  point_setPoint ..

theorem takeCharge_pending (s : State) (slot : Fin 64) (amount : Nat) (q : Fin 16) :
    ((s.freeEngine.takeCharge slot amount).point q).pending = (s.point q).pending := by
  obtain ⟨a, update⟩ := takeCharge_update s.freeEngine slot amount
  rcases update.point q with h | ⟨-, deferral, h⟩
  · rw [h]; rfl
  · rw [h, notified_pending]; rfl

theorem takeCharge_deferral_tally (s : State) (slot : Fin 64) (amount : Nat) :
    (s.takeCharge slot amount).points.deferral = s.points.deferral ∧
      (s.takeCharge slot amount).points.tally = s.points.tally := by
  by_cases h : amount = 0
  · simp [State.takeCharge, h]
  · exact (takeCharge_stored s slot h).points.2

/-- The units leave the pending units of the charged point alone, beside what the account's change does to a point (R30). -/
theorem charged_point_pending (s : State) (p : Fin 16) (n : Nat) (slot : Fin 64) (amount : Nat) (q : Fin 16) :
    (charged s p n slot amount).point q =
      { (s.freeEngine.takeCharge slot amount).point q with
        pending := if q = p then (s.point q).pending - n else (s.point q).pending } := by
  rw [charged_point]
  by_cases h : p = q
  · subst h
    rw [if_pos rfl, if_pos rfl, takeCharge_pending]
  · rw [if_neg h, if_neg (Ne.symm h), ← takeCharge_pending s slot amount q]

/-- Settles O15: a CHARGE stores the balance, then takes the units from the point and adds to the tally. -/
theorem chargeTakesAmountAndUnits : Obligations.ChargeTakesAmountAndUnits := by
  refine ⟨fun s p n slot price hop hw hamount hlow => ?_, fun s p n slot price hop hw hamount => ?_⟩
  · have paid := takeCharge_stored s.freeEngine slot hamount
    obtain ⟨deferral, tally⟩ := takeCharge_deferral_tally s.freeEngine slot (n * price)
    refine ⟨charged s p n slot (n * price), exec_charge hop hw, paid.op, paid.directory, fun within => ?_,
      fun bottom => paid.same ?_, paid.attention, fun bound q hq => ?_, ?_, paid.slots, paid.commit,
      fun q hq hne => ?_, fun y hy => ?_, fun hy => ?_, deferral, paid.frame, paid.proc⟩
    · have moved : max ((s.slot slot).balance - (n * price : Nat)) (-9999999999) ≠ (s.slot slot).balance := by omega
      exact ⟨paid.stored moved, paid.reportedRoutine moved, paid.reportedUrgent moved⟩
    · change max ((s.slot slot).balance - (n * price : Nat)) (-9999999999) = (s.slot slot).balance
      omega
    · rw [charged_point_pending, paid.told bound q hq]
      rfl
    · rw [charged_point_pending, if_pos rfl]
    · rw [charged_point_pending, paid.points.1 q hq, if_neg hne]
      rfl
    · have before : (s.freeEngine.takeCharge slot (n * price)).points.tally = some y := tally.trans hy
      simp only [charged, before, Option.map_some]
    · have before : (s.freeEngine.takeCharge slot (n * price)).points.tally = none := tally.trans hy
      simp only [charged, before, Option.map_none]
  · rw [exec_charge hop hw, hamount]
    simp only [charged, State.takeCharge, if_pos, State.freeEngine, add_zero]
    rfl

end Sys2Proof.Machine.Proofs

namespace Sys2Proof.Machine.Proofs

open Sys2Proof Sys2Proof.Machine Sys2Proof.Machine.Laws

/-! ### The completion of STANDING (R31, R90) -/

theorem owesStanding_iff (a : Account) (amount : Nat) :
    owesStanding a amount = true ↔ a.status.listed = true ∧ 1 ≤ a.boundCount ∧ 0 < amount := by
  simp only [owesStanding, Status.listed, Bool.and_eq_true, decide_eq_true_eq, and_assoc]

/-- The sweep after its visit to slot `c`, from the timer before (R90, R92). -/
structure SweepMoved (c : Fin 64) (warned : Bool) (before after : PeriodTimer) : Prop where
  others : after = { before with sweep := after.sweep, cursor := after.cursor, owed := after.owed }
  next : c.val < 63 → after.cursor.val = c.val + 1 ∧ after.owed = before.owed ∧
    after.sweep = if warned = true then .paused else .running
  done : c.val = 63 → before.owed = false → after.sweep = .idle
  again : c.val = 63 → before.owed = true → warned = false →
    after.sweep = .running ∧ after.cursor = 0 ∧ after.owed = false
  waits : c.val = 63 → before.owed = true → warned = true → after.sweep = .idle ∧ after.owed = true

theorem advanceSweep_moved (s : State) : SweepMoved s.timer.cursor s.warned s.timer s.advanceSweep.timer := by
  unfold State.advanceSweep
  split
  · rename_i h
    exact ⟨rfl, fun _ => ⟨rfl, rfl, rfl⟩, by omega, by omega, by omega⟩
  · rename_i h
    unfold State.endSweep
    split
    · rename_i starts
      obtain ⟨owed, notWarned⟩ : s.timer.owed = true ∧ s.warned = false := by simpa using starts
      exact ⟨rfl, by omega, by simp [owed], fun _ _ _ => ⟨rfl, rfl, rfl⟩, by simp [notWarned]⟩
    · rename_i ends
      have waits : s.timer.owed = true → s.warned = true := by simpa using ends
      exact ⟨rfl, by omega, fun _ _ => rfl, fun _ owed notWarned => by simp [waits owed] at notWarned,
        fun _ owed _ => ⟨rfl, owed⟩⟩

/-- The state when the STANDING of slot `c` has completed, but for the move of the sweep (R31). -/
def standingPaid (s : State) (c : Fin 64) (amount : Nat) : State :=
  if owesStanding (s.slot c) amount then s.freeEngine.takeCharge c amount else s.freeEngine

theorem standingPaid_stored {s : State} {c : Fin 64} {amount : Nat} (h : owesStanding (s.slot c) amount = true) :
    BalanceStored s.freeEngine (standingPaid s c amount) c (max ((s.slot c).balance - amount) (-9999999999))
      (decide ((s.slot c).balance - amount < -9999999999)) false := by
  rw [standingPaid, if_pos h]
  exact takeCharge_stored s.freeEngine c (by have := (owesStanding_iff ..).mp h; omega)

theorem standingPaid_owesNothing {s : State} {c : Fin 64} {amount : Nat} (h : owesStanding (s.slot c) amount = false) :
    standingPaid s c amount = s.freeEngine := by
  simp [standingPaid, h]

/-- What every visit of the sweep keeps, whether or not the slot pays (R31). -/
structure VisitKept (s t : State) (c : Fin 64) : Prop where
  op : t.engine.op = .free
  directory : t.engine.directory = s.engine.directory
  slots : SlotsKept s t c
  points : PointsKept s t c
  told : PointsTold s t c
  frame : CommandFrame s t
  proc : t.proc = s.proc

theorem standingPaid_kept (s : State) (c : Fin 64) (amount : Nat) : VisitKept s (standingPaid s c amount) c := by
  cases h : owesStanding (s.slot c) amount
  · rw [standingPaid_owesNothing h]
    refine ⟨rfl, rfl, fun _ _ => rfl, ⟨fun _ _ => rfl, rfl, rfl⟩, fun _ p _ => ?_, ?_, rfl⟩
    · exact (toldPoint_of_same (t := s.freeEngine) rfl p).symm
    · simp [CommandFrame, State.freeEngine]
  · have paid := standingPaid_stored h
    exact ⟨paid.op, paid.directory, paid.slots, paid.points, paid.told, paid.frame, paid.proc⟩

theorem exec_standing {s : State} {c : Fin 64} {amount : Nat} (h : s.engine.op = .busy (.standing c amount))
    (hw : NotWaiting s) : exec .standing s = .next (standingPaid s c amount).advanceSweep := by
  have notWaiting : NotWaiting (standingPaid s c amount).advanceSweep := by
    simpa only [NotWaiting, advanceSweep_proc, (standingPaid_kept s c amount).proc] using hw
  simp only [exec, execStanding, h]
  exact congrArg _ (retestWait_of_notWaiting notWaiting)

/-- The move of the sweep changes the timer alone. -/
theorem advanceSweep_eq (s : State) : s.advanceSweep = { s with timer := s.advanceSweep.timer } := by
  unfold State.advanceSweep State.endSweep
  split
  · rfl
  · split <;> rfl

theorem standing_sweepMoved {s : State} {c : Fin 64} (amount : Nat) (hc : s.timer.cursor = c) :
    SweepMoved c s.warned s.timer (standingPaid s c amount).advanceSweep.timer := by
  obtain ⟨hrun, htimer, -⟩ := (standingPaid_kept s c amount).frame
  have moved := advanceSweep_moved (standingPaid s c amount)
  rwa [htimer, hc, State.warned, hrun] at moved

/-- Settles O16: the slot pays when it owes, and the sweep moves on. -/
theorem standingPaysAndMovesSweep : Obligations.StandingPaysAndMovesSweep := by
  intro s c amount hop hc hw
  have kept := standingPaid_kept s c amount
  have moved := standing_sweepMoved amount hc
  obtain ⟨run, -, port, notice, nv, spi, readData, freeCount, pending⟩ := kept.frame
  refine ⟨_, exec_standing hop hw, ?_⟩
  rw [advanceSweep_eq]
  refine ⟨kept.op, kept.directory, kept.slots, kept.points, kept.told, run, port, notice, kept.proc, nv, spi, readData,
    freeCount, pending, moved.others, fun listed bound positive low => ?_, fun nothing => ?_, moved.next, moved.done,
    moved.again, moved.waits⟩
  · have paid := standingPaid_stored ((owesStanding_iff ..).mpr ⟨listed, bound, positive⟩)
    refine ⟨paid.commit, paid.attention, fun within => ?_, fun bottom => paid.same ?_⟩
    · have changed : max ((s.slot c).balance - (amount : Nat)) (-9999999999) ≠ (s.slot c).balance := by omega
      exact ⟨paid.stored changed, paid.reportedRoutine changed, paid.reportedUrgent changed⟩
    · change max ((s.slot c).balance - (amount : Nat)) (-9999999999) = (s.slot c).balance
      omega
  · have free : owesStanding (s.slot c) amount = false := by
      rw [← Bool.not_eq_true, owesStanding_iff]
      rintro ⟨listed, bound, positive⟩
      rcases nothing with h | h | h
      · simp [listed] at h
      · omega
      · omega
    rw [standingPaid_owesNothing free]
    exact ⟨rfl, rfl, rfl, rfl⟩

end Sys2Proof.Machine.Proofs

namespace Sys2Proof.Machine.Proofs

open Sys2Proof Sys2Proof.Machine Sys2Proof.Machine.Laws

/-! ### The operation of APPLY by its answer (R35) -/

theorem applyRequest_unknown {s : State} {r : ApplyRequest} (h : s.lookup r.number = none) :
    s.applyRequest r = (s, replyBytes .unknown Account.free) := by
  simp only [State.applyRequest, h, zeroReply]

theorem applyRequest_suspended {s : State} {r : ApplyRequest} {slot : Fin 64} (h : s.lookup r.number = some slot)
    (hs : (s.slot slot).status = .suspended) : s.applyRequest r = (s, replyBytes .blocked (s.slot slot)) := by
  simp only [State.applyRequest, h, hs, if_true]

theorem applyRequest_enquire {s : State} {r : ApplyRequest} {slot : Fin 64} (h : s.lookup r.number = some slot)
    (hs : (s.slot slot).status ≠ .suspended) (hk : r.kind = .enquire) :
    s.applyRequest r = (s, replyBytes .accepted (s.slot slot)) := by
  simp only [State.applyRequest, h, if_neg hs, hk]

theorem applyRequest_overflow {s : State} {r : ApplyRequest} {slot : Fin 64} (h : s.lookup r.number = some slot)
    (hs : (s.slot slot).status ≠ .suspended) (hk : r.kind = .topup)
    (hb : 9999999999 < (s.slot slot).balance + r.amount) :
    s.applyRequest r = (s, replyBytes .overflow (s.slot slot)) := by
  have overflows : creditOverflows (s.slot slot) r.amount = true := decide_eq_true hb
  simp only [State.applyRequest, h, if_neg hs, hk, overflows, if_true]

theorem applyRequest_topup {s : State} {r : ApplyRequest} {slot : Fin 64} (h : s.lookup r.number = some slot)
    (hs : (s.slot slot).status ≠ .suspended) (hk : r.kind = .topup)
    (hb : (s.slot slot).balance + r.amount ≤ 9999999999) :
    s.applyRequest r =
      let t := s.storeBalance slot ((s.slot slot).balance + r.amount) {} true
      (t.recordTopup slot r.amount, replyBytes .accepted (t.slot slot)) := by
  have fits : creditOverflows (s.slot slot) r.amount = false := decide_eq_false (not_lt.mpr hb)
  simp only [State.applyRequest, h, if_neg hs, hk, fits, Bool.false_eq_true, if_false]

theorem applyRequest_proc (s : State) (r : ApplyRequest) : (s.applyRequest r).1.proc = s.proc := by
  unfold State.applyRequest
  split
  · rfl
  split
  · rfl
  split
  · rfl
  split
  · rfl
  · exact storeBalance_proc ..

/-! ### The completion of APPLY (R35, R146, R147) -/

/-- The port when the kiosk's answer has reached it; a PORT RESET has taken the frame of one that is not owned (R45, R153). -/
def answeredPort (port : TopUpPort) (owned : Bool) (reply : List Byte) : TopUpPort :=
  if owned then { port with state := .replyReady, receive := [], reply, sent := 0 } else port

theorem answerKiosk_eq (s : State) (owned : Bool) (reply : List Byte) :
    s.answerKiosk owned reply = { s with port := answeredPort s.port owned reply } := by
  cases owned <;> rfl

theorem exec_applyFrame {s u : State} {r : ApplyRequest} {owned : Bool} {reply : List Byte}
    (h : s.engine.op = .busy (.applyFrame r owned)) (hw : NotWaiting s) (applied : s.freeEngine.applyRequest r = (u, reply)) :
    exec .applyFrame s = .next { u with port := answeredPort u.port owned reply } := by
  have proc : u.proc = s.proc := by
    have kept := applyRequest_proc s.freeEngine r
    rwa [applied] at kept
  have notWaiting : NotWaiting { u with port := answeredPort u.port owned reply } := by
    simpa only [NotWaiting, proc] using hw
  simp only [exec, execApplyFrame, h, applied, answerKiosk_eq]
  exact congrArg _ (retestWait_of_notWaiting notWaiting)

theorem recordTopup_port {s t : State} (h : t.port = s.port) (slot : Fin 64) (amount : Nat) :
    (t.recordTopup slot amount).port =
      { s.port with lastSlot := slot, lastAmount := amount, topupCount := s.port.topupCount + 1 } := by
  rw [← h]
  rfl

theorem recordTopup_notice {s t : State} (h : t.notice = s.notice) (slot : Fin 64) (amount : Nat) :
    (t.recordTopup slot amount).notice = { s.notice with topup := true } := by
  rw [← h]
  rfl

/-- Settles O17: the answer by the lookup, the status, the kind and the sum; an accepted TOPUP stores the balance. -/
theorem applyAnswersKiosk : Obligations.ApplyAnswersKiosk := by
  refine ⟨fun s r owned hop hw => ⟨fun howned => ?_, fun unknown => ?_, fun slot found =>
      ⟨fun suspended => ?_, fun active enquire => ?_, fun active topup exceeds => ?_⟩⟩,
    fun s r owned slot hop hw topup nonzero found active fits => ?_⟩
  · exact ⟨_, exec_applyFrame hop hw rfl, by rw [howned]; rfl⟩
  · exact exec_applyFrame hop hw (applyRequest_unknown unknown)
  · exact exec_applyFrame hop hw (applyRequest_suspended found suspended)
  · exact exec_applyFrame hop hw (applyRequest_enquire found active enquire)
  · exact exec_applyFrame hop hw (applyRequest_overflow found active topup exceeds)
  · have stored := storeBalance_stored s.freeEngine slot ((s.slot slot).balance + r.amount) false true
    have changed : (s.slot slot).balance + r.amount ≠ (s.slot slot).balance := by omega
    obtain ⟨run, timer, port, notice, nv, spi, readData, freeCount, pending⟩ := stored.frame
    refine ⟨_, exec_applyFrame hop hw (applyRequest_topup found active topup fits), stored.op, stored.stored changed,
      stored.slots, stored.points, stored.told, stored.commit, stored.reportedUrgent changed rfl, stored.directory,
      stored.attention, ?_, ?_, run, timer, stored.proc, nv, spi, readData, freeCount, pending⟩
    · exact congrArg (answeredPort · owned _) (recordTopup_port port slot r.amount)
    · exact recordTopup_notice notice slot r.amount

end Sys2Proof.Machine.Proofs

namespace Sys2Proof.Machine.Proofs

open Sys2Proof Sys2Proof.Machine Sys2Proof.Machine.Laws

/-! ### Sending (R148, R150) -/

theorem exec_setPort_retest {s : State} (hw : NotWaiting s) (port : TopUpPort) :
    (s.setPort port).retestWait = { s with port } :=
  retestWait_of_notWaiting (s := s.setPort port) hw

theorem exec_replyByte {s : State} (hw : NotWaiting s) (acknowledged : Bool) :
    exec (.replyByte acknowledged) s = .next { s with port := s.port.byteSent acknowledged } :=
  congrArg _ (exec_setPort_retest hw _)

theorem exec_collision {s : State} (h : s.port.state = .sending) (hw : NotWaiting s) (bit : Fin 8) :
    exec (.collision bit) s =
      .next (if s.sendingByte.getLsbD bit.val = true then { s with port := s.port.toIdle } else s) := by
  simp only [exec, execCollision, h, true_and, exec_setPort_retest hw]

/-- The level that is released for a 1 and low for a 0 (R150). -/
theorem tsdaDrive_sending {s : State} (h : s.port.state = .sending) (place : Fin 8) :
    s.tsdaDrive place = if s.sendingByte.getLsbD (7 - place.val) then .released else .low := by
  rw [State.tsdaDrive, if_pos h, BitVec.getMsbD, decide_eq_true place.isLt, Bool.true_and]
  rfl

/-! ### The check byte (R206) -/

theorem foldl_add_toNat (bytes : List Byte) (v : Byte) :
    (bytes.foldl (fun v b => v + b) v).toNat = (v.toNat + (bytes.map BitVec.toNat).sum) % 256 := by
  induction bytes generalizing v with
  | nil => simpa using (Nat.mod_eq_of_lt v.isLt).symm
  | cons b rest ih =>
    rw [List.foldl_cons, ih, BitVec.toNat_add, List.map_cons, List.sum_cons]
    omega

theorem withCheck_sum (bytes : List Byte) : ((withCheck bytes).map BitVec.toNat).sum % 256 = 0 := by
  have sum : (byteSum bytes).toNat = (0 + (bytes.map BitVec.toNat).sum) % 256 := foldl_add_toNat bytes 0
  rw [withCheck, List.map_append, List.sum_append, List.map_singleton, List.sum_singleton, BitVec.toNat_neg]
  omega

/-! ### The digits of a magnitude (R146, R206) -/

theorem nibble_toBcd {digits j : Nat} (v : Nat) (h : j < digits) : nibble (toBcd digits v) j = v / 10 ^ j % 10 := by
  induction digits generalizing v j with
  | zero => omega
  | succ d ih =>
    rw [toBcd]
    cases j with
    | zero => rw [nibble_zero, pow_zero]; omega
    | succ j =>
      have front : (toBcd d (v / 10) * 16 + v % 10) / 16 = toBcd d (v / 10) := by omega
      rw [nibble_succ, front, ih _ (by omega), Nat.div_div_eq_div_mul, pow_succ']

/-- Byte `k` of a magnitude, counted from the least significant. -/
def magnitudeByte (v k : Nat) : Byte := BitVec.ofNat 8 (toBcd 10 v / 2 ^ (8 * k))

theorem magnitudeBytes_eq (v : Nat) :
    magnitudeBytes v =
      [magnitudeByte v 4, magnitudeByte v 3, magnitudeByte v 2, magnitudeByte v 1, magnitudeByte v 0] := by
  simp [magnitudeBytes, magnitudeByte]

theorem magnitudeByte_digits (v : Nat) {k : Nat} (h : k < 5) :
    (magnitudeByte v k).toNat / 16 = v / 10 ^ (2 * k + 1) % 10 ∧ (magnitudeByte v k).toNat % 16 = v / 10 ^ (2 * k) % 10 := by
  have place : (2 : Nat) ^ (8 * k) = 16 ^ (2 * k) := by
    rw [show (16 : Nat) = 2 ^ 4 from rfl, ← pow_mul]
    congr 1
    omega
  have byte : (magnitudeByte v k).toNat = toBcd 10 v / 16 ^ (2 * k) % 256 := by
    rw [magnitudeByte, BitVec.toNat_ofNat, place]
  have high : nibble (toBcd 10 v) (2 * k + 1) = toBcd 10 v / 16 ^ (2 * k) / 16 % 16 := by
    rw [nibble, pow_succ, Nat.div_div_eq_div_mul]
  have low : nibble (toBcd 10 v) (2 * k) = toBcd 10 v / 16 ^ (2 * k) % 16 := rfl
  rw [← nibble_toBcd (digits := 10) v (by omega), ← nibble_toBcd (digits := 10) v (by omega), high, low, byte]
  omega

theorem magnitudeByte_pair (v : Nat) {k : Nat} (h : k < 5) :
    DigitPair (magnitudeByte v k) ∧ pairValue (magnitudeByte v k) = v / 10 ^ (2 * k) % 100 := by
  obtain ⟨high, low⟩ := magnitudeByte_digits v h
  rw [DigitPair, pairValue, high, low, pow_succ, ← Nat.div_div_eq_div_mul]
  omega

theorem magnitudeBytes_value {v : Nat} (h : v ≤ 9999999999) :
    (((pairValue (magnitudeByte v 4) * 100 + pairValue (magnitudeByte v 3)) * 100 + pairValue (magnitudeByte v 2)) * 100 +
      pairValue (magnitudeByte v 1)) * 100 + pairValue (magnitudeByte v 0) = v := by
  rw [(magnitudeByte_pair v (by omega : 4 < 5)).2, (magnitudeByte_pair v (by omega : 3 < 5)).2,
    (magnitudeByte_pair v (by omega : 2 < 5)).2, (magnitudeByte_pair v (by omega : 1 < 5)).2,
    (magnitudeByte_pair v (by omega : 0 < 5)).2]
  omega

theorem signByte_stored (b : Int) : BitVec.ofNat 8 (signByte b) = if b < 0 then 0x80 else 0x00 := by
  unfold signByte
  split <;> rfl

theorem replyBytes_eq (status : ReplyStatus) (a : Account) :
    ∃ check, replyBytes status a =
      [BitVec.ofNat 8 status.code, BitVec.ofNat 8 (a.status.code + 4 * a.level.code),
        if a.balance < 0 then 0x80 else 0x00, magnitudeByte a.balance.natAbs 4, magnitudeByte a.balance.natAbs 3,
        magnitudeByte a.balance.natAbs 2, magnitudeByte a.balance.natAbs 1, magnitudeByte a.balance.natAbs 0, check] := by
  rw [replyBytes, magnitudeBytes_eq, ← signByte_stored, Nat.mul_comm 4]
  exact ⟨_, rfl⟩

/-- Settles O45: the port in SENDING, and the nine bytes of a reply. -/
theorem repliesAreSentAndChecked : Obligations.RepliesAreSentAndChecked := by
  refine ⟨fun s h hw => ⟨?_, fun more => ?_, fun last => ?_, fun bit one => ?_, fun bit zero => ?_, fun n hn sent => ?_,
      fun ended => ?_, tsdaDrive_sending h⟩, fun s h place => if_neg h,
    fun status a => ⟨?_, withCheck_sum _, fun low high => ?_⟩,
    rfl, rfl, rfl, by decide, by decide⟩
  · rw [exec_replyByte hw, TopUpPort.byteSent, if_pos h]
    rfl
  · rw [exec_replyByte hw, TopUpPort.byteSent, if_pos h, if_pos rfl, if_pos more]
  · rw [exec_replyByte hw, TopUpPort.byteSent, if_pos h, if_pos rfl, if_neg (by omega)]
  · rw [exec_collision h hw, if_pos one]
    rfl
  · rw [exec_collision h hw, zero]
    rfl
  · rw [State.sendingByte, sent, List.getD_eq_getElem _ _ hn]
  · rw [State.sendingByte, List.getD_eq_default _ _ ended]
  · obtain ⟨check, h⟩ := replyBytes_eq status a
    rw [h]
    rfl
  · obtain ⟨check, h⟩ := replyBytes_eq status a
    refine ⟨_, _, _, _, _, check, h, ?_, magnitudeBytes_value (by omega)⟩
    simp [(magnitudeByte_pair a.balance.natAbs _).1]

end Sys2Proof.Machine.Proofs

namespace Sys2Proof.Machine.Proofs

open Sys2Proof Sys2Proof.Machine Sys2Proof.Machine.Laws

/-! ### Bit fields of a word (R201) -/

theorem bits_ofNat {low width : Nat} (v : Nat) (h : low + width ≤ 32) :
    bits (BitVec.ofNat 32 v) low width = v / 2 ^ low % 2 ^ width := by
  have word : (2 : Nat) ^ 32 = 2 ^ low * 2 ^ (32 - low) := by rw [← pow_add]; congr 1; omega
  rw [bits, BitVec.toNat_ofNat, word, Nat.mod_mul_right_div_self,
    Nat.mod_mod_of_dvd _ (pow_dvd_pow 2 (by omega : width ≤ 32 - low))]

theorem getLsbD_ofNat {i : Nat} (v : Nat) (h : i < 32) :
    (BitVec.ofNat 32 v).getLsbD i = decide (v / 2 ^ i % 2 = 1) := by
  rw [BitVec.getLsbD_ofNat, decide_eq_true h, Bool.true_and, Nat.testBit_eq_decide_div_mod_eq]

theorem ofFlags_lt (flags : List Bool) : ofFlags flags < 2 ^ flags.length := by
  induction flags with
  | nil => decide
  | cons b rest ih =>
    rw [ofFlags, List.length_cons, pow_succ]
    split <;> omega

theorem testBit_ofFlags (flags : List Bool) (i : Nat) : (ofFlags flags).testBit i = flags.getD i false := by
  induction flags generalizing i with
  | nil => simp [ofFlags]
  | cons b rest ih =>
    cases i with
    | zero => cases b <;> simp [ofFlags, Nat.testBit_zero]
    | succ i =>
      have front : ((if b = true then 1 else 0) + 2 * ofFlags rest) / 2 = ofFlags rest := by split <;> omega
      rw [ofFlags, Nat.testBit_succ, front, ih, List.getD_cons_succ]

/-! ### The forms of fields (R201, R202, R204) -/

theorem bits_eq_nibble (w : Word) (j : Nat) : bits w (4 * j) 4 = nibble w.toNat j := by
  rw [bits, nibble, show (16 : Nat) = 2 ^ 4 from rfl, ← pow_mul]

theorem digits8_eq_some_iff (w : Word) (v : Nat) :
    digits8 w = some v ↔
      (∀ j, j < 8 → bits w (4 * j) 4 ≤ 9) ∧ v = ((List.range 8).map fun j => bits w (4 * j) 4 * 10 ^ j).sum := by
  simp only [bits_eq_nibble]
  exact bcdValue_eq_some_iff_sum 8 w.toNat v

theorem statusCode_lt (st : Status) : st.code < 4 := by cases st <;> decide

theorem levelCode_lt (l : Level) : l.code < 4 := by cases l <;> decide

theorem packedField_bits {a : Account} (h : a.boundCount ≤ 16) :
    bits (packedField a) 0 2 = a.status.code ∧ bits (packedField a) 2 2 = a.level.code ∧
      bits (packedField a) 4 3 = a.tariff.val ∧ bits (packedField a) 7 1 = 0 ∧ bits (packedField a) 8 5 = a.boundCount ∧
      bits (packedField a) 13 19 = 0 := by
  have status := statusCode_lt a.status
  have level := levelCode_lt a.level
  have tariff := a.tariff.isLt
  simp only [packedField, bits_ofNat, Nat.reduceAdd, Nat.reduceLeDiff, Nat.reducePow]
  omega

theorem toBcd_two (v : Nat) : toBcd 2 v = v / 10 % 10 * 16 + v % 10 := by
  simp only [toBcd]
  omega

theorem moneyHigh_bits {b : Int} (low : -9999999999 ≤ b) (high : b ≤ 9999999999) :
    bits (moneyHigh b) 8 8 = (if b < 0 then 0x80 else 0x00) ∧ bits (moneyHigh b) 16 16 = 0 ∧
      bits (moneyHigh b) 4 4 ≤ 9 ∧ bits (moneyHigh b) 0 4 ≤ 9 ∧
      bits (moneyHigh b) 4 4 * 10 + bits (moneyHigh b) 0 4 = b.natAbs / 10 ^ 8 := by
  simp only [moneyHigh, toBcd_two, bits_ofNat, Nat.reduceAdd, Nat.reduceLeDiff, Nat.reducePow]
  have sign : signByte b = if b < 0 then 0x80 else 0x00 := rfl
  rw [← sign]
  have byte : signByte b ≤ 0x80 := by unfold signByte; split <;> decide
  omega

theorem moneyLow_digits (b : Int) : digits8 (moneyLow b) = some (b.natAbs % 10 ^ 8) :=
  digits8_bcdWord (by omega)

theorem reasonsCode_bits (r : Reasons) :
    r.code < 64 ∧ r.code.testBit 0 = r.low ∧ r.code.testBit 1 = r.emergency ∧ r.code.testBit 2 = r.exhausted ∧
      r.code.testBit 3 = r.restored ∧ r.code.testBit 4 = r.limit ∧ r.code.testBit 5 = r.quarantine := by
  simp only [Reasons.code, testBit_ofFlags]
  exact ⟨ofFlags_lt _, rfl, rfl, rfl, rfl, rfl, rfl⟩

end Sys2Proof.Machine.Proofs

namespace Sys2Proof.Machine.Proofs

open Sys2Proof Sys2Proof.Machine Sys2Proof.Machine.Laws

/-! ### Offsets (R201) -/

theorem stageAt_stage (n : Fin 7) : stageAt (5 + n.val) = some n := by
  rw [stageAt, dif_pos (by omega)]
  simp

theorem stageAt_eq_none {n : Nat} (h : n < 5 ∨ 0x0C ≤ n) : stageAt n = none := dif_neg (by omega)

theorem pointAt_eq_none {n : Nat} (h : n < 0x30 ∨ 0x40 ≤ n) : pointAt n = none := dif_neg (by omega)

theorem unassignedOffset_iff (offset : BitVec 7) :
    unassignedOffset offset = true ↔ (0x22 ≤ offset.toNat ∧ offset.toNat < 0x30) ∨ 0x40 ≤ offset.toNat := by
  simp [unassignedOffset, Nat.lt_succ_iff]

theorem assignedOffset_eq (offset : BitVec 7) : assignedOffset offset.toNat = !unassignedOffset offset := by
  rw [Bool.eq_iff_iff, Bool.not_eq_true', ← Bool.not_eq_true, unassignedOffset_iff]
  by_cases point : 0x30 ≤ offset.toNat ∧ offset.toNat < 0x40
  · simp [assignedOffset, pointAt, point]
  · simp [assignedOffset, pointAt, point]
    omega

/-! ### Reads and writes (R166, R200) -/

theorem registerValue_beyond {s : State} {n : Nat} (low : 0x22 ≤ n) (h : n < 0x30 ∨ 0x40 ≤ n) :
    s.registerValue n = 0 := by
  unfold State.registerValue
  rw [stageAt_eq_none (by omega), pointAt_eq_none h]
  dsimp only
  rw [if_neg (by omega)]
  split
  case h_17 => rfl
  all_goals omega

theorem readRegister_unassigned {s : State} {offset : BitVec 7} (h : unassignedOffset offset = true) :
    s.readRegister offset = { s.refuseAccess with readData := 0 } := by
  have place := (unassignedOffset_iff offset).mp h
  have notTake : offset ≠ 0x19 := by
    rintro rfl
    cases h
  rw [State.readRegister, registerValue_beyond (by omega) (by omega), State.readEffect, if_neg notTake,
    assignedOffset_eq, h]
  rfl

theorem readRegister_assigned {s : State} {offset : BitVec 7} (h : unassignedOffset offset = false)
    (notTake : offset ≠ 0x19) : s.readRegister offset = { s with readData := s.registerValue offset.toNat } := by
  rw [State.readRegister, State.readEffect, if_neg notTake, assignedOffset_eq, h]
  rfl

/-- The offsets, beside those of staging and points, whose write is taken (R201). -/
def takenWrites : List Nat := [0x02, 0x03, 0x0C, 0x15, 0x16, 0x17, 0x18, 0x1A]

theorem writeRegister_refused {s : State} {n : Nat} (value : Word) (stage : stageAt n = none) (point : pointAt n = none)
    (h : n ∉ takenWrites) : s.writeRegister n value = s.refuseAccess := by
  unfold State.writeRegister
  rw [stage, point]
  dsimp only
  split
  case h_9 => rfl
  all_goals exact absurd (by decide) h

theorem writeRegister_unassigned {s : State} {offset : BitVec 7} (value : Word) (h : unassignedOffset offset = true) :
    s.writeRegister offset.toNat value = s.refuseAccess := by
  have place := (unassignedOffset_iff offset).mp h
  refine writeRegister_refused value (stageAt_eq_none (by omega)) (pointAt_eq_none (by omega)) fun taken => ?_
  simp only [takenWrites, List.mem_cons, List.not_mem_nil, or_false] at taken
  omega

theorem readOnly_refused : ∀ n ∈ [0x00, 0x01, 0x04, 0x0D, 0x0E, 0x0F, 0x10, 0x11, 0x12, 0x13, 0x14, 0x19, 0x1B, 0x1C, 0x1D,
    0x1E, 0x1F, 0x20, 0x21], stageAt n = none ∧ pointAt n = none ∧ n ∉ takenWrites := by
  decide

theorem writeRegister_stage (s : State) (n : Fin 7) (value : Word) :
    s.writeRegister (5 + n.val) value = { s with proc := { s.proc with staging := s.proc.staging.set n value } } := by
  unfold State.writeRegister
  rw [stageAt_stage]

theorem served_of_run {s : State} (h : s.run.runState ≠ .reset) : s.served = true := by
  simp [State.served, h]

theorem exec_registerWrite {s : State} (h : s.run.runState ≠ .reset) (offset : BitVec 7) (value : Word) :
    exec (.registerWrite offset value) s = .next (s.writeRegister offset.toNat value) := by
  simp [exec, execRegisterWrite, served_of_run h]

theorem exec_unassignedRead {s : State} (h : s.run.runState ≠ .reset) (offset : BitVec 7) :
    exec (.unassignedRead offset) s = .next (s.readRegister offset) := by
  simp [exec, execUnassignedRead, served_of_run h]

/-! ### Values of registers (R201, R204) -/

theorem registerValue_stage (s : State) (n : Fin 7) : s.registerValue (5 + n.val) = s.proc.staging[n] := by
  unfold State.registerValue
  rw [stageAt_stage]

theorem registerValue_result (s : State) {n : Nat} (h : n < 7) : s.registerValue (0x0E + n) = s.resultRegister n := by
  unfold State.registerValue
  rw [stageAt_eq_none (by omega), pointAt_eq_none (by omega)]
  dsimp only
  rw [if_pos (by omega), Nat.add_sub_cancel_left]

theorem resultStatusCode_lt (st : ResultStatus) : st.code < 16 := by cases st <;> decide

theorem resultPlaced {s : State} {r : Result} {rest : List Result} (h : s.proc.results = r :: rest) : ResultPlaced s r := by
  have value {n : Nat} (hn : n < 7) : s.registerValue (0x0E + n) = r.word n := by
    rw [registerValue_result s hn, State.resultRegister, h]
  have status := resultStatusCode_lt r.status
  have tag := r.tag.isLt
  have code := r.code.isLt
  have slot := r.slot.isLt
  have head : s.registerValue 0x0E = r.word 0 := value (n := 0) (by omega)
  refine ⟨?_, ?_, ?_, ?_, value (n := 1) (by omega), value (n := 2) (by omega), value (n := 3) (by omega),
    value (n := 4) (by omega), value (n := 5) (by omega), value (n := 6) (by omega)⟩
  all_goals
    rw [head, Result.word, bits_ofNat _ (by decide)]
    omega

theorem runStateCode_lt (r : RunState) : r.code < 5 := by cases r <;> decide

/-- RUN_STATE: the run state and the load page, and nothing else (R189, R201). -/
theorem runRegister_bits (s : State) :
    bits (s.registerValue 0x01) 0 3 = s.run.runState.code ∧ bits (s.registerValue 0x01) 8 4 = s.run.loadPage.val ∧
      bits (s.registerValue 0x01) 3 5 = 0 ∧ bits (s.registerValue 0x01) 12 20 = 0 := by
  have value : s.registerValue 0x01 = BitVec.ofNat 32 (s.run.runState.code + s.run.loadPage.val * 2 ^ 8) := rfl
  have run := runStateCode_lt s.run.runState
  simp only [value, bits_ofNat, Nat.reduceAdd, Nat.reduceLeDiff, Nat.reducePow]
  omega

/-- A word of flags: each in its place, and 0 above them. -/
theorem flagWord_getLsbD (flags : List Bool) {i : Nat} (h : i < 32) :
    (BitVec.ofNat 32 (ofFlags flags)).getLsbD i = flags.getD i false := by
  rw [BitVec.getLsbD_ofNat, decide_eq_true h, Bool.true_and, testBit_ofFlags]

theorem bits_flagWord (flags : List Bool) {low width : Nat} (hf : flags.length ≤ low) (hw : low + width ≤ 32) :
    bits (BitVec.ofNat 32 (ofFlags flags)) low width = 0 := by
  have small : ofFlags flags < 2 ^ low := (ofFlags_lt flags).trans_le (Nat.pow_le_pow_right (by decide) hf)
  rw [bits_ofNat _ hw, Nat.div_eq_of_lt small, Nat.zero_mod]

theorem errorsRegister (s : State) :
    (∀ i : Fin 6, (s.registerValue 0x03).getLsbD i.val =
      [s.notice.errors.queueOverflow, s.notice.errors.resultUnderflow, s.notice.errors.sweepLate,
        s.notice.errors.nvFault, s.notice.errors.loadDamage, s.notice.errors.badRegister][i.val]) ∧
    bits (s.registerValue 0x03) 6 26 = 0 := by
  have value : s.registerValue 0x03 = s.notice.errors.word := rfl
  rw [value, StickyErrors.word]
  constructor
  · intro i
    rw [flagWord_getLsbD _ (by omega), List.getD_eq_getElem]
  · exact bits_flagWord _ le_rfl (by decide)

theorem processorCode_lt (p : ProcessorState) : p.code < 4 := by cases p <;> decide

/-- The tag of the executing command, 0 without one (R97). -/
def executingTag (s : State) : Nat := (s.proc.executing.map fun e => e.cmd.tag.toNat).getD 0

theorem queueRegister_eq (s : State) :
    s.queueRegister =
      BitVec.ofNat 32 (32 - s.proc.queue.length + s.processorState.code * 2 ^ 8 + executingTag s * 2 ^ 16) := by
  unfold State.queueRegister executingTag
  cases s.proc.executing <;> rfl

/-- QUEUE: the free places, the processor's state and the tag of the executing command, and nothing else (R97, R98). -/
theorem queueRegister_bits (s : State) :
    bits s.queueRegister 0 6 = 32 - s.proc.queue.length ∧ bits s.queueRegister 8 2 = s.processorState.code ∧
      bits s.queueRegister 16 8 = executingTag s ∧ bits s.queueRegister 6 2 = 0 ∧ bits s.queueRegister 10 6 = 0 ∧
      bits s.queueRegister 24 8 = 0 := by
  have state := processorCode_lt s.processorState
  have tag : executingTag s < 256 := by
    unfold executingTag
    cases s.proc.executing with
    | none => decide
    | some e => exact e.cmd.tag.isLt
  simp only [queueRegister_eq, bits_ofNat, Nat.reduceAdd, Nat.reduceLeDiff, Nat.reducePow]
  omega

theorem processorPlaced (s : State) : ProcessorPlaced s := by
  have value : s.registerValue 0x04 = s.queueRegister := rfl
  obtain ⟨free, state, tag, -⟩ := queueRegister_bits s
  unfold ProcessorPlaced
  rw [value, free, state, tag]
  refine ⟨rfl, ?_, ?_, fun r rest h => resultPlaced h⟩
  · cases h : s.proc.executing with
    | none =>
      simp only [State.processorState, h, List.isEmpty_iff]
      split <;> rfl
    | some e =>
      simp only [State.processorState, h]
      split <;> rfl
  · rw [executingTag]
    cases s.proc.executing <;> rfl

/-- The ready flags by rank, before they are a word (R154). -/
def readyList (s : State) : List Bool :=
  [s.notice.power, s.notice.errors.any] ++ (List.finRange 16).map (fun p => (s.point p).flags.any) ++
    [!s.engine.attention.isEmpty, s.notice.topup, s.notice.commit, s.notice.mark, !s.proc.results.isEmpty]

theorem readyRegister_getLsbD (s : State) {i : Nat} (h : i < 23) :
    (s.registerValue 0x16).getLsbD i = (readyList s).getD i false := by
  have value : s.registerValue 0x16 = (BitVec.ofNat 23 (ofFlags (readyList s))).setWidth 32 := rfl
  rw [value, BitVec.getLsbD_setWidth, BitVec.getLsbD_ofNat, testBit_ofFlags, decide_eq_true (by omega : i < 32),
    decide_eq_true h, Bool.true_and, Bool.true_and]

theorem readyList_point (s : State) (p : Fin 16) : (readyList s).getD (2 + p.val) false = (s.point p).flags.any := by
  simp [readyList, List.getD_eq_getElem?_getD, List.getElem?_append, Nat.add_comm 2]

theorem readyPlaced (s : State) : ReadyPlaced s := by
  refine ⟨readyRegister_getLsbD s (by decide), readyRegister_getLsbD s (by decide), fun p => ?_,
    readyRegister_getLsbD s (by decide), readyRegister_getLsbD s (by decide), readyRegister_getLsbD s (by decide),
    readyRegister_getLsbD s (by decide), readyRegister_getLsbD s (by decide), ?_⟩
  · rw [readyRegister_getLsbD s (by omega), readyList_point]
  · have value : s.registerValue 0x16 = s.readyFlags.setWidth 32 := rfl
    have small := s.readyFlags.isLt
    rw [value, bits, BitVec.toNat_setWidth]
    omega

/-- The top of the active stack, FFh without one (R158). -/
def stackTop (s : State) : Nat := (s.notice.stack.head?.map Fin.val).getD 0xFF

theorem modeRegister_eq (s : State) :
    s.modeRegister = BitVec.ofNat 32 (s.notice.mode.code + stackTop s * 2 ^ 8 + s.notice.stack.length * 2 ^ 16) := by
  unfold State.modeRegister stackTop
  cases s.notice.stack <;> rfl

theorem stackTop_lt (s : State) : stackTop s < 256 := by
  unfold stackTop
  cases s.notice.stack with
  | nil => decide
  | cons top rest => exact top.isLt.trans (by decide)

/-- NOTICE_MODE: the mode, the top of the stack and its depth, and nothing else (R158). -/
theorem modeRegister_bits {s : State} (h : s.notice.stack.length ≤ 23) :
    s.modeRegister.getLsbD 0 = (s.notice.mode == .vectored) ∧ bits s.modeRegister 1 7 = 0 ∧
      bits s.modeRegister 8 8 = stackTop s ∧ bits s.modeRegister 16 5 = s.notice.stack.length ∧
      bits s.modeRegister 21 11 = 0 := by
  have top := stackTop_lt s
  have mode : s.notice.mode.code < 2 := by cases s.notice.mode <;> decide
  have vectored : (s.notice.mode == .vectored) = decide (s.notice.mode.code = 1) := by cases s.notice.mode <;> rfl
  rw [modeRegister_eq, vectored, getLsbD_ofNat _ (by decide), decide_eq_decide]
  simp only [bits_ofNat, Nat.reduceAdd, Nat.reduceLeDiff, Nat.reducePow]
  omega

theorem decide_eq_one_of_toNat {n : Nat} {b : Bool} (h : n = b.toNat) : decide (n = 1) = b := by
  rw [h]
  cases b <;> rfl

/-- PERIOD: the remaining seconds, the sweep and the owed one, and nothing else (R86, R88). -/
theorem periodRegister_bits {s : State} (h : s.timer.remaining ≤ 86400) :
    bits s.periodRegister 0 17 = s.timer.remaining ∧ s.periodRegister.getLsbD 24 = (s.timer.sweep != .idle) ∧
      s.periodRegister.getLsbD 25 = s.timer.owed ∧ bits s.periodRegister 17 7 = 0 ∧ bits s.periodRegister 26 6 = 0 := by
  have running := Bool.toNat_le (s.timer.sweep != .idle)
  have owed := Bool.toNat_le s.timer.owed
  rw [State.periodRegister, getLsbD_ofNat _ (by decide), getLsbD_ofNat _ (by decide)]
  simp only [bits_ofNat, Nat.reduceAdd, Nat.reduceLeDiff, Nat.reducePow]
  exact ⟨by omega, decide_eq_one_of_toNat (by omega), decide_eq_one_of_toNat (by omega), by omega, by omega⟩

/-- The fault page, Fh without one (R172). -/
def faultCode (s : State) : Nat := (s.commit.faultPage.map Fin.val).getD 0xF

/-- The dirty flags of the pages (R172). -/
def dirtyList (s : State) : List Bool := (List.finRange 9).map fun page => s.commit.dirty[page].isSome

theorem commitRegister_eq (s : State) :
    s.commitRegister =
      BitVec.ofNat 32 (ofFlags (dirtyList s) + s.commit.phase.code * 2 ^ 12 + faultCode s * 2 ^ 16) := by
  unfold State.commitRegister faultCode
  cases s.commit.faultPage <;> rfl

theorem commitPhaseCode_lt (phase : CommitPhase) : phase.code < 5 := by cases phase <;> simp [CommitPhase.code]

theorem dirtyList_lt (s : State) : ofFlags (dirtyList s) < 2 ^ 9 := by
  have length : (dirtyList s).length = 9 := by simp [dirtyList]
  exact length ▸ ofFlags_lt (dirtyList s)

theorem faultCode_lt (s : State) : faultCode s < 16 := by
  unfold faultCode
  cases s.commit.faultPage with
  | none => decide
  | some page => exact page.isLt.trans (by decide)

/-- COMMIT_STATE: the phase and the fault page, and 0 between and above the fields (R172, R177). -/
theorem commitRegister_bits (s : State) :
    bits s.commitRegister 12 3 = s.commit.phase.code ∧ bits s.commitRegister 16 4 = faultCode s ∧
      bits s.commitRegister 9 3 = 0 ∧ bits s.commitRegister 15 1 = 0 ∧ bits s.commitRegister 20 12 = 0 := by
  have phase := commitPhaseCode_lt s.commit.phase
  have dirty := dirtyList_lt s
  have fault := faultCode_lt s
  simp only [commitRegister_eq, bits_ofNat, Nat.reduceAdd, Nat.reduceLeDiff, Nat.reducePow]
  omega

/-- COMMIT_STATE: the dirty flag of each page (R172). -/
theorem commitRegister_dirty (s : State) (page : Fin 9) :
    s.commitRegister.getLsbD page.val = (s.commit.dirty[page]).isSome := by
  have above : ofFlags (dirtyList s) + s.commit.phase.code * 2 ^ 12 + faultCode s * 2 ^ 16 =
      2 ^ 9 * (s.commit.phase.code * 2 ^ 3 + faultCode s * 2 ^ 7) + ofFlags (dirtyList s) := by omega
  rw [commitRegister_eq, BitVec.getLsbD_ofNat, above, Nat.testBit_two_pow_mul_add _ (dirtyList_lt s),
    if_pos page.isLt, testBit_ofFlags, decide_eq_true (by omega), Bool.true_and]
  simp [dirtyList]

/-- The last top-up's slot and the count of top-ups, and nothing between (R147). -/
theorem topupRegister_bits (s : State) :
    bits (s.registerValue 0x1E) 0 6 = s.port.lastSlot.val ∧ bits (s.registerValue 0x1E) 16 16 = s.port.topupCount.toNat ∧
      bits (s.registerValue 0x1E) 6 10 = 0 := by
  have value : s.registerValue 0x1E = BitVec.ofNat 32 (s.port.lastSlot.val + s.port.topupCount.toNat * 2 ^ 16) := rfl
  have count := s.port.topupCount.isLt
  simp only [value, bits_ofNat, Nat.reduceAdd, Nat.reduceLeDiff, Nat.reducePow]
  omega

/-- An amount is a balance without a sign (R202). -/
theorem moneyHigh_natCast (n : Nat) : moneyHigh n = BitVec.ofNat 32 (toBcd 2 (n / 10 ^ 8)) := by
  have sign : signByte n = 0 := if_neg (by omega)
  rw [moneyHigh, Int.natAbs_natCast, sign, Nat.zero_mul, Nat.add_zero]

/-- The last top-up's amount: two digits in the first register and eight in the second (R147, R202). -/
theorem lastAmount_digits {s : State} (h : s.port.lastAmount ≤ 9999999999) :
    bcdValue 2 (s.registerValue 0x1F).toNat = some (s.port.lastAmount / 10 ^ 8) ∧
      bcdValue 8 (s.registerValue 0x20).toNat = some (s.port.lastAmount % 10 ^ 8) := by
  have high : s.registerValue 0x1F = moneyHigh s.port.lastAmount := rfl
  have low : s.registerValue 0x20 = moneyLow s.port.lastAmount := rfl
  rw [high, low, moneyHigh_natCast]
  exact ⟨bcdValue_ofNat_toBcd (by decide) (by omega), moneyLow_digits s.port.lastAmount⟩

theorem lastAmount_above (s : State) : bits (s.registerValue 0x1F) 8 24 = 0 := by
  have high : s.registerValue 0x1F = moneyHigh s.port.lastAmount := rfl
  have small := toBcd_lt 2 (s.port.lastAmount / 10 ^ 8)
  rw [high, moneyHigh_natCast, bits_ofNat _ (by decide)]
  omega

theorem bandDefer_bits (s : State) :
    (s.registerValue 0x21).getLsbD 0 = (s.timer.band == .b) ∧ (s.registerValue 0x21).getLsbD 1 = s.points.deferral ∧
      bits (s.registerValue 0x21) 2 30 = 0 := by
  have value : s.registerValue 0x21 = BitVec.ofNat 32 ((s.timer.band == .b).toNat + s.points.deferral.toNat * 2) := rfl
  rw [value]
  generalize (s.timer.band == .b) = band
  cases band <;> cases s.points.deferral <;> decide

theorem registerFieldsPlaced (s : State) : RegisterFieldsPlaced s := by
  have mode : s.registerValue 0x18 = s.modeRegister := rfl
  have period : s.registerValue 0x1C = s.periodRegister := rfl
  have commit : s.registerValue 0x1D = s.commitRegister := rfl
  obtain ⟨errors, errorsAbove⟩ := errorsRegister s
  obtain ⟨phase, fault, -⟩ := commitRegister_bits s
  obtain ⟨lastSlot, topups, -⟩ := topupRegister_bits s
  unfold RegisterFieldsPlaced
  rw [mode, period, commit]
  refine ⟨errors, errorsAbove, processorPlaced s, readyPlaced s, rfl, fun h => ?_, fun h => ?_, commitRegister_dirty s,
    phase, ?_, lastSlot, topups, lastAmount_digits, bandDefer_bits s⟩
  · obtain ⟨vectored, gap, top, depth, -⟩ := modeRegister_bits h
    refine ⟨vectored, gap, top.trans ?_, depth⟩
    unfold stackTop
    cases s.notice.stack <;> rfl
  · obtain ⟨remaining, running, owed, -⟩ := periodRegister_bits h
    exact ⟨remaining, running, owed⟩
  · rw [fault, faultCode]
    cases s.commit.faultPage <;> rfl

theorem unnamedBitsRead0 (s : State) : UnnamedBitsRead0 s := by
  have mode : s.registerValue 0x18 = s.modeRegister := rfl
  have period : s.registerValue 0x1C = s.periodRegister := rfl
  have commit : s.registerValue 0x1D = s.commitRegister := rfl
  have queue : s.registerValue 0x04 = s.queueRegister := rfl
  have results : s.registerValue 0x0D = BitVec.ofNat 32 s.proc.results.length := rfl
  obtain ⟨-, -, run, runAbove⟩ := runRegister_bits s
  obtain ⟨-, -, -, queueFree, queueState, queueAbove⟩ := queueRegister_bits s
  obtain ⟨-, -, commitDirty, commitPhase, commitAbove⟩ := commitRegister_bits s
  obtain ⟨-, -, topup⟩ := topupRegister_bits s
  unfold UnnamedBitsRead0
  rw [mode, period, commit, queue, results]
  refine ⟨run, runAbove, queueFree, queueState, queueAbove, fun h => ?_, fun h => ?_, commitDirty, commitPhase, commitAbove,
    topup, fun _ => lastAmount_above s, fun h => ?_⟩
  · obtain ⟨-, -, -, -, above⟩ := modeRegister_bits h
    exact above
  · obtain ⟨-, -, -, gap, above⟩ := periodRegister_bits h
    exact ⟨gap, above⟩
  · rw [bits_ofNat _ (by decide)]
    omega

/-- Settles O50: the forms of the fields, the codes, and each offset's read and write. -/
theorem registerWindowServesAccesses : Obligations.RegisterWindowServesAccesses := by
  refine ⟨digits8_eq_some_iff, fun n => digits8_bcdWord, fun a => packedField_bits, fun b low high => ?_, reasonsCode_bits,
    rfl, rfl, rfl, fun _ => rfl, rfl, rfl, rfl, rfl, fun s offset value running => ?_⟩
  · obtain ⟨sign, above, digit1, digit0, digits⟩ := moneyHigh_bits low high
    exact ⟨sign, above, digit1, digit0, moneyLow_digits b, digits⟩
  · rw [exec_registerWrite running, exec_unassignedRead running]
    obtain ⟨runState, loadPage, -⟩ := runRegister_bits s
    refine ⟨fun unassigned => ?_, fun assigned notTake => ?_, fun readOnly => ?_, fun n stage => ?_, registerValue_stage s,
      rfl, rfl, rfl, ?_, fun empty n hn => ?_, runState, loadPage, registerFieldsPlaced s, unnamedBitsRead0 s⟩
    · rw [readRegister_unassigned unassigned, writeRegister_unassigned value unassigned]
      exact ⟨rfl, rfl⟩
    · rw [readRegister_assigned assigned notTake]
    · obtain ⟨stage, point, untaken⟩ := readOnly_refused _ readOnly
      rw [writeRegister_refused value stage point untaken]
      rfl
    · rw [stage, writeRegister_stage]
    · simp only [List.forall_mem_cons, List.not_mem_nil, false_imp_iff, implies_true, and_true]
      exact ⟨rfl, rfl, rfl, rfl⟩
    · rw [registerValue_result s hn, State.resultRegister, empty]

end Sys2Proof.Machine.Proofs

namespace Sys2Proof.Machine.Proofs

open Sys2Proof Sys2Proof.Machine Sys2Proof.Machine.Laws

/-! ### A legal point, operation by operation (R49, R56, R57) -/

/-- In DETACHED, HELD and LOCKED the table asks nothing of hold causes and level. -/
theorem legal_of_unsupplied {p : Point} (state : p.state = .detached ∨ p.state = .held ∨ p.state = .locked)
    (units : p.pending ≤ 255) : p.legal := by
  refine ⟨fun h => ?_, fun h => ?_, units⟩ <;> rcases state with state | state | state <;> simp [state] at h

/-- LIVE and AWAITING see an ACTIVE slot at a level better than EXHAUSTED. -/
theorem legal_of_better {p : Point} {level : Level} (state : p.state = .live ∨ p.state = .awaiting)
    (hold : p.hostHold = false) (view : p.view = some (.active, level)) (better : level ≠ .exhausted)
    (units : p.pending ≤ 255) : p.legal := by
  refine ⟨fun _ => ⟨hold, level, view, better⟩, fun h => ?_, units⟩
  rcases state with state | state <;> simp [state] at h

/-- GRACE and CUT see an ACTIVE slot at EXHAUSTED. -/
theorem legal_of_exhausted {p : Point} (state : p.state = .grace ∨ p.state = .cut) (hold : p.hostHold = false)
    (view : p.view = some (.active, .exhausted)) (units : p.pending ≤ 255) : p.legal := by
  refine ⟨fun h => ?_, fun _ => ⟨hold, view⟩, units⟩
  rcases state with state | state <;> simp [state] at h

theorem legal_units {p : Point} (h : p.legal) : p.pending ≤ 255 := h.2.2

/-- What `Point.legal` reads of a point: state, host-hold, view, and no more pending units than before. -/
theorem legal_congr {p q : Point} (h : p.legal) (state : q.state = p.state) (hold : q.hostHold = p.hostHold)
    (view : q.view = p.view) (units : q.pending ≤ p.pending) : q.legal := by
  obtain ⟨better, exhausted, most⟩ := h
  refine ⟨?_, ?_, units.trans most⟩ <;> rw [state, hold, view] <;> assumption

/-- A legal point that can be told of its slot's level, or be held, has no host-hold. -/
theorem hostHold_of_legal {p : Point} (h : p.legal)
    (state : p.state = .live ∨ p.state = .grace ∨ p.state = .cut ∨ p.state = .awaiting) : p.hostHold = false := by
  obtain ⟨better, exhausted, -⟩ := h
  rcases state with state | state | state | state
  · exact (better (.inl state)).1
  · exact (exhausted (.inl state)).1
  · exact (exhausted (.inr state)).1
  · exact (better (.inr state)).1

/-- No hold cause: no host-hold, and a view of an ACTIVE slot (R57). -/
theorem holdCause_eq_false_iff (p : Point) :
    p.holdCause = false ↔ p.hostHold = false ∧ ∃ level, p.view = some (.active, level) := by
  unfold Point.holdCause
  rw [Bool.or_eq_false_iff]
  cases p.view with
  | none => simp
  | some v =>
    obtain ⟨status, level⟩ := v
    simp

/-- Evaluate-on-release leaves a legal point, whatever the state before it (R58). -/
theorem evaluate_legal {p : Point} (units : p.pending ≤ 255) : p.evaluate.legal := by
  unfold Point.evaluate
  split
  · exact legal_of_unsupplied (.inr (.inl rfl)) units
  · rename_i h
    obtain ⟨hold, level, view⟩ := (holdCause_eq_false_iff p).mp (by simpa using h)
    cases level with
    | exhausted => simp only [view]; exact legal_of_exhausted (.inr rfl) hold view units
    | normal => simp only [view]; exact legal_of_better (.inl rfl) hold view (by simp) units
    | low => simp only [view]; exact legal_of_better (.inl rfl) hold view (by simp) units
    | emergency => simp only [view]; exact legal_of_better (.inl rfl) hold view (by simp) units

theorem enterGrace_legal {p : Point} (deferral : Bool) (hold : p.hostHold = false)
    (view : p.view = some (.active, .exhausted)) (units : p.pending ≤ 255) : (p.enterGrace deferral).legal := by
  unfold Point.enterGrace
  split
  · exact legal_of_exhausted (.inl rfl) hold view units
  · exact legal_of_exhausted (.inr rfl) hold view units

theorem restored_legal {p : Point} {level : Level} (hold : p.hostHold = false) (view : p.view = some (.active, level))
    (better : level ≠ .exhausted) (units : p.pending ≤ 255) : p.restored.legal := by
  unfold Point.restored
  split
  · exact legal_of_better (.inl rfl) hold view better units
  · exact legal_of_better (.inr rfl) hold view better units

/-- A point that sees its slot ACTIVE follows the level to a legal state, whatever the level was before (R59, R61). -/
theorem follow_legal {p : Point} (deferral : Bool) {level : Level} (hold : p.hostHold = false)
    (view : p.view = some (.active, level)) (units : p.pending ≤ 255) : (p.follow deferral level).legal := by
  unfold Point.follow
  split
  case h_1 state =>
    split
    · rename_i worst; exact enterGrace_legal deferral hold (worst ▸ view) units
    · rename_i better; exact legal_of_better (.inl state) hold view better units
  case h_2 state =>
    split
    · rename_i worst; exact legal_of_exhausted (.inl state) hold (worst ▸ view) units
    · rename_i better; exact legal_of_better (.inl rfl) hold view better units
  case h_3 state =>
    split
    · rename_i worst; exact legal_of_exhausted (.inr state) hold (worst ▸ view) units
    · rename_i better; exact restored_legal hold view better units
  case h_4 state =>
    split
    · rename_i worst; exact legal_of_exhausted (.inr rfl) hold (worst ▸ view) units
    · rename_i better; exact legal_of_better (.inr state) hold view better units
  case h_5 state => exact legal_of_unsupplied (.inl state) units
  case h_6 state => exact legal_of_unsupplied (.inr (.inl state)) units
  case h_7 state => exact legal_of_unsupplied (.inr (.inr state)) units

/-- A notice of any status and level leaves a legal point legal (R37, R57, R59, R61). -/
theorem notified_legal {p : Point} (h : p.legal) (deferral : Bool) (status : Status) (level : Level) :
    (p.notified deferral status level).legal := by
  have units := legal_units h
  have told (hold : p.hostHold = false) :
      (if status = .active then (p.seeing status level).follow deferral level else (p.seeing status level).toHeld).legal := by
    split
    · rename_i active; subst active; exact follow_legal deferral hold rfl units
    · exact legal_of_unsupplied (.inr (.inl rfl)) units
  unfold Point.notified
  split
  case h_1 => exact h
  case h_2 state => exact legal_of_unsupplied (.inr (.inr state)) units
  case h_3 state =>
    split
    · exact legal_of_unsupplied (.inr (.inl state)) units
    · exact evaluate_legal units
  case h_4 state => exact told (hostHold_of_legal h (.inl state))
  case h_5 state => exact told (hostHold_of_legal h (.inr (.inl state)))
  case h_6 state => exact told (hostHold_of_legal h (.inr (.inr (.inl state))))
  case h_7 state => exact told (hostHold_of_legal h (.inr (.inr (.inr state))))

/-- One more unit is counted up to 255 pending; the next one locks the point (R53). -/
theorem addUnit_legal {p : Point} (h : p.legal) : p.addUnit.legal := by
  obtain ⟨better, exhausted, units⟩ := h
  unfold Point.addUnit
  split
  · rename_i room
    exact ⟨better, exhausted, room⟩
  · exact legal_of_unsupplied (.inr (.inr rfl)) units

theorem countEdge_legal {p : Point} (h : p.legal) : p.countEdge.legal := by
  unfold Point.countEdge
  split
  · exact legal_congr h rfl rfl rfl le_rfl
  · split
    · exact legal_congr h rfl rfl rfl le_rfl
    · exact addUnit_legal (legal_congr h rfl rfl rfl le_rfl)

theorem completeEdge_legal {p : Point} (h : p.legal) (counting : Bool) : (p.completeEdge counting).legal := by
  have taken : Point.legal { p with debounced := p.line, excursion := false } := legal_congr h rfl rfl rfl le_rfl
  unfold Point.completeEdge
  dsimp only
  split
  · exact countEdge_legal taken
  · exact taken

theorem lineChanged_legal {p : Point} (h : p.legal) (debouncing counting : Bool) :
    (p.lineChanged debouncing counting).legal := by
  have changed : Point.legal { p with line := !p.line } := legal_congr h rfl rfl rfl le_rfl
  unfold Point.lineChanged
  dsimp only
  split
  · exact changed
  · split
    · exact completeEdge_legal changed counting
    · exact legal_congr h rfl rfl rfl le_rfl

/-- A point whose grace has run out sees EXHAUSTED still, so it may be CUT (R60). -/
theorem graceExpired_legal {p : Point} (h : p.legal) (deferral : Bool) : (p.graceExpired deferral).legal := by
  obtain ⟨-, exhausted, units⟩ := id h
  unfold Point.graceExpired
  split
  · rename_i expired
    obtain ⟨hold, view⟩ := exhausted (.inl expired.1)
    exact legal_of_exhausted (.inr rfl) hold view units
  · exact h

theorem ticked_legal {p : Point} (h : p.legal) (deferral : Bool) : (p.ticked deferral).legal := by
  unfold Point.ticked
  split
  · have counted : Point.legal { p with graceRemaining := p.graceRemaining - 1 } := legal_congr h rfl rfl rfl le_rfl
    exact graceExpired_legal counted deferral
  · exact h

/-- HOLD leaves no point LIVE, GRACE, CUT or AWAITING (R74). -/
theorem held_legal {p : Point} (h : p.legal) : p.held.legal := by
  have units := legal_units h
  unfold Point.held
  dsimp only
  split
  case h_5 state => exact legal_of_unsupplied (.inr (.inl state)) units
  case h_6 state => exact legal_of_unsupplied (.inr (.inr state)) units
  case h_7 state => exact legal_of_unsupplied (.inl state) units
  all_goals exact legal_of_unsupplied (.inr (.inl rfl)) units

/-- RELEASE evaluates a HELD, LOCKED or AWAITING point; LIVE, GRACE and CUT ones had no host-hold to end (R75). -/
theorem released_legal {p : Point} (h : p.legal) : p.released.legal := by
  have units := legal_units h
  have unheld (state : p.state = .live ∨ p.state = .grace ∨ p.state = .cut ∨ p.state = .awaiting) :
      Point.legal { p with hostHold := false } := legal_congr h rfl (hostHold_of_legal h state).symm rfl le_rfl
  unfold Point.released
  dsimp only
  split
  case h_4 state => exact unheld (.inl state)
  case h_5 state => exact unheld (.inr (.inl state))
  case h_6 state => exact unheld (.inr (.inr (.inl state)))
  case h_7 state => exact legal_of_unsupplied (.inl state) units
  all_goals exact evaluate_legal units

theorem bound_legal (slot : Fin 64) (status : Status) (level : Level) (p : Point) : (p.bound slot status level).legal :=
  evaluate_legal (Nat.zero_le 255)

theorem detached_legal (p : Point) : p.detached.legal := legal_of_unsupplied (.inl rfl) (Nat.zero_le 255)

/-- A configured point is HELD or DETACHED (R77). -/
theorem configured_legal {p : Point} (units : p.pending ≤ 255) (stored : StoredPoint) : (p.configured stored).legal := by
  refine legal_of_unsupplied ?_ units
  unfold Point.configured
  cases loadBinding stored.binding with
  | none => exact .inl rfl
  | some slot => exact .inr (.inl rfl)

theorem reconciled_legal {p : Point} (h : p.legal) (s : State) (page : Fin 8) : (s.reconciled page p).legal := by
  rcases reconciled_cases s page p with ⟨slot, -, -, -, hr⟩ | ⟨slot, deferral, -, -, -, hr⟩ | ⟨-, hr⟩ <;> rw [hr]
  · exact detached_legal p
  · exact notified_legal h ..
  · exact h

end Sys2Proof.Machine.Proofs

namespace Sys2Proof.Machine.Proofs

open Sys2Proof Sys2Proof.Machine Sys2Proof.Machine.Laws

/-! ### What keeps the points legal -/

/-- Every point that was legal is legal. -/
structure LegalKept (s t : State) : Prop where
  legal : ∀ p, (s.point p).legal → (t.point p).legal

namespace LegalKept

variable {s t u : State}

theorem refl (s : State) : LegalKept s s := ⟨fun _ h => h⟩

theorem trans (h : LegalKept s t) (h' : LegalKept t u) : LegalKept s u :=
  ⟨fun p hp => h'.legal p (h.legal p hp)⟩

theorem of_points (h : t.points.points = s.points.points) : LegalKept s t :=
  ⟨fun p hp => by rwa [State.point, h]⟩

theorem setPoint (s : State) {p : Fin 16} {r : Point} (h : (s.point p).legal → r.legal) : LegalKept s (s.setPoint p r) :=
  ⟨fun q hq => by
    rw [point_setPoint]
    split
    · rename_i hp; exact h (hp ▸ hq)
    · exact hq⟩

theorem mapPoints (s : State) {f : Point → Point} (h : ∀ p, p.legal → (f p).legal) : LegalKept s (s.mapPoints f) :=
  ⟨fun q hq => by rw [point_mapPoints]; exact h _ hq⟩

end LegalKept

/-! ### The effects of engine operations -/

theorem changeAccount_legal (s : State) (slot : Fin 64) (a : Account) (before : Level) (extra : Reasons) :
    LegalKept s (s.changeAccount slot a before extra) := by
  refine ⟨fun p hp => ?_⟩
  rw [changeAccount_point]
  split
  · exact notified_legal hp ..
  · exact hp

theorem storeBalance_legal (s : State) (slot : Fin 64) (balance : Int) (extra : Reasons) (urgent : Bool) :
    LegalKept s (s.storeBalance slot balance extra urgent) := by
  unfold State.storeBalance
  dsimp only
  split
  · exact .of_points (by simp)
  · exact (changeAccount_legal ..).trans (.of_points rfl)

theorem takeCharge_legal (s : State) (slot : Fin 64) (amount : Nat) : LegalKept s (s.takeCharge slot amount) := by
  unfold State.takeCharge
  split
  · exact .refl s
  · split <;> exact storeBalance_legal ..

/-- A number enters the directory, and its slot takes a record (R117, R131). -/
theorem enterAccount_legal (s : State) (number : Nat) (slot : Fin 64) (a : Account) (before : Level) (page : Fin 9) :
    LegalKept s (((s.insertDirectory number slot).changeAccount slot a before {}).report page true) :=
  LegalKept.trans (t := s.insertDirectory number slot) (.of_points rfl) ((changeAccount_legal ..).trans (.of_points rfl))

theorem withAccount_legal {s : State} (number : Nat) (f : Fin 64 → State × Answer) (h : ∀ slot, LegalKept s (f slot).1) :
    LegalKept s (s.withAccount number f).1 := by
  rcases withAccount_cases s number f with hw | ⟨slot, -, hw⟩ <;> rw [hw]
  · exact .refl s
  · exact h slot

theorem openEffect_legal (f : Vector Word 7) (s : State) : LegalKept s (openEffect f s).1 := by
  unfold openEffect
  split
  · exact .refl s
  split
  · exact .refl s
  split
  · exact .refl s
  · exact enterAccount_legal ..

theorem closeEffect_legal (f : Vector Word 7) (s : State) : LegalKept s (closeEffect f s).1 := by
  unfold closeEffect
  split
  · exact .refl s
  · refine withAccount_legal _ _ fun slot => ?_
    split
    · exact .refl s
    · exact .of_points rfl

theorem creditEffect_legal (f : Vector Word 7) (s : State) : LegalKept s (creditEffect f s).1 := by
  unfold creditEffect
  split
  · refine withAccount_legal _ _ fun slot => ?_
    split
    · exact .refl s
    · exact storeBalance_legal ..
  · exact .refl s

theorem debitEffect_legal (f : Vector Word 7) (s : State) : LegalKept s (debitEffect f s).1 := by
  unfold debitEffect
  split
  · exact .refl s
  · refine withAccount_legal _ _ fun slot => ?_
    split
    · exact .refl s
    · exact storeBalance_legal ..

theorem transferBetween_legal (s : State) (src dst : Fin 64) (x : TransferFields) :
    LegalKept s (s.transferBetween src dst x).1 := by
  unfold State.transferBetween
  split
  · exact .refl s
  split
  · exact .refl s
  · exact .refl s
  split
  · exact .refl s
  · exact (storeBalance_legal ..).trans (storeBalance_legal ..)

theorem transferEffect_legal (f : Vector Word 7) (s : State) : LegalKept s (transferEffect f s).1 := by
  unfold transferEffect
  split
  · exact .refl s
  split
  · exact .refl s
  · exact .refl s
  · exact transferBetween_legal ..

theorem amendEffect_legal (f : Vector Word 7) (s : State) : LegalKept s (amendEffect f s).1 := by
  unfold amendEffect
  split
  · exact .refl s
  · refine withAccount_legal _ _ fun slot => ?_
    dsimp only
    split
    · exact .refl s
    · exact (changeAccount_legal ..).trans (.of_points rfl)

theorem statusEffect_legal (status : Status) (f : Vector Word 7) (s : State) : LegalKept s (statusEffect status f s).1 := by
  unfold statusEffect
  split
  · exact .refl s
  · refine withAccount_legal _ _ fun slot => ?_
    split
    · exact .refl s
    · exact (changeAccount_legal ..).trans (.of_points rfl)

theorem repairEffect_legal (f : Vector Word 7) (s : State) : LegalKept s (repairEffect f s).1 := by
  unfold repairEffect
  split
  · exact .refl s
  dsimp only
  split
  · exact .refl s
  split
  · exact .refl s
  · exact enterAccount_legal ..

/-- DISCARD detaches the points bound to the slot (R71). -/
theorem discardEffect_legal (f : Vector Word 7) (s : State) : LegalKept s (discardEffect f s).1 := by
  have detached (slot : Fin 64) : LegalKept s (s.detachAll slot) := .mapPoints s fun p hp => by
    split
    · exact detached_legal p
    · exact hp
  unfold discardEffect
  split
  · exact .refl s
  dsimp only
  split
  · exact .refl s
  · exact (detached _).trans (.of_points rfl)

theorem nextAttentionEffect_legal (f : Vector Word 7) (s : State) : LegalKept s (nextAttentionEffect f s).1 := by
  unfold nextAttentionEffect
  split <;> exact .of_points rfl

/-- BIND and UNBIND: one slot takes a bound count and one point a record (R67, R70). -/
theorem setCountedPoint_legal (s : State) {p : Fin 16} {slot : Fin 64} {a : Account} {r : Point} (h : r.legal) :
    LegalKept s (State.setPoint (s.setSlot slot a) p r).reportSettings :=
  LegalKept.trans (t := s.setSlot slot a) (.of_points rfl) ((LegalKept.setPoint _ fun _ => h).trans (.of_points rfl))

theorem bindEffect_legal (f : Vector Word 7) (s : State) : LegalKept s (bindEffect f s).1 := by
  unfold bindEffect
  rcases withPoint_cases s f[0] _ with h | ⟨p, h⟩ <;> rw [h]
  · exact .refl s
  split
  · exact .refl s
  split
  · exact .refl s
  split
  · exact .refl s
  · exact setCountedPoint_legal s (bound_legal ..)

theorem unbindEffect_legal (f : Vector Word 7) (s : State) : LegalKept s (unbindEffect f s).1 := by
  unfold unbindEffect
  rcases withBoundPoint_cases s f[0] _ with h | ⟨p, -, h⟩ <;> rw [h]
  · exact .refl s
  split
  · exact .refl s
  · exact setCountedPoint_legal s (detached_legal _)

theorem applyRequest_legal (s : State) (r : ApplyRequest) : LegalKept s (s.applyRequest r).1 := by
  unfold State.applyRequest
  split
  · exact .refl s
  split
  · exact .refl s
  split
  · exact .refl s
  split
  · exact .refl s
  · exact (storeBalance_legal ..).trans (.of_points rfl)

/-! ### The effects of the point commands that no engine operation serves (section 3.7) -/

/-- A command about a point keeps the points legal when its part behind the point number does. -/
theorem withPoint_legal {s : State} (field : Word) (f : Fin 16 → State × Answer) (h : ∀ p, LegalKept s (f p).1) :
    LegalKept s (s.withPoint field f).1 := by
  rcases withPoint_cases s field f with hs | ⟨p, hs⟩ <;> rw [hs]
  · exact .refl s
  · exact h p

theorem withBoundPoint_legal {s : State} (field : Word) (f : Fin 16 → State × Answer) (h : ∀ p, LegalKept s (f p).1) :
    LegalKept s (s.withBoundPoint field f).1 := by
  rcases withBoundPoint_cases s field f with hs | ⟨p, -, hs⟩ <;> rw [hs]
  · exact .refl s
  · exact h p

theorem configureEffect_legal (f : Vector Word 7) (s : State) : LegalKept s (configureEffect f s).1 :=
  withPoint_legal _ _ fun p => by
    split
    · exact .refl s
    · have configured (config : PointConfig) : LegalKept s (s.setPoint p ((s.point p).reconfigured config)) :=
        .setPoint s fun h => legal_congr h rfl rfl rfl le_rfl
      exact (configured _).trans (.of_points rfl)

theorem holdEffect_legal (f : Vector Word 7) (s : State) : LegalKept s (holdEffect f s).1 :=
  withBoundPoint_legal _ _ fun _ => .setPoint s held_legal

theorem releaseEffect_legal (f : Vector Word 7) (s : State) : LegalKept s (releaseEffect f s).1 :=
  withBoundPoint_legal _ _ fun _ => .setPoint s released_legal

/-- Turning deferral off cuts the points whose grace has run out (R69). -/
theorem setDeferEffect_legal (f : Vector Word 7) (s : State) : LegalKept s (setDeferEffect f s).1 := by
  unfold setDeferEffect
  split
  · exact .refl s
  unfold State.setDeferral
  split
  · exact .refl s
  split
  · exact .of_points rfl
  · exact (LegalKept.mapPoints s fun _ h => graceExpired_legal h false).trans (.of_points rfl)

/-! ### Commands that leave the points alone -/

@[simp] theorem startWait_points (s : State) (cmd : QueuedCommand) : (s.startWait cmd).points = s.points := by
  unfold State.startWait
  dsimp only
  split
  · rfl
  · rw [retestWait_points]

@[simp] theorem settleHandedWait_points (s : State) : s.settleHandedWait.points = s.points := by
  unfold State.settleHandedWait
  split
  · split
    · exact startWait_points ..
    · rfl
  · rfl

@[simp] theorem takeBoundary_points (s : State) : s.takeBoundary.points = s.points := by
  unfold State.takeBoundary
  dsimp only
  split
  · rw [retestWait_points]
    split <;> [rfl; (split <;> rfl)]
  · split <;> [rfl; (split <;> rfl)]

@[simp] theorem enterHoldup_points (s : State) (conditionFirst : Bool) :
    (s.enterHoldup conditionFirst).points = s.points := by
  unfold State.enterHoldup State.enterHoldupBlocks
  dsimp only
  split <;> simp

@[simp] theorem endLoading_points (s : State) : s.endLoading.points = s.points := by
  unfold State.endLoading
  dsimp only
  split
  · rw [enterHoldup_points]
  · rfl

@[simp] theorem tickPeriod_points (s : State) : s.tickPeriod.points = s.points := by
  unfold State.tickPeriod
  split
  · exact takeBoundary_points s
  · rfl

@[simp] theorem tickWait_points (s : State) : s.tickWait.points = s.points := by
  unfold State.tickWait
  split
  · split
    · rfl
    · split <;> rfl
  · rfl

@[simp] theorem settleWanted_points (s : State) (page : Fin 9) (succeeded : Bool) :
    (s.settleWanted page succeeded).points = s.points := by
  unfold State.settleWanted State.finishCommit
  split
  · rfl
  · dsimp only
    split
    · split <;> rfl
    · rfl

@[simp] theorem commitFailed_points (s : State) (page : Fin 9) : (s.commitFailed page).points = s.points := by
  simp [State.commitFailed]

@[simp] theorem grant_points (s : State) : s.grant.points = s.points := by
  unfold State.grant
  split
  · rfl
  split
  · unfold State.startCharge
    split <;> rfl
  split
  · rfl
  split
  · rfl
  split <;> rfl

@[simp] theorem purged_points (s : State) : s.purged.points = s.points := by
  simp [State.purged]

@[simp] theorem tallyCharge_points (s : State) (p : Fin 16) (n amount : Nat) :
    (s.tallyCharge p n amount).points.points = s.points.points := by
  rw [tallyCharge_eq]

@[simp] theorem answerKiosk_points (s : State) (owned : Bool) (reply : List Byte) :
    (s.answerKiosk owned reply).points = s.points := by
  unfold State.answerKiosk
  split <;> rfl

@[simp] theorem readRegister_points (s : State) (offset : BitVec 7) : (s.readRegister offset).points = s.points := by
  show (s.readEffect offset).points = s.points
  unfold State.readEffect State.pushTaken
  split
  · split <;> rfl
  · split <;> rfl

end Sys2Proof.Machine.Proofs

namespace Sys2Proof.Machine.Proofs

open Sys2Proof Sys2Proof.Machine Sys2Proof.Machine.Laws

/-! ### Every command keeps the points legal -/

/-- The completion of a command's operation keeps the points legal when its effect does. -/
theorem completeCommand_legal (s : State) (code : Byte) {effect : Vector Word 7 → State → State × Answer}
    (h : ∀ f u, LegalKept u (effect f u).1) : LegalKept s (s.completeCommand code effect) := by
  unfold State.completeCommand
  split
  · rename_i cmd owned _
    split
    · refine LegalKept.trans (t := s.freeEngine) (.of_points rfl) ((h cmd.params _).trans (.of_points ?_))
      rw [retestWait_points]
      split <;> rfl
    · exact .refl s
  · exact .refl s

/-- A command answered in the step it is taken keeps the points legal when its effect does. -/
theorem takeCommand_legal (s : State) (code : Byte) {effect : Vector Word 7 → State → State × Answer}
    (h : ∀ f u, LegalKept u (effect f u).1) : LegalKept s (s.takeCommand code effect) := by
  unfold State.takeCommand
  split
  · split
    · exact (h _ _).trans (.of_points rfl)
    · exact .refl s
  · exact .refl s

/-- An effect that changes no state. -/
theorem legal_of_state {effect : Vector Word 7 → State → State × Answer} (h : ∀ f u, (effect f u).1 = u) :
    ∀ f u, LegalKept u (effect f u).1 := fun f u => by rw [h]; exact .refl u

theorem charge_legal (s : State) {t : State} (h : exec .charge s = .next t) : LegalKept s t := by
  simp only [exec, execCharge, Host.Outcome.next.injEq] at h
  subst h
  split
  · rename_i p n slot price _
    have reduced (u : State) (p : Fin 16) (n : Nat) : LegalKept u (u.reducePending p n) :=
      .setPoint u fun h => legal_congr h rfl rfl rfl (Nat.sub_le ..)
    exact LegalKept.trans (t := s.freeEngine) (.of_points rfl)
      ((takeCharge_legal _ slot (n * price)).trans ((reduced _ p n).trans (.of_points (by simp))))
  · exact .refl s

theorem standing_legal (s : State) {t : State} (h : exec .standing s = .next t) : LegalKept s t := by
  simp only [exec, execStanding, Host.Outcome.next.injEq] at h
  subst h
  split
  · have moved (u : State) : LegalKept u u.advanceSweep.retestWait := .of_points (by simp)
    refine LegalKept.trans (t := s.freeEngine) (.of_points rfl) (.trans ?_ (moved _))
    split
    · exact takeCharge_legal ..
    · exact .refl _
  · exact .refl s

theorem applyFrame_legal (s : State) {t : State} (h : exec .applyFrame s = .next t) : LegalKept s t := by
  simp only [exec, execApplyFrame, Host.Outcome.next.injEq] at h
  subst h
  split
  · rename_i request owned _
    exact LegalKept.trans (t := s.freeEngine) (.of_points rfl)
      ((applyRequest_legal _ request).trans (.of_points (by simp)))
  · exact .refl s

theorem bind_legal (s : State) {t : State} (h : exec .bind s = .next t) : LegalKept s t := by
  have refused : LegalKept s (s.takeCommand 0x10 bindRefusal) :=
    takeCommand_legal s _ fun f u => withPoint_legal _ _ fun _ => .refl u
  simp only [exec, execBind, Host.Outcome.next.injEq] at h
  subst h
  split
  · split
    · exact completeCommand_legal s _ bindEffect_legal
    · exact refused
  · exact refused

theorem unbindDetach_legal (s : State) {t : State} (h : exec .unbindDetach s = .next t) : LegalKept s t := by
  simp only [exec, execUnbindDetach, Host.Outcome.next.injEq] at h
  subst h
  have detached := completeCommand_legal s 0x11 unbindEffect_legal
  split
  · exact detached.trans (.of_points rfl)
  · exact detached

theorem tick_legal (s : State) {conditionFirst : Bool} {t : State} (h : exec (.tick conditionFirst) s = .next t) :
    LegalKept s t := by
  simp only [exec, execTick, Host.Outcome.next.injEq] at h
  subst h
  split
  · have ticked : LegalKept s s.tickPoints := .mapPoints s fun _ h => ticked_legal h _
    refine ticked.trans (.of_points ?_)
    split <;> simp [State.tickCommit]
  · split <;> exact .of_points rfl

theorem volatileReset_legal {s t : State} (h : t.points = s.volatileReset.points) : LegalKept s t := by
  refine ⟨fun p _ => ?_⟩
  rw [point_of_points h]
  simp only [State.point, State.volatileReset, Fin.getElem_fin, Vector.getElem_map]
  exact legal_of_unsupplied (.inl rfl) (Nat.zero_le 255)

theorem loadSettingsPage_legal (s : State) {t : State} (h : exec .loadSettingsPage s = .next t) : LegalKept s t := by
  simp only [exec, execLoadSettingsPage, Host.Outcome.next.injEq] at h
  subst h
  split
  · refine ⟨fun p hp => ?_⟩
    obtain ⟨stored, configured⟩ := (applySettingsPage_taken s).points p
    show (s.applySettingsPage.point p).legal
    rw [configured]
    exact configured_legal (legal_units hp) stored
  · exact .refl s

theorem loadAccountPage_legal (s : State) {t : State} (h : exec .loadAccountPage s = .next t) : LegalKept s t := by
  simp only [exec, execLoadAccountPage, Host.Outcome.next.injEq] at h
  subst h
  split
  · rename_i page _ _
    have reconciled : LegalKept s ((s.applyAccountPage page).reconcile page) := ⟨fun p hp => by
      rw [reconcile_point, point_of_points (applyAccountPage_frame s page).points]
      exact reconciled_legal hp ..⟩
    refine reconciled.trans (.of_points ?_)
    split
    · rw [endLoading_points]
    · rfl
  · exact .refl s

/-- A write to CONTROL clears the tally at most. -/
theorem controlWrite_points (s : State) (value : Word) : (s.controlWrite value).points.points = s.points.points := by
  unfold State.controlWrite
  split
  · rfl
  · split <;> simp

theorem writeNoticeMode_points (s : State) (value : Word) : (s.writeNoticeMode value).points = s.points := by
  unfold State.writeNoticeMode
  split
  · split <;> rfl
  · rfl

theorem writeNoticeDone_points (s : State) : s.writeNoticeDone.points = s.points := by
  unfold State.writeNoticeDone
  split <;> rfl

theorem submitted_points (s : State) (value : Word) : (s.submitted value).points = s.points := by
  unfold State.submitted
  split <;> rfl

theorem popped_points (s : State) : s.popped.points = s.points := by
  unfold State.popped
  split <;> rfl

theorem writePointFlags_legal (s : State) (p : Fin 16) (value : Word) : LegalKept s (s.writePointFlags p value) :=
  .setPoint s fun h => legal_congr h rfl rfl rfl le_rfl

theorem writeRegister_legal (s : State) (offset : Nat) (value : Word) : LegalKept s (s.writeRegister offset value) := by
  unfold State.writeRegister
  split
  · exact .of_points rfl
  · exact writePointFlags_legal ..
  · split
    · exact .of_points (controlWrite_points ..)
    · exact .of_points rfl
    · exact .of_points (by rw [submitted_points])
    · exact .of_points (by rw [popped_points])
    · exact .of_points rfl
    · exact .of_points rfl
    · exact .of_points (by rw [writeNoticeMode_points])
    · exact .of_points (by rw [writeNoticeDone_points])
    · exact .of_points rfl

/-- A register access is served, or changes nothing. -/
theorem served_legal {s t u : State} (hu : LegalKept s u)
    (h : (Host.Outcome.next (if s.served then u else s) : Host.Outcome State Fault Refusal) = .next t) :
    LegalKept s t := by
  cases h
  split
  · exact hu
  · exact .refl s

end Sys2Proof.Machine.Proofs

namespace Sys2Proof.Machine.Proofs

open Sys2Proof Sys2Proof.Machine Sys2Proof.Machine.Laws

/-! ### Every step keeps the points legal -/

/-- The points of the next state are those of the state before. -/
def SamePoints (s : State) : Host.Outcome State Fault Refusal → Prop
  | .next u => u.points.points = s.points.points
  | .fault _ => True
  | .refused _ => True

theorem SamePoints.legal {s t : State} {o : Host.Outcome State Fault Refusal} (same : SamePoints s o) (h : o = .next t) :
    LegalKept s t := by
  subst h
  exact .of_points same

theorem entryToHoldup_samePoints (conditionFirst : Bool) (s : State) :
    SamePoints s (exec (.entryToHoldup conditionFirst) s) := by
  simp only [exec, execEntryToHoldup, SamePoints]
  split
  · rw [enterHoldup_points]
  · rfl

theorem entryToSafe_samePoints (s : State) : SamePoints s (exec .entryToSafe s) := by
  simp only [exec, execEntryToSafe, SamePoints]
  split <;> rfl

theorem returnToRun_samePoints (s : State) : SamePoints s (exec .returnToRun s) := by
  simp only [exec, execReturnToRun, SamePoints]
  split
  · rw [(resumeSweep_blocks _).2.1]
  · rfl

theorem periodBoundary_samePoints (s : State) : SamePoints s (exec .periodBoundary s) := by
  simp only [exec, execPeriodBoundary, SamePoints]
  split
  · rw [takeBoundary_points]
  · rfl

theorem routinePageEligible_samePoints (page : Fin 9) (s : State) : SamePoints s (exec (.routinePageEligible page) s) := by
  simp only [exec, execRoutinePageEligible, SamePoints]
  split
  · split <;> rfl
  · rfl

theorem waitTimeout_samePoints (s : State) : SamePoints s (exec .waitTimeout s) := by
  simp only [exec, execWaitTimeout, SamePoints]
  split
  · split <;> rfl
  · rfl

theorem engineGrant_samePoints (s : State) : SamePoints s (exec .engineGrant s) := by
  simp only [exec, execEngineGrant, SamePoints]
  split
  · rw [grant_points]
  · rfl

theorem gather_samePoints (s : State) : SamePoints s (exec .gather s) := by
  simp only [exec, execGather, SamePoints]
  split
  · split
    · rw [retestWait_points]; rfl
    · rfl
  · rfl

theorem commandStart_samePoints (s : State) : SamePoints s (exec .commandStart s) := by
  simp only [exec, execCommandStart, SamePoints]
  split
  · split <;> rfl
  · rfl

theorem badCommand_samePoints (s : State) : SamePoints s (exec .badCommand s) := by
  simp only [exec, execBadCommand, SamePoints]
  split
  · split <;> rfl
  · rfl

theorem wait_samePoints (s : State) : SamePoints s (exec .wait s) := by
  show s.settleHandedWait.points.points = s.points.points
  rw [settleHandedWait_points]

/-- UNBIND at its start opens its tally (R68). -/
theorem unbind_samePoints (s : State) : SamePoints s (exec .unbind s) := by
  simp only [exec, execUnbind, SamePoints]
  split
  · split
    · split
      · rfl
      · split <;> rfl
    · rfl
  · rfl

theorem commit_samePoints (s : State) : SamePoints s (exec .commit s) := by
  simp only [exec, execCommit, SamePoints]
  split
  · split
    · unfold State.takeCommit
      dsimp only
      split <;> rfl
    · rfl
  · rfl

theorem commitStart_samePoints (s : State) : SamePoints s (exec .commitStart s) := by
  simp only [exec, execCommitStart, SamePoints]
  split
  · split
    · split <;> rfl
    · rfl
  · rfl

theorem eraseComplete_samePoints (s : State) : SamePoints s (exec .eraseComplete s) := by
  simp only [exec, execEraseComplete, SamePoints]
  split <;> rfl

theorem programComplete_samePoints (written : Bool) (s : State) : SamePoints s (exec (.programComplete written) s) := by
  simp only [exec, execProgramComplete, SamePoints]
  split <;> rfl

theorem verifyComplete_samePoints (s : State) : SamePoints s (exec .verifyComplete s) := by
  simp only [exec, execVerifyComplete, SamePoints]
  split
  · split
    · simp
    · split
      · simp
      · rfl
  · rfl

theorem collision_samePoints (bit : Fin 8) (s : State) : SamePoints s (exec (.collision bit) s) := by
  simp only [exec, execCollision, SamePoints]
  split
  · rw [retestWait_points]; rfl
  · rfl

/-- The port moves, and a WAIT tests its conditions. -/
theorem setPort_samePoints (s : State) (port : TopUpPort) : SamePoints s (.next (s.setPort port).retestWait) := by
  simp only [SamePoints, retestWait_points, setPort_points]

theorem setTariffEffect_legal (f : Vector Word 7) (s : State) : LegalKept s (setTariffEffect f s).1 := by
  unfold setTariffEffect
  split <;> exact .of_points rfl

theorem setBandEffect_legal (f : Vector Word 7) (s : State) : LegalKept s (setBandEffect f s).1 := by
  unfold setBandEffect
  split <;> exact .of_points rfl

theorem setPeriodEffect_legal (f : Vector Word 7) (s : State) : LegalKept s (setPeriodEffect f s).1 := by
  unfold setPeriodEffect
  split <;> exact .of_points rfl

theorem setTopupEffect_legal (f : Vector Word 7) (s : State) : LegalKept s (setTopupEffect f s).1 := by
  unfold setTopupEffect
  split <;> exact .of_points rfl

theorem setIntervalEffect_legal (f : Vector Word 7) (s : State) : LegalKept s (setIntervalEffect f s).1 := by
  unfold setIntervalEffect
  split <;> exact .of_points rfl

theorem graceExpiry_legal (s : State) {p : Fin 16} {t : State} (h : exec (.graceExpiry p) s = .next t) : LegalKept s t := by
  simp only [exec, execGraceExpiry, Host.Outcome.next.injEq] at h
  subst h
  split
  · exact .setPoint s fun h => graceExpired_legal h _
  · exact .refl s

theorem meterLineChange_legal (s : State) {p : Fin 16} {t : State} (h : exec (.meterLineChange p) s = .next t) :
    LegalKept s t := by
  simp only [exec, execMeterLineChange, Host.Outcome.next.injEq] at h
  subst h
  exact .setPoint s fun h => lineChanged_legal h ..

theorem debounceComplete_legal (s : State) {p : Fin 16} {t : State} (h : exec (.debounceComplete p) s = .next t) :
    LegalKept s t := by
  simp only [exec, execDebounceComplete, Host.Outcome.next.injEq] at h
  subst h
  split
  · exact .setPoint s fun h => completeEdge_legal h _
  · exact .refl s

theorem reset_legal (s : State) {t : State} (h : exec .reset s = .next t) : LegalKept s t := by
  simp only [exec, execReset, Host.Outcome.next.injEq] at h
  subst h
  exact volatileReset_legal rfl

theorem loadingStart_legal (s : State) {t : State} (h : exec .loadingStart s = .next t) : LegalKept s t := by
  simp only [exec, execLoadingStart, Host.Outcome.next.injEq] at h
  subst h
  split
  · exact volatileReset_legal rfl
  · exact .refl s

/-- The meaning of every command keeps legal points legal. -/
theorem exec_legal {c : Instr} {s t : State} (h : exec c s = .next t) : LegalKept s t := by
  have engineServed : ∀ {code effect}, (∀ f u, LegalKept u (effect f u).1) →
      (Host.Outcome.next (s.completeCommand code effect) : Host.Outcome State Fault Refusal) = .next t →
      LegalKept s t := by
    intro code effect he ht
    cases ht
    exact completeCommand_legal s code he
  have taken : ∀ {code effect}, (∀ f u, LegalKept u (effect f u).1) →
      (Host.Outcome.next (s.takeCommand code effect) : Host.Outcome State Fault Refusal) = .next t →
      LegalKept s t := by
    intro code effect he ht
    cases ht
    exact takeCommand_legal s code he
  have ported : ∀ {port : TopUpPort},
      (Host.Outcome.next (s.setPort port) : Host.Outcome State Fault Refusal) = .next t → LegalKept s t := by
    intro port ht
    cases ht
    exact .of_points rfl
  cases c with
  | reset => exact reset_legal s h
  | loadingStart => exact loadingStart_legal s h
  | loadSettingsPage => exact loadSettingsPage_legal s h
  | loadAccountPage => exact loadAccountPage_legal s h
  | entryToHoldup conditionFirst => exact (entryToHoldup_samePoints conditionFirst s).legal h
  | entryToSafe => exact (entryToSafe_samePoints s).legal h
  | returnToRun => exact (returnToRun_samePoints s).legal h
  | tick conditionFirst => exact tick_legal s h
  | periodBoundary => exact (periodBoundary_samePoints s).legal h
  | graceExpiry p => exact graceExpiry_legal s h
  | routinePageEligible page => exact (routinePageEligible_samePoints page s).legal h
  | waitTimeout => exact (waitTimeout_samePoints s).legal h
  | meterLineChange p => exact meterLineChange_legal s h
  | debounceComplete p => exact debounceComplete_legal s h
  | engineGrant => exact (engineGrant_samePoints s).legal h
  | charge => exact charge_legal s h
  | standing => exact standing_legal s h
  | applyFrame => exact applyFrame_legal s h
  | gather => exact (gather_samePoints s).legal h
  | submit value => exact served_legal (.of_points (by rw [submitted_points])) h
  | commandStart => exact (commandStart_samePoints s).legal h
  | badCommand => exact (badCommand_samePoints s).legal h
  | pop value => exact served_legal (.of_points (by rw [popped_points])) h
  | purge value => exact served_legal (.of_points (controlWrite_points s value)) h
  | portReset value => exact served_legal (.of_points (controlWrite_points s value)) h
  | wait => exact (wait_samePoints s).legal h
  | mark => exact taken (fun _ _ => .of_points rfl) h
  | openAccount => exact engineServed openEffect_legal h
  | closeAccount => exact engineServed closeEffect_legal h
  | credit => exact engineServed creditEffect_legal h
  | debit => exact engineServed debitEffect_legal h
  | transfer => exact engineServed transferEffect_legal h
  | query => exact engineServed (legal_of_state queryEffect_state) h
  | querySlot => exact engineServed (legal_of_state querySlotEffect_state) h
  | scan => exact engineServed (legal_of_state scanEffect_state) h
  | amend => exact engineServed amendEffect_legal h
  | suspend => exact engineServed (statusEffect_legal _) h
  | resume => exact engineServed (statusEffect_legal _) h
  | repair => exact engineServed repairEffect_legal h
  | discard => exact engineServed discardEffect_legal h
  | nextAttention => exact engineServed nextAttentionEffect_legal h
  | bind => exact bind_legal s h
  | unbind => exact (unbind_samePoints s).legal h
  | unbindDetach => exact unbindDetach_legal s h
  | configurePoint => exact taken configureEffect_legal h
  | hold => exact taken holdEffect_legal h
  | release => exact taken releaseEffect_legal h
  | queryPoint => exact taken (fun f u => withPoint_legal _ _ fun _ => .refl u) h
  | setDefer => exact taken setDeferEffect_legal h
  | setTariff => exact taken setTariffEffect_legal h
  | setBand => exact taken setBandEffect_legal h
  | setPeriod => exact taken setPeriodEffect_legal h
  | setTopup => exact taken setTopupEffect_legal h
  | setInterval => exact taken setIntervalEffect_legal h
  | commit => exact (commit_samePoints s).legal h
  | commitStart => exact (commitStart_samePoints s).legal h
  | eraseComplete => exact (eraseComplete_samePoints s).legal h
  | programComplete written => exact (programComplete_samePoints written s).legal h
  | verifyComplete => exact (verifyComplete_samePoints s).legal h
  | busStart => exact (setPort_samePoints s _).legal h
  | busStop => exact (setPort_samePoints s _).legal h
  | addressByte byte => exact ported h
  | kindByte byte => exact ported h
  | frameByte byte => exact ported h
  | discardByte byte => exact ported h
  | replyByte acknowledged => exact (setPort_samePoints s _).legal h
  | collision bit => exact (collision_samePoints bit s).legal h
  | busTimeout => exact (setPort_samePoints s _).legal h
  | noticeReadyWrite value => exact served_legal (u := s.writeNoticeReady value) (.of_points rfl) h
  | noticeEnableWrite value => exact served_legal (u := s.writeNoticeEnable value) (.of_points rfl) h
  | noticeModeWrite value => exact served_legal (.of_points (by rw [writeNoticeMode_points])) h
  | noticeTake => exact served_legal (.of_points (by rw [readRegister_points])) h
  | noticeDone value => exact served_legal (.of_points (by rw [writeNoticeDone_points])) h
  | errorsWrite value => exact served_legal (u := s.writeErrors value) (.of_points rfl) h
  | pointFlagsWrite p value => exact served_legal (writePointFlags_legal s p value) h
  | unassignedRead offset => exact served_legal (.of_points (by rw [readRegister_points])) h
  | registerWrite offset value => exact served_legal (writeRegister_legal s offset.toNat value) h

/-- The idle step on an empty queue changes nothing; any other is the meaning of the front command. -/
theorem step_keeps_pointsLegal (s t : State) (legal : PointsLegal s) (h : step s = .next t) : PointsLegal t := by
  unfold step at h
  split at h
  · cases h; exact legal
  · exact fun p => (exec_legal h).legal p (legal p)

/-- Settles O56: the meaning of each command keeps every legal point legal, and every outcome of a step keeps the views. -/
theorem everyStepKeepsPointsLegal : Obligations.EveryStepKeepsPointsLegal :=
  ⟨step_keeps_pointsLegal, step_keeps (fun _ _ h => h) fun _ _ => outcome_keeps_viewsAgree⟩

end Sys2Proof.Machine.Proofs

namespace Sys2Proof.Machine.Proofs

open Sys2Proof Sys2Proof.Machine Sys2Proof.Machine.Laws

/-! ### The waiting requests of a FREE engine (R43, R44) -/

theorem chargeWaits_of_free {s : State} (h : s.engine.op = .free) (p : Fin 16) :
    s.chargeWaits p = (s.point p).chargeRequest := by
  simp [State.chargeWaits, State.charging, h]

/-- The lowest point with a charge request is the first (R44). -/
theorem firstCharge_eq_some {s : State} (h : s.engine.op = .free) {p : Fin 16} (waits : (s.point p).chargeRequest = true)
    (lowest : ∀ q, q < p → (s.point q).chargeRequest = false) : s.firstCharge = some p := by
  refine List.find?_eq_some_iff_getElem.mpr ⟨(chargeWaits_of_free h p).trans waits, p.val, by simp, by simp, fun j hj => ?_⟩
  simp only [List.getElem_finRange, chargeWaits_of_free h, Fin.cast_mk, Bool.not_eq_true']
  exact lowest _ hj

theorem firstCharge_eq_none {s : State} (h : s.engine.op = .free) (idle : ∀ q, (s.point q).chargeRequest = false) :
    s.firstCharge = none :=
  List.find?_eq_none.mpr fun q _ => by simp [chargeWaits_of_free h, idle q]

theorem gatherWaits_eq_some {s : State} (h : s.engine.op = .free) {page : Fin 9} (hp : s.commit.phase = .gather page) :
    s.gatherWaits = some page := by
  simp [State.gatherWaits, hp, h]

theorem gatherWaits_eq_none {s : State} (h : ∀ page, s.commit.phase ≠ .gather page) : s.gatherWaits = none := by
  unfold State.gatherWaits
  split
  case h_1 hp _ => exact absurd hp (h _)
  case h_2 hp _ => exact absurd hp (h _)
  case h_3 => rfl

theorem commandWaits_eq_some {s : State} {cmd : QueuedCommand}
    (h : s.proc.executing = some { cmd, phase := .requested }) : s.commandWaits = some cmd := by
  simp [State.commandWaits, h]

theorem commandWaits_eq_none {s : State} (h : ∀ cmd, s.proc.executing ≠ some { cmd, phase := .requested }) :
    s.commandWaits = none := by
  unfold State.commandWaits
  split
  case h_1 hx => exact absurd hx (h _)
  case h_2 => rfl

theorem standingWaits_eq_some {s : State} (h : s.engine.op = .free) (hs : s.timer.sweep = .running) :
    s.standingWaits = some s.timer.cursor := by
  simp [State.standingWaits, hs, h]

/-- The unit price by the current band (R29, R80). -/
theorem unitPrice_eq (s : State) (slot : Fin 64) :
    s.unitPrice slot = if s.timer.band = .a then s.timer.tariffs[(s.slot slot).tariff].priceA
      else s.timer.tariffs[(s.slot slot).tariff].priceB := by
  unfold State.unitPrice
  cases s.timer.band <;> rfl

/-! ### The grant, place by place (R44) -/

theorem exec_engineGrant {s : State} (ho : s.operating = true) (h : s.engine.op = .free) :
    exec .engineGrant s = .next s.grant := by
  simp [exec, execEngineGrant, ho, h]

theorem grant_apply {s : State} {r : ApplyRequest} (h : s.port.request = some r) :
    s.grant = { s.startOperation (.applyFrame r true) with port := { s.port with request := none } } := by
  simp only [State.grant, h]

theorem grant_charge {s : State} {p : Fin 16} {slot : Fin 64} (apply : s.port.request = none)
    (h : s.firstCharge = some p) (bound : (s.point p).binding = some slot) :
    s.grant = s.startOperation (.charge p (s.point p).pending slot (s.unitPrice slot)) := by
  simp only [State.grant, apply, h, State.startCharge, bound]

theorem grant_gather {s : State} {page : Fin 9} (apply : s.port.request = none) (charge : s.firstCharge = none)
    (h : s.gatherWaits = some page) : s.grant = s.startOperation (.gather page) := by
  simp only [State.grant, apply, charge, h]

theorem grant_command {s : State} {cmd : QueuedCommand} (apply : s.port.request = none) (charge : s.firstCharge = none)
    (gather : s.gatherWaits = none) (h : s.commandWaits = some cmd) :
    s.grant = { s.startOperation (.command cmd true) with
      proc := { s.proc with executing := some { cmd, phase := .granted } } } := by
  simp only [State.grant, apply, charge, gather, h]

theorem grant_standing {s : State} {slot : Fin 64} (apply : s.port.request = none) (charge : s.firstCharge = none)
    (gather : s.gatherWaits = none) (command : s.commandWaits = none) (h : s.standingWaits = some slot) :
    s.grant = s.startOperation (.standing slot (s.standingCharge slot)) := by
  simp only [State.grant, apply, charge, gather, command, h]

/-- Settles O14: which request waits first in each of the five cases, and what its grant reads. -/
theorem grantFollowsFixedOrder : Obligations.GrantFollowsFixedOrder := by
  intro s ho free
  rw [exec_engineGrant ho free]
  refine ⟨fun r hr => ?_, fun p slot apply waits lowest bound => ?_, fun apply idle =>
    ⟨fun page hp => ?_, fun noGather => ⟨fun cmd hx => ?_, fun noCommand running => ?_⟩⟩⟩
  · rw [grant_apply hr]; rfl
  · rw [grant_charge apply (firstCharge_eq_some free waits lowest) bound, unitPrice_eq]; rfl
  · rw [grant_gather apply (firstCharge_eq_none free idle) (gatherWaits_eq_some free hp)]; rfl
  · rw [grant_command apply (firstCharge_eq_none free idle) (gatherWaits_eq_none noGather) (commandWaits_eq_some hx)]; rfl
  · rw [grant_standing apply (firstCharge_eq_none free idle) (gatherWaits_eq_none noGather)
      (commandWaits_eq_none noCommand) (standingWaits_eq_some free running)]; rfl

end Sys2Proof.Machine.Proofs

namespace Sys2Proof.Machine.Proofs

open Sys2Proof Sys2Proof.Machine Sys2Proof.Machine.Laws

/-! ### A notice by the state table (section 3.4; R37, R57, R59, R61, R62) -/

/-- SUPp is on while the point is LIVE or GRACE, outside RESET (R56, R190). -/
theorem supplyOn_iff (s : State) (p : Fin 16) :
    s.supplyOn p = true ↔ s.run.runState ≠ .reset ∧ ((s.point p).state = .live ∨ (s.point p).state = .grace) := by
  have supplies : (s.point p).state.supplies = true ↔ (s.point p).state = .live ∨ (s.point p).state = .grace := by
    cases (s.point p).state <;> simp [PointState.supplies]
  rw [State.supplyOn, Bool.and_eq_true, bne_iff_ne, supplies]

section Notice

variable {p : Point} (deferral : Bool) {status : Status} {level : Level}

theorem notified_locked (h : p.state = .locked) : p.notified deferral status level = p.seeing status level := by
  rw [Point.notified, h]

/-- A HELD point stays while a hold cause remains, and is evaluated otherwise (R57, R58). -/
theorem notified_held (h : p.state = .held) :
    p.notified deferral status level =
      if p.hostHold = true ∨ status ≠ .active then p.seeing status level else (p.seeing status level).evaluate := by
  have cause : (p.seeing status level).holdCause = true ↔ p.hostHold = true ∨ status ≠ .active := by
    simp [Point.holdCause, Point.seeing]
  simp only [Point.notified, h, cause]

theorem evaluate_exhausted (hold : p.hostHold = false) (view : p.view = some (.active, .exhausted)) :
    p.evaluate = p.toCut := by
  simp [Point.evaluate, Point.holdCause, hold, view]

theorem evaluate_better (hold : p.hostHold = false) (view : p.view = some (.active, level)) (h : level ≠ .exhausted) :
    p.evaluate = p.toLive := by
  cases level <;> simp [Point.evaluate, Point.holdCause, hold, view] at h ⊢

/-- LIVE, GRACE, CUT and AWAITING: a slot that is not ACTIVE holds the point. -/
theorem notified_inactive (detached : p.state ≠ .detached) (locked : p.state ≠ .locked) (held : p.state ≠ .held)
    (h : status ≠ .active) : p.notified deferral status level = (p.seeing status level).toHeld := by
  unfold Point.notified
  split
  case h_1 state => exact absurd state detached
  case h_2 state => exact absurd state locked
  case h_3 state => exact absurd state held
  all_goals exact if_neg h

/-- LIVE, GRACE, CUT and AWAITING: the point follows the level of an ACTIVE slot. -/
theorem notified_active (detached : p.state ≠ .detached) (locked : p.state ≠ .locked) (held : p.state ≠ .held) :
    p.notified deferral .active level = (p.seeing .active level).follow deferral level := by
  unfold Point.notified
  split
  case h_1 state => exact absurd state detached
  case h_2 state => exact absurd state locked
  case h_3 state => exact absurd state held
  all_goals exact if_pos rfl

theorem notified_live (h : p.state = .live) :
    p.notified deferral .active level =
      if level = .exhausted then (p.seeing .active level).enterGrace deferral else p.seeing .active level := by
  rw [notified_active deferral (by simp [h]) (by simp [h]) (by simp [h])]
  simp only [Point.follow, Point.seeing, h]

theorem notified_grace (h : p.state = .grace) :
    p.notified deferral .active level =
      if level = .exhausted then p.seeing .active level else (p.seeing .active level).toLive := by
  rw [notified_active deferral (by simp [h]) (by simp [h]) (by simp [h])]
  simp only [Point.follow, Point.seeing, h]

theorem notified_cut (h : p.state = .cut) :
    p.notified deferral .active level =
      if level = .exhausted then p.seeing .active level else (p.seeing .active level).restored := by
  rw [notified_active deferral (by simp [h]) (by simp [h]) (by simp [h])]
  simp only [Point.follow, Point.seeing, h]

theorem notified_awaiting (h : p.state = .awaiting) :
    p.notified deferral .active level =
      if level = .exhausted then (p.seeing .active level).toCut else p.seeing .active level := by
  rw [notified_active deferral (by simp [h]) (by simp [h]) (by simp [h])]
  simp only [Point.follow, Point.seeing, h]

end Notice

/-- Settles O18: the rows of the table, state by state. -/
theorem noticeMovesPointByTable : Obligations.NoticeMovesPointByTable := by
  refine ⟨supplyOn_iff, fun deferral status level p => ?_⟩
  refine ⟨notified_of_detached _ _ _ _, notified_locked _, fun hd hl hh ha => notified_inactive _ hd hl hh ha,
    fun h ha => ?_, fun h ha hold => ?_, fun h ha hold hl => ?_, fun h ha hold hl => ?_, fun h ha hl => ?_,
    fun h ha hl hg => ?_, fun h ha hl hg hd => ?_, fun h ha hl => ?_, fun h ha hl => ?_, fun h ha hl => ?_,
    fun h ha hl hr => ?_, fun h ha hl hr => ?_, fun h ha hl => ?_, fun h ha hl => ?_⟩
  · rw [notified_held _ h, if_pos (.inr ha)]; rfl
  · rw [notified_held _ h, if_pos (.inl hold)]; rfl
  · subst ha; rw [notified_held _ h, if_neg (by simp [hold])]
    exact evaluate_better (p := p.seeing .active level) hold rfl hl
  · subst ha hl; rw [notified_held _ h, if_neg (by simp [hold])]
    exact evaluate_exhausted (p := p.seeing .active .exhausted) hold rfl
  · subst ha; rw [notified_live _ h, if_neg hl]; rfl
  · subst ha; rw [notified_live _ h, if_pos hl, Point.enterGrace, if_pos ?_]
    · rfl
    · rcases hg with hg | hg <;> simp [Point.seeing, hg]
  · subst ha; rw [notified_live _ h, if_pos hl, Point.enterGrace, if_neg (by simp [Point.seeing, hg, hd])]; rfl
  · subst ha; rw [notified_grace _ h, if_pos hl]; rfl
  · subst ha; rw [notified_grace _ h, if_neg hl]; rfl
  · subst ha; rw [notified_cut _ h, if_pos hl]; rfl
  · subst ha; rw [notified_cut _ h, if_neg hl, Point.restored]; simp only [Point.seeing, hr]; rfl
  · subst ha; rw [notified_cut _ h, if_neg hl, Point.restored]; simp only [Point.seeing, hr]; rfl
  · subst ha; rw [notified_awaiting _ h, if_neg hl]; rfl
  · subst ha; rw [notified_awaiting _ h, if_pos hl]; rfl

end Sys2Proof.Machine.Proofs

namespace Sys2Proof.Machine.Proofs

open Sys2Proof Sys2Proof.Machine Sys2Proof.Machine.Laws

/-! ### Staged fields out of range (R66, R116, R203) -/

theorem tariffIndex_eq_none_iff (n : Nat) : tariffIndex n = none ↔ 8 ≤ n := by
  simp [tariffIndex]

theorem slotField_eq_none_iff (w : Word) : slotField w = none ↔ 64 ≤ bits w 0 8 := by
  unfold slotField lowByte
  split_ifs <;> simp only [false_iff, true_iff] <;> omega

theorem pointField_eq_none_iff (w : Word) : pointField w = none ↔ 16 ≤ bits w 0 8 := by
  unfold pointField lowByte
  split_ifs <;> simp only [false_iff, true_iff] <;> omega

theorem forceField_eq_none_iff (w : Word) : forceField w = none ↔ 2 ≤ bits w 0 8 := by
  unfold forceField lowByte
  split_ifs <;> simp only [false_iff, true_iff] <;> omega

theorem repairStatus_eq_none_iff (code : Nat) : repairStatus code = none ↔ code = 0 ∨ 3 ≤ code := by
  unfold repairStatus
  split_ifs <;> simp only [false_iff, true_iff] <;> omega

theorem balancePair_eq_none_iff (high low : Word) : balancePair high low = none ↔ amountPair high low = none := by
  unfold balancePair
  cases amountPair high low <;> simp

theorem selected_eq_none_iff {α : Type} (chosen : Bool) (field : Option α) :
    selected chosen field = none ↔ chosen = true ∧ field = none := by
  cases chosen <;> simp [selected]

theorem testBit_lowByte (w : Word) {i : Nat} (h : i < 8) : (lowByte w).testBit i = w.getLsbD i := by
  rw [lowByte, bits, pow_zero, Nat.div_one, Nat.testBit_mod_two_pow]
  simp [h, BitVec.getLsbD]

/-! ### Bad fields of a command (R115) -/

/-- OPEN's number 00000000 is no number (R117). -/
theorem openFields_eq_none {f : Vector Word 7}
    (h : digits8 f[0] = none ∨ digits8 f[0] = some 0 ∨ 8 ≤ bits f[1] 0 8 ∨ digits8 f[2] = none ∨ digits8 f[3] = none ∨
      amountPair f[4] f[5] = none) : openFields f = none := by
  refine Option.eq_none_iff_forall_ne_some.mpr fun o ho => ?_
  simp only [openFields, Option.bind_eq_bind, Option.bind_eq_some_iff] at ho
  obtain ⟨number, hn, tariff, ht, ec, he, low, hl, amount, ha, ho⟩ := ho
  have index : ¬8 ≤ bits f[1] 0 8 := fun c => by simp [(tariffIndex_eq_none_iff (lowByte f[1])).mpr c] at ht
  have zero : number = 0 := by simpa [hn, he, hl, ha, index] using h
  simp [zero] at ho

theorem debitFields_eq_none_iff (f : Vector Word 7) :
    debitFields f = none ↔ digits8 f[0] = none ∨ amountPair f[1] f[2] = none ∨ 2 ≤ bits f[3] 0 8 := by
  rw [← forceField_eq_none_iff]
  unfold debitFields
  rcases digits8 f[0] with _ | number
  · simp
  rcases amountPair f[1] f[2] with _ | amount
  · simp
  rcases forceField f[3] with _ | force
  · simp
  · simp

theorem debitFields_number {f : Vector Word 7} {number amount : Nat} {force : Bool}
    (h : debitFields f = some (number, amount, force)) : digits8 f[0] = some number := by
  simp only [debitFields, Option.bind_eq_bind, Option.bind_eq_some_iff] at h
  obtain ⟨n, hn, a, -, b, -, h⟩ := h
  cases h
  exact hn

theorem scanFields_eq_none {f : Vector Word 7}
    (h : digits8 f[2] = none ∨ 4 ≤ bits f[3] 0 8 ∨ 16 ≤ bits f[4] 0 8) : scanFields f = none := by
  refine Option.eq_none_iff_forall_ne_some.mpr fun x hx => ?_
  simp only [scanFields, Option.bind_eq_bind, Option.bind_eq_some_iff] at hx
  obtain ⟨pattern, hp, hx⟩ := hx
  split at hx
  · rename_i filters
    unfold lowByte at filters
    rcases h with h | h | h
    · simp [hp] at h
    · omega
    · omega
  · cases hx

/-- A field that AMEND's selection names is out of range, or the selection, or the number. -/
def AmendBad (f : Vector Word 7) : Prop :=
  digits8 f[0] = none ∨ 8 ≤ bits f[1] 0 8 ∨ (f[1].getLsbD 0 = true ∧ 8 ≤ bits f[2] 0 8) ∨
    (f[1].getLsbD 1 = true ∧ digits8 f[3] = none) ∨ (f[1].getLsbD 2 = true ∧ digits8 f[4] = none)

theorem amendFields_eq_none_iff (f : Vector Word 7) : amendFields f = none ↔ AmendBad f := by
  have tariff : selected ((lowByte f[1]).testBit 0) (tariffIndex (lowByte f[2])) = none ↔
      f[1].getLsbD 0 = true ∧ 8 ≤ bits f[2] 0 8 := by
    rw [selected_eq_none_iff, testBit_lowByte _ (by omega), tariffIndex_eq_none_iff, lowByte]
  have ec : selected ((lowByte f[1]).testBit 1) (digits8 f[3]) = none ↔ f[1].getLsbD 1 = true ∧ digits8 f[3] = none := by
    rw [selected_eq_none_iff, testBit_lowByte _ (by omega)]
  have low : selected ((lowByte f[1]).testBit 2) (digits8 f[4]) = none ↔ f[1].getLsbD 2 = true ∧ digits8 f[4] = none := by
    rw [selected_eq_none_iff, testBit_lowByte _ (by omega)]
  unfold AmendBad
  rw [← tariff, ← ec, ← low, amendFields, lowByte]
  generalize selected _ (tariffIndex _) = t, selected _ (digits8 f[3]) = e, selected _ (digits8 f[4]) = l
  rcases digits8 f[0] with _ | number
  · simp
  rcases t with _ | t
  · simp
  rcases e with _ | e
  · simp
  rcases l with _ | l
  · simp
  · simp

theorem amendFields_number {f : Vector Word 7} {x : AmendFields} (h : amendFields f = some x) :
    digits8 f[0] = some x.number := by
  simp only [amendFields, Option.bind_eq_bind, Option.bind_eq_some_iff] at h
  obtain ⟨number, hn, tariff, -, ec, -, low, -, h⟩ := h
  split at h <;> cases h
  exact hn

/-- REPAIR's number 00000000 is no number, and its status is 1 or 2 (R130). -/
theorem repairFields_eq_none {f : Vector Word 7}
    (h : 64 ≤ bits f[0] 0 8 ∨ digits8 f[1] = none ∨ digits8 f[1] = some 0 ∨ amountPair f[2] f[3] = none ∨
      digits8 f[4] = none ∨ digits8 f[5] = none ∨ 8 ≤ bits f[6] 0 8 ∨ bits f[6] 8 8 = 0 ∨ 3 ≤ bits f[6] 8 8) :
    repairFields f = none := by
  rw [← slotField_eq_none_iff, ← balancePair_eq_none_iff, ← repairStatus_eq_none_iff] at h
  refine Option.eq_none_iff_forall_ne_some.mpr fun x hx => ?_
  simp only [repairFields, Option.bind_eq_bind, Option.bind_eq_some_iff] at hx
  obtain ⟨slot, hs, number, hn, balance, hb, ec, he, low, hl, tariff, ht, status, hst, hx⟩ := hx
  have index : ¬8 ≤ bits f[6] 0 8 := fun c => by simp [(tariffIndex_eq_none_iff (lowByte f[6])).mpr c] at ht
  have zero : number = 0 := by simpa [hs, hn, hb, he, hl, index, hst] using h
  simp [zero] at hx

/-! ### Refusals of the commands that name one account (R115, R116) -/

theorem withAccount_unknown {s : State} {number : Nat} (f : Fin 64 → State × Answer) (h : s.lookup number = none) :
    s.withAccount number f = (s, numberAnswer .notFound number) := by
  simp [State.withAccount, h]

/-- The effect of a command that names one account refuses, with no change, staged fields that are bad, and a number that
leads to no account. -/
structure NumberRefused (effect : Vector Word 7 → State → State × Answer) (bad : Vector Word 7 → Prop) : Prop where
  badField : ∀ f s, bad f → effect f s = (s, Machine.badField)
  notFound : ∀ f s number, ¬bad f → digits8 f[0] = some number → s.lookup number = none →
    effect f s = (s, numberAnswer .notFound number)

theorem closeEffect_refuses : NumberRefused closeEffect fun f => digits8 f[0] = none where
  badField f s h := by simp only [closeEffect, h]
  notFound f s number _ hn hl := by simp only [closeEffect, hn, withAccount_unknown _ hl]

theorem queryEffect_refuses : NumberRefused queryEffect fun f => digits8 f[0] = none where
  badField f s h := by simp only [queryEffect, h]
  notFound f s number _ hn hl := by simp only [queryEffect, hn, withAccount_unknown _ hl]

theorem statusEffect_refuses (status : Status) : NumberRefused (statusEffect status) fun f => digits8 f[0] = none where
  badField f s h := by simp only [statusEffect, h]
  notFound f s number _ hn hl := by simp only [statusEffect, hn, withAccount_unknown _ hl]

theorem creditEffect_refuses :
    NumberRefused creditEffect fun f => digits8 f[0] = none ∨ amountPair f[1] f[2] = none where
  badField f s h := by
    unfold creditEffect
    split
    · rename_i hn ha; simp [hn, ha] at h
    · rfl
  notFound f s number good hn hl := by
    rw [not_or, ← ne_eq, ← ne_eq, Option.ne_none_iff_exists', Option.ne_none_iff_exists'] at good
    obtain ⟨-, amount, ha⟩ := good
    simp only [creditEffect, hn, ha, withAccount_unknown _ hl]

theorem debitEffect_refuses :
    NumberRefused debitEffect fun f =>
      digits8 f[0] = none ∨ amountPair f[1] f[2] = none ∨ 2 ≤ bits f[3] 0 8 where
  badField f s h := by simp only [debitEffect, (debitFields_eq_none_iff f).mpr h]
  notFound f s number good hn hl := by
    rw [← debitFields_eq_none_iff, ← ne_eq, Option.ne_none_iff_exists'] at good
    obtain ⟨⟨found, amount, force⟩, hx⟩ := good
    obtain rfl : number = found := Option.some.inj (hn.symm.trans (debitFields_number hx))
    simp only [debitEffect, hx, withAccount_unknown _ hl]

theorem amendEffect_refuses : NumberRefused amendEffect AmendBad where
  badField f s h := by simp only [amendEffect, (amendFields_eq_none_iff f).mpr h]
  notFound f s number good hn hl := by
    rw [← amendFields_eq_none_iff, ← ne_eq, Option.ne_none_iff_exists'] at good
    obtain ⟨x, hx⟩ := good
    obtain rfl : number = x.number := Option.some.inj (hn.symm.trans (amendFields_number hx))
    simp only [amendEffect, hx, withAccount_unknown _ hl]

/-- The operation of an executing command whose effect changes nothing is answered, and nothing else happens (R114). -/
theorem completeCommand_unchanged {s : State} {code : Byte} {cmd : QueuedCommand} {a : Answer}
    {effect : Vector Word 7 → State → State × Answer} (g : Granted s code cmd)
    (h : effect cmd.params s.freeEngine = (s.freeEngine, a)) :
    s.completeCommand code effect = answered s (resultOf cmd a) := by
  obtain ⟨hop, rfl⟩ := g
  rw [completeCommand_owned s cmd effect hop, h]
  rfl

theorem NumberRefused.answered {effect : Vector Word 7 → State → State × Answer} {bad : Vector Word 7 → Prop}
    (r : NumberRefused effect bad) {c : Instr} {s : State} {code : Byte} {cmd : QueuedCommand} (g : Granted s code cmd)
    (hc : exec c s = .next (s.completeCommand code effect)) :
    (bad cmd.params → exec c s = .next (Machine.answered s (plainResult cmd .badField))) ∧
      ∀ number, ¬bad cmd.params → digits8 cmd.params[0] = some number → s.lookup number = none →
        exec c s = .next (Machine.answered s { plainResult cmd .notFound with number := bcdWord number }) := by
  rw [hc]
  refine ⟨fun h => ?_, fun number good hn hl => ?_⟩
  · rw [completeCommand_unchanged g (r.badField _ _ h)]; rfl
  · rw [completeCommand_unchanged g (r.notFound _ _ number good hn hl)]; rfl

/-- A command whose one field is the number: a number that is read is no bad field. -/
theorem NumberRefused.answered_number {effect : Vector Word 7 → State → State × Answer}
    (r : NumberRefused effect fun f => digits8 f[0] = none) {c : Instr} {s : State} {code : Byte} {cmd : QueuedCommand}
    (g : Granted s code cmd) (hc : exec c s = .next (s.completeCommand code effect)) :
    (digits8 cmd.params[0] = none → exec c s = .next (Machine.answered s (plainResult cmd .badField))) ∧
      ∀ number, digits8 cmd.params[0] = some number → s.lookup number = none →
        exec c s = .next (Machine.answered s { plainResult cmd .notFound with number := bcdWord number }) := by
  obtain ⟨refused, unknown⟩ := r.answered g hc
  exact ⟨refused, fun number hn => unknown number (by simp [hn]) hn⟩

/-- A bad field of a command that the engine serves. -/
theorem badField_answered {effect : Vector Word 7 → State → State × Answer} {c : Instr} {s : State} {code : Byte}
    {cmd : QueuedCommand} (g : Granted s code cmd) (hc : exec c s = .next (s.completeCommand code effect))
    (h : effect cmd.params s.freeEngine = (s.freeEngine, badField)) :
    exec c s = .next (answered s (plainResult cmd .badField)) := by
  rw [hc, completeCommand_unchanged g h]
  rfl

/-- HOLD and RELEASE of a point above 15 (R66). -/
theorem badPoint_replied {effect : Vector Word 7 → State → State × Answer} {c : Instr} {s : State} {code : Byte}
    {cmd : QueuedCommand} (hd : Handed s code cmd) (hc : exec c s = .next (s.takeCommand code effect))
    (h : effect cmd.params s = (s, { status := .badField })) :
    exec c s = .next (replied s (plainResult cmd .badField)) := by
  obtain ⟨hx, rfl⟩ := hd
  rw [hc, takeCommand_handed s cmd effect hx, h]
  rfl

theorem withBoundPoint_badField {s : State} {field : Word} (f : Fin 16 → State × Answer) (h : 16 ≤ bits field 0 8) :
    s.withBoundPoint field f = (s, { status := .badField }) := by
  simp only [State.withBoundPoint, State.withPoint, (pointField_eq_none_iff field).mpr h]

/-- Settles O24: what each effect refuses, answered by the completion of its operation. -/
theorem numberRefusalsChangeNothing : Obligations.NumberRefusalsChangeNothing := by
  refine ⟨fun c code hc s cmd g => ?_, fun s cmd g => creditEffect_refuses.answered g rfl,
    fun s cmd g => debitEffect_refuses.answered g rfl, fun s cmd g => amendEffect_refuses.answered g rfl,
    fun s cmd g bad => badField_answered g rfl ?_, fun s cmd g bad => badField_answered g rfl ?_,
    fun s cmd g bad => badField_answered g rfl ?_, fun s cmd g bad => badField_answered g rfl ?_,
    fun c code hc s cmd hd bad => ?_⟩
  · simp only [List.mem_cons, Prod.mk.injEq, List.not_mem_nil, or_false] at hc
    rcases hc with ⟨rfl, rfl⟩ | ⟨rfl, rfl⟩ | ⟨rfl, rfl⟩ | ⟨rfl, rfl⟩
    · exact closeEffect_refuses.answered_number g rfl
    · exact queryEffect_refuses.answered_number g rfl
    · exact (statusEffect_refuses .suspended).answered_number g rfl
    · exact (statusEffect_refuses .active).answered_number g rfl
  · simp only [openEffect, openFields_eq_none bad]
  · simp only [scanEffect, scanFields_eq_none bad]
  · simp only [repairEffect, repairFields_eq_none bad]
  · simp only [discardEffect, (slotField_eq_none_iff _).mpr bad]
  · simp only [List.mem_cons, Prod.mk.injEq, List.not_mem_nil, or_false] at hc
    rcases hc with ⟨rfl, rfl⟩ | ⟨rfl, rfl⟩
    · exact badPoint_replied hd rfl (withBoundPoint_badField _ bad)
    · exact badPoint_replied hd rfl (withBoundPoint_badField _ bad)

end Sys2Proof.Machine.Proofs

namespace Sys2Proof.Machine.Proofs

open Sys2Proof Sys2Proof.Machine Sys2Proof.Machine.Laws

/-! ### The end of a WAIT and its re-test (R108, R109) -/

theorem endWait_eq (s : State) (cmd : QueuedCommand) (w : WaitState) (status : ResultStatus) :
    s.endWait cmd w status = waitEnded s cmd w status := rfl

/-- The re-test of an executing WAIT: it is DONE when every chosen condition holds, and waits on otherwise (R108). -/
theorem retestWait_waiting {s : State} {cmd : QueuedCommand} {w : WaitState}
    (h : s.proc.executing = some { cmd, phase := .waiting w }) :
    s.retestWait =
      if w.conditions &&& s.conditionsHeld = w.conditions then waitEnded s cmd w .done else s := by
  simp only [State.retestWait, h, State.waitMet, beq_iff_eq, endWait_eq]

/-! ### Counts at their ends (R60, R108, R174) -/

theorem exec_graceExpiry {s : State} (ho : s.operating = true) (p : Fin 16) :
    exec (.graceExpiry p) s = .next (s.setPoint p ((s.point p).graceExpired s.points.deferral)) := by
  simp only [exec, execGraceExpiry, if_pos ho]

theorem graceExpired_off (p : Point) :
    p.graceExpired false =
      if p.state = .grace ∧ p.graceRemaining = 0 then
        { p with state := .cut, graceRemaining := 0, flags := { p.flags with cut := true } }
      else p := by
  simp only [Point.graceExpired, and_true, Point.toCut]

theorem graceExpired_cut {p : Point} (state : p.state = .grace) (remaining : p.graceRemaining = 0) :
    p.graceExpired false = { p with state := .cut, flags := { p.flags with cut := true } } := by
  rw [graceExpired_off, if_pos ⟨state, remaining⟩, ← remaining]

theorem graceExpired_deferred (p : Point) : p.graceExpired true = p :=
  if_neg fun h => absurd h.2.2 (by decide)

/-- SUPp is off at a point that is neither LIVE nor in GRACE (R56). -/
theorem supplyOff_of_state {s : State} {p : Fin 16} (h : (s.point p).state.supplies = false) : s.supplyOn p = false := by
  rw [State.supplyOn, h, Bool.and_false]

/-- SUPp is on at a point in GRACE while the part operates (R56). -/
theorem supplyOn_of_grace {s : State} (ho : s.operating = true) {p : Fin 16} (h : (s.point p).state = .grace) :
    s.supplyOn p = true := by
  refine (supplyOn_iff s p).mpr ⟨?_, .inr h⟩
  rcases (operating_iff s).mp ho with h | h | h <;> simp [h]

/-- Settles O12: each of the three rows at its count's end. -/
theorem endedCountsTakeEffect : Obligations.EndedCountsTakeEffect := by
  refine ⟨fun s p ho state remaining => ⟨_, exec_graceExpiry ho p, fun off => ?_, fun on => ?_, fun q hq =>
    point_setPoint_other s _ hq.symm, rfl, rfl, rfl, rfl, rfl⟩, fun s page r hr routine due absent => ?_,
    fun s cmd w hx timed ended => ?_⟩
  · rw [off, graceExpired_cut state remaining]
    have cut := point_setPoint_same s p
      { s.point p with state := .cut, flags := { (s.point p).flags with cut := true } }
    exact ⟨cut, supplyOff_of_state (congrArg (·.state.supplies) cut)⟩
  · rw [on, graceExpired_deferred]
    have still : (s.setPoint p (s.point p)).point p = s.point p := point_setPoint_same ..
    exact ⟨still, supplyOn_of_grace (s := s.setPoint p _) ho ((congrArg Point.state still).trans state)⟩
  · simp only [exec, execRoutinePageEligible, hr, if_pos (And.intro routine due), joinEligible, if_neg absent]
  · simp only [exec, execWaitTimeout, hx, ne_eq, timed, ended, not_false_eq_true, and_self, if_true, endWait_eq,
      waitEnded]
    rfl

/-! ### The command queue and the result queue (R96, R99, R104) -/

theorem ofNat_bits_eq_extract (w : Word) (low width : Nat) :
    BitVec.ofNat width (bits w low width) = w.extractLsb' low width := by
  refine BitVec.eq_of_toNat_eq ?_
  simp [bits, Nat.shiftRight_eq_div_pow]

theorem exec_submit {s : State} (h : s.run.runState ≠ .reset) (value : Word) :
    exec (.submit value) s = .next (s.submitted value) := by
  simp only [exec, execSubmit, served_of_run h, if_true]

theorem exec_pop {s : State} (h : s.run.runState ≠ .reset) (value : Word) : exec (.pop value) s = .next s.popped := by
  simp only [exec, execPop, served_of_run h, if_true]

theorem canStart_iff (s : State) :
    s.canStart = true ↔ s.run.runState = .run ∧ s.proc.executing = none ∧ s.proc.results.length < 16 := by
  rw [State.canStart, Bool.and_eq_true, Bool.and_eq_true, beq_iff_eq, Option.isNone_iff_eq_none, decide_eq_true_iff,
    and_assoc]
  rfl

theorem exec_commandStart {s : State} {cmd : QueuedCommand} {rest : List QueuedCommand} (h : s.proc.queue = cmd :: rest) :
    exec .commandStart s = .next
      (if s.canStart then
        { s with proc := { s.proc with queue := rest, executing := some { cmd, phase := s.startPhase cmd } } }
      else s) := by
  simp only [exec, execCommandStart, h]

theorem startPhase_account {cmd : QueuedCommand} (s : State) (low : 1 ≤ cmd.code.toNat) (high : cmd.code.toNat ≤ 0x0E) :
    s.startPhase cmd = .requested := by
  simp [State.startPhase, isAccountCommand, low, high]

/-- BIND requests its operation when its point is admitted, and is handed over otherwise (R67). -/
theorem startPhase_bind {cmd : QueuedCommand} (s : State) (h : cmd.code = 0x10) :
    s.startPhase cmd = if s.bindAdmitted cmd then .requested else .handed := by
  have account : isAccountCommand cmd.code.toNat = false := by rw [h]; rfl
  rw [State.startPhase, account, if_neg Bool.false_ne_true]
  simp only [h, true_and]

theorem startPhase_handed {cmd : QueuedCommand} (s : State) (h : 0x11 ≤ cmd.code.toNat) : s.startPhase cmd = .handed := by
  have account : isAccountCommand cmd.code.toNat = false := by simp [isAccountCommand]; omega
  have bind : cmd.code ≠ 0x10 := fun c => by rw [c] at h; exact absurd h (by decide)
  rw [State.startPhase, account, if_neg Bool.false_ne_true, if_neg fun c => bind c.1]

theorem bindAdmitted_iff (s : State) (cmd : QueuedCommand) :
    s.bindAdmitted cmd = true ↔ ∃ p, pointField cmd.params[0] = some p ∧ (s.point p).state = .detached := by
  unfold State.bindAdmitted
  cases pointField cmd.params[0] <;> simp

/-- Settles O20: SUBMIT, the start of the head command by its phase, and POP. -/
theorem queueSubmitStartPop : Obligations.QueueSubmitStartPop := by
  refine ⟨fun s value hr => ⟨fun room => ?_, fun full => ?_⟩, fun s cmd rest hq => ⟨fun run idle room => ?_, fun held => ?_⟩,
    fun s value hr => ⟨fun r rest hres => ?_, fun hres => ?_⟩⟩
  · rw [exec_submit hr, State.submitted, if_pos (show _ < Config.queueSize from room),
      ofNat_bits_eq_extract, ofNat_bits_eq_extract]
  · rw [exec_submit hr, State.submitted, if_neg (show ¬_ < Config.queueSize from Nat.not_lt.mpr full)]
  · rw [exec_commandStart hq, if_pos ((canStart_iff s).mpr ⟨run, idle, room⟩)]
    refine ⟨_, rfl, startPhase_account s, fun bind => ?_, startPhase_handed s⟩
    rw [startPhase_bind s bind]
    refine ⟨fun p hp detached => if_pos ((bindAdmitted_iff s cmd).mpr ⟨p, hp, detached⟩), fun refused => if_neg ?_⟩
    rw [bindAdmitted_iff]
    rintro ⟨p, hp, detached⟩
    exact refused p hp detached
  · have waits : ¬s.canStart = true := by
      rw [canStart_iff]
      rintro ⟨run, idle, room⟩
      rcases held with h | h | h
      · exact h run
      · exact h idle
      · omega
    rw [exec_commandStart hq, if_neg waits]
  · simp only [exec_pop hr, State.popped, hres]
  · simp only [exec_pop hr, State.popped, hres]

end Sys2Proof.Machine.Proofs

namespace Sys2Proof.Machine.Proofs

open Sys2Proof Sys2Proof.Machine Sys2Proof.Machine.Laws

/-! ### Commands of points: the point, the answer, the report (R66, R100, R102) -/

/-- A command that its block answers in the step it is taken: its effect, then its result (R100). -/
theorem takeCommand_replied {s : State} {code : Byte} {cmd : QueuedCommand} (h : Handed s code cmd)
    (effect : Vector Word 7 → State → State × Answer) :
    s.takeCommand code effect = replied (effect cmd.params s).1 (resultOf cmd (effect cmd.params s).2) := by
  obtain ⟨hx, rfl⟩ := h
  exact takeCommand_handed s cmd effect hx

/-- A command that changes nothing but its own end, its answer given. -/
theorem takeCommand_unchanged {effect : Vector Word 7 → State → State × Answer} {c : Instr} {s : State} {code : Byte}
    {cmd : QueuedCommand} {a : Answer} (hd : Handed s code cmd) (hc : exec c s = .next (s.takeCommand code effect))
    (h : effect cmd.params s = (s, a)) : exec c s = .next (replied s (resultOf cmd a)) := by
  rw [hc, takeCommand_replied hd, h]

/-- A command that writes one point and answers DONE with the point as written. -/
theorem takeCommand_pointWritten {effect : Vector Word 7 → State → State × Answer} {c : Instr} {s : State} {code : Byte}
    {cmd : QueuedCommand} {p : Fin 16} {r : Point} (hd : Handed s code cmd)
    (hc : exec c s = .next (s.takeCommand code effect))
    (h : effect cmd.params s = (s.setPoint p r, (s.setPoint p r).pointAnswer .done p)) :
    exec c s = .next (replied (s.setPoint p r) (pointResult cmd .done p r)) := by
  rw [hc, takeCommand_replied hd, h, State.pointAnswer, point_setPoint_same]
  rfl

/-- The operation of an executing command: its effect on the freed engine, then its result (R114). -/
theorem completeCommand_replied {s : State} {code : Byte} {cmd : QueuedCommand} (g : Granted s code cmd)
    (effect : Vector Word 7 → State → State × Answer) :
    s.completeCommand code effect =
      replied (effect cmd.params s.freeEngine).1 (resultOf cmd (effect cmd.params s.freeEngine).2) := by
  obtain ⟨hop, rfl⟩ := g
  exact completeCommand_owned s cmd effect hop

theorem withPoint_of_none {s : State} {field : Word} (h : pointField field = none) (f : Fin 16 → State × Answer) :
    s.withPoint field f = (s, { status := .badField }) := by
  simp only [State.withPoint, h]

theorem withPoint_of_some {s : State} {field : Word} {p : Fin 16} (h : pointField field = some p)
    (f : Fin 16 → State × Answer) : s.withPoint field f = f p := by
  simp only [State.withPoint, h]

theorem withBoundPoint_of_detached {s : State} {field : Word} {p : Fin 16} (h : pointField field = some p)
    (state : (s.point p).state = .detached) (f : Fin 16 → State × Answer) :
    s.withBoundPoint field f = (s, s.pointAnswer .wrongState p) := by
  rw [State.withBoundPoint, withPoint_of_some h, if_pos state]

theorem withBoundPoint_of_bound {s : State} {field : Word} {p : Fin 16} (h : pointField field = some p)
    (state : (s.point p).state ≠ .detached) (f : Fin 16 → State × Answer) : s.withBoundPoint field f = f p := by
  rw [State.withBoundPoint, withPoint_of_some h, if_neg state]

/-! ### Evaluate-on-release, HOLD and RELEASE (R58, R74, R75) -/

/-- A point with no view of an ACTIVE slot is HELD on release (R57, R58). -/
theorem evaluate_inactive {p : Point} (h : ∀ level, p.view ≠ some (.active, level)) : p.evaluate = p.toHeld := by
  have cause : p.holdCause = true := by
    rw [← Bool.not_eq_false, holdCause_eq_false_iff]
    rintro ⟨-, level, view⟩
    exact h level view
  rw [Point.evaluate, if_pos cause]

/-- HOLD leaves a LOCKED or a HELD point in its state, and takes every other bound one to HELD (R74). -/
theorem held_eq {p : Point} (h : p.state ≠ .detached) :
    p.held = { p with
      hostHold := true
      state := if p.state = .locked then .locked else .held
      graceRemaining := if p.state = .locked ∨ p.state = .held then p.graceRemaining else 0 } := by
  unfold Point.held
  cases state : p.state
  case detached => exact absurd state h
  all_goals simp [Point.toHeld]

/-- HELD, LOCKED and AWAITING are the states that RELEASE leaves by evaluate-on-release (R75). -/
theorem released_leaves {p : Point} (h : p.state = .held ∨ p.state = .locked ∨ p.state = .awaiting) :
    p.released = Point.evaluate { p with hostHold := false } := by
  rcases h with h | h | h <;> simp only [Point.released, h]

theorem released_stays {p : Point} (h : ¬(p.state = .held ∨ p.state = .locked ∨ p.state = .awaiting)) :
    p.released = { p with hostHold := false } := by
  unfold Point.released
  split
  case h_1 state => exact absurd (.inl state) h
  case h_2 state => exact absurd (.inr (.inl state)) h
  case h_3 state => exact absurd (.inr (.inr state)) h
  all_goals rfl

/-- A released point whose slot is not ACTIVE is HELD (R58). -/
theorem released_inactive {p : Point} (h : p.state = .held ∨ p.state = .locked ∨ p.state = .awaiting)
    (inactive : ∀ level, p.view ≠ some (.active, level)) :
    p.released = { p with hostHold := false, state := .held, graceRemaining := 0 } :=
  (released_leaves h).trans (evaluate_inactive (p := { p with hostHold := false }) inactive)

/-- A released point at EXHAUSTED is CUT, with its flag (R58). -/
theorem released_exhausted {p : Point} (h : p.state = .held ∨ p.state = .locked ∨ p.state = .awaiting)
    (exhausted : p.view = some (.active, .exhausted)) :
    p.released =
      { p with hostHold := false, state := .cut, graceRemaining := 0, flags := { p.flags with cut := true } } :=
  (released_leaves h).trans (evaluate_exhausted (p := { p with hostHold := false }) rfl exhausted)

/-- A released point at a better level is LIVE (R58). -/
theorem released_better {p : Point} {level : Level} (h : p.state = .held ∨ p.state = .locked ∨ p.state = .awaiting)
    (view : p.view = some (.active, level)) (better : level ≠ .exhausted) :
    p.released = { p with hostHold := false, state := .live, graceRemaining := 0 } :=
  (released_leaves h).trans (evaluate_better (p := { p with hostHold := false }) rfl view better)

/-! ### SET_DEFER (R69) -/

theorem setDeferral_on (s : State) : s.setDeferral true = { s with points := { s.points with deferral := true } } := by
  unfold State.setDeferral
  split
  · rename_i h; rw [h]
  · rfl

/-- Deferral that was off stays off, and no point moves. -/
theorem setDeferral_off_of_off {s : State} (h : s.points.deferral = false) : s.setDeferral false = s := by
  rw [State.setDeferral, if_pos h.symm]

/-- Turning deferral off cuts the points whose grace has run out. -/
theorem setDeferral_off_of_on {s : State} (h : s.points.deferral = true) :
    s.setDeferral false =
      { s with points := { s.points with
        points := s.points.points.map (Point.graceExpired false), deferral := false } } := by
  rw [State.setDeferral, h]
  rfl

theorem setDeferral_off_point (s : State) (p : Fin 16) :
    (s.setDeferral false).point p =
      if s.points.deferral = true ∧ (s.point p).state = .grace ∧ (s.point p).graceRemaining = 0 then
        { s.point p with state := .cut, graceRemaining := 0, flags := { (s.point p).flags with cut := true } }
      else s.point p := by
  cases h : s.points.deferral
  · rw [setDeferral_off_of_off h, if_neg fun c => Bool.false_ne_true c.1]
  · rw [setDeferral_off_of_on h]
    change (s.mapPoints (Point.graceExpired false)).point p = _
    simp only [point_mapPoints, graceExpired_off, true_and]

/-- What turning deferral off leaves as it is. -/
theorem setDeferral_off_frame (s : State) :
    CommandFrame s (s.setDeferral false) ∧ (s.setDeferral false).engine = s.engine ∧
      (s.setDeferral false).commit = s.commit ∧ (s.setDeferral false).proc = s.proc ∧
      (s.setDeferral false).points.tally = s.points.tally ∧ (s.setDeferral false).points.deferral = false := by
  cases h : s.points.deferral
  · rw [setDeferral_off_of_off h]
    exact ⟨⟨rfl, rfl, rfl, rfl, rfl, rfl, rfl, rfl, rfl⟩, rfl, rfl, rfl, rfl, h⟩
  · rw [setDeferral_off_of_on h]
    exact ⟨⟨rfl, rfl, rfl, rfl, rfl, rfl, rfl, rfl, rfl⟩, rfl, rfl, rfl, rfl, rfl⟩

theorem exec_setDefer {s : State} {cmd : QueuedCommand} (hd : Handed s 0x16 cmd) {on : Bool}
    (h : forceField cmd.params[0] = some on) :
    exec .setDefer s =
      .next (replied (s.setDeferral on) { plainResult cmd .done with extraA := if on then 1 else 0 }) := by
  simp only [exec, execSetDefer, takeCommand_replied hd, setDeferEffect, h]
  rfl

/-- Settles O36: HOLD, RELEASE by where evaluate-on-release leads, and SET_DEFER at each code. -/
theorem holdReleaseAndDeferAct : Obligations.HoldReleaseAndDeferAct := by
  refine ⟨fun s cmd p hd hp => ⟨fun state => ?_, fun state => ?_⟩, fun s cmd p hd hp => ?_,
    fun s cmd hd => ⟨fun bad => ?_, fun one => ?_, fun zero => ?_⟩⟩
  · exact (takeCommand_unchanged (c := .hold) (effect := holdEffect) hd rfl (withBoundPoint_of_detached hp state _) :)
  · rw [← held_eq state]
    exact takeCommand_pointWritten (effect := holdEffect) hd rfl (withBoundPoint_of_bound hp state _)
  · have bound : (s.point p).state = .held ∨ (s.point p).state = .locked ∨ (s.point p).state = .awaiting →
        (s.point p).state ≠ .detached := by
      rintro (h | h | h) <;> rw [h] <;> decide
    have released (state : (s.point p).state ≠ .detached) : exec .release s =
        .next (replied (s.setPoint p (s.point p).released) (pointResult cmd .done p (s.point p).released)) :=
      takeCommand_pointWritten (effect := releaseEffect) hd rfl (withBoundPoint_of_bound hp state _)
    refine ⟨fun state => ?_, fun state stays => ?_, fun leaves inactive => ?_, fun leaves exhausted => ?_, fun level leaves better h => ?_⟩
    · exact (takeCommand_unchanged (c := .release) (effect := releaseEffect) hd rfl (withBoundPoint_of_detached hp state _) :)
    · rw [released state, released_stays stays]
      rfl
    · rw [released (bound leaves), released_inactive leaves inactive]
      rfl
    · rw [released (bound leaves), released_exhausted leaves exhausted]
      rfl
    · rw [released (bound leaves), released_better leaves better h]
      rfl
  · have refused : setDeferEffect cmd.params s = (s, { status := .badField }) := by
      simp only [setDeferEffect, (forceField_eq_none_iff _).mpr bad]
    exact (takeCommand_unchanged (c := .setDefer) hd rfl refused :)
  · rw [exec_setDefer hd (on := true) (by simp [forceField, one]), setDeferral_on]
    rfl
  · obtain ⟨frame, engine, commit, proc, tally, deferral⟩ := setDeferral_off_frame s
    refine ⟨_, exec_setDefer hd (on := false) (by simp [forceField, zero]), deferral, tally, engine, commit, frame, ?_,
      setDeferral_off_point s⟩
    simp only [Posted, replied, proc]
    rfl

end Sys2Proof.Machine.Proofs

namespace Sys2Proof.Machine.Proofs

open Sys2Proof Sys2Proof.Machine Sys2Proof.Machine.Laws

/-! ### The staged fields of CONFIGURE_POINT (R66, R73, R203) -/

theorem edgeMode_ofCode_eq_some_iff (n : Nat) (m : EdgeMode) : EdgeMode.ofCode n = some m ↔ m.code = n := by
  rcases n with _ | _ | _ | n <;> cases m <;> simp [EdgeMode.ofCode, EdgeMode.code]

theorem debounce_ofCode_eq_some_iff (n : Nat) (d : Debounce) : Debounce.ofCode n = some d ↔ d.code = n := by
  rcases n with _ | _ | _ | _ | n <;> cases d <;> simp [Debounce.ofCode, Debounce.code]

theorem restoreMode_ofCode_eq_some_iff (n : Nat) (m : RestoreMode) : RestoreMode.ofCode n = some m ↔ m.code = n := by
  rcases n with _ | _ | n <;> cases m <;> simp [RestoreMode.ofCode, RestoreMode.code]

theorem edgeMode_code_le_iff (n : Nat) : n ≤ 2 ↔ ∃ m : EdgeMode, m.code = n := by
  refine ⟨fun h => ?_, fun ⟨m, h⟩ => by subst h; cases m <;> decide⟩
  interval_cases n
  exacts [⟨.rise, rfl⟩, ⟨.fall, rfl⟩, ⟨.both, rfl⟩]

theorem debounce_code_le_iff (n : Nat) : n ≤ 3 ↔ ∃ d : Debounce, d.code = n := by
  refine ⟨fun h => ?_, fun ⟨d, h⟩ => by subst h; cases d <;> decide⟩
  interval_cases n
  exacts [⟨.ms0, rfl⟩, ⟨.ms1, rfl⟩, ⟨.ms4, rfl⟩, ⟨.ms16, rfl⟩]

theorem restoreMode_code_le_iff (n : Nat) : n ≤ 1 ↔ ∃ m : RestoreMode, m.code = n := by
  refine ⟨fun h => ?_, fun ⟨m, h⟩ => by subst h; cases m <;> decide⟩
  interval_cases n
  exacts [⟨.automatic, rfl⟩, ⟨.onCommand, rfl⟩]

/-- The staged codes are in range (R66). -/
def ConfigLegal (w : Word) : Prop :=
  bits w 0 8 ≤ 2 ∧ 1 ≤ bits w 8 8 ∧ bits w 8 8 ≤ 16 ∧ bits w 16 8 ≤ 3 ∧ bits w 24 8 ≤ 1

/-- A configuration has the five staged fields (R203). -/
structure ConfigStaged (f : Vector Word 7) (c : PointConfig) : Prop where
  edgeMode : c.edgeMode.code = bits f[1] 0 8
  prescale : c.prescale = bits f[1] 8 8
  debounce : c.debounce.code = bits f[1] 16 8
  restore : c.restore.code = bits f[1] 24 8
  grace : c.grace = bits f[2] 0 16

theorem configFields_eq_some_iff (f : Vector Word 7) (c : PointConfig) :
    configFields f = some c ↔ (1 ≤ bits f[1] 8 8 ∧ bits f[1] 8 8 ≤ 16) ∧ ConfigStaged f c := by
  simp only [configFields, Option.bind_eq_bind, Option.bind_eq_some_iff, edgeMode_ofCode_eq_some_iff,
    debounce_ofCode_eq_some_iff, restoreMode_ofCode_eq_some_iff, Option.ite_none_right_eq_some, Option.some.injEq]
  constructor
  · rintro ⟨edgeMode, he, debounce, hd, restore, hr, range, rfl⟩
    exact ⟨range, he, rfl, hd, hr, rfl⟩
  · rintro ⟨range, staged⟩
    refine ⟨c.edgeMode, staged.edgeMode, c.debounce, staged.debounce, c.restore, staged.restore, range, ?_⟩
    rw [← staged.prescale, ← staged.grace]

theorem configFields_of_legal {f : Vector Word 7} (h : ConfigLegal f[1]) :
    ∃ c, configFields f = some c ∧ ConfigStaged f c := by
  obtain ⟨he, low, high, hd, hr⟩ := h
  obtain ⟨edgeMode, he⟩ := (edgeMode_code_le_iff _).mp he
  obtain ⟨debounce, hd⟩ := (debounce_code_le_iff _).mp hd
  obtain ⟨restore, hr⟩ := (restoreMode_code_le_iff _).mp hr
  have staged : ConfigStaged f
      { edgeMode, prescale := bits f[1] 8 8, debounce, grace := bits f[2] 0 16, restore } := ⟨he, rfl, hd, hr, rfl⟩
  exact ⟨_, (configFields_eq_some_iff f _).mpr ⟨⟨low, high⟩, staged⟩, staged⟩

theorem configFields_of_illegal {f : Vector Word 7} (h : ¬ConfigLegal f[1]) : configFields f = none := by
  refine Option.eq_none_iff_forall_ne_some.mpr fun c hc => h ?_
  obtain ⟨⟨low, high⟩, staged⟩ := (configFields_eq_some_iff f c).mp hc
  exact ⟨(edgeMode_code_le_iff _).mpr ⟨_, staged.edgeMode⟩, low, high, (debounce_code_le_iff _).mpr ⟨_, staged.debounce⟩,
    (restoreMode_code_le_iff _).mpr ⟨_, staged.restore⟩⟩

/-! ### CONFIGURE_POINT and QUERY_POINT (R73, R76) -/

theorem exec_configurePoint {s : State} {cmd : QueuedCommand} (hd : Handed s 0x12 cmd) :
    exec .configurePoint s =
      .next (replied (configureEffect cmd.params s).1 (resultOf cmd (configureEffect cmd.params s).2)) :=
  congrArg _ (takeCommand_replied hd configureEffect)

theorem configureEffect_refused {f : Vector Word 7} {s : State} {p : Fin 16} (hp : pointField f[0] = some p)
    (h : configFields f = none) : configureEffect f s = (s, s.pointAnswer .badField p) := by
  simp only [configureEffect, withPoint_of_some hp, h]

/-- The point takes the configuration, and the settings page is reported. -/
theorem configureEffect_accepted {f : Vector Word 7} {s : State} {p : Fin 16} {c : PointConfig}
    (hp : pointField f[0] = some p) (h : configFields f = some c) :
    configureEffect f s =
      ((s.setPoint p ((s.point p).reconfigured c)).reportSettings,
        (s.setPoint p ((s.point p).reconfigured c)).pointAnswer .done p) := by
  simp only [configureEffect, withPoint_of_some hp, h]
  rfl

/-- Settles O35: the refusals, the five fields written, and QUERY_POINT's fields. -/
theorem configureWritesAndQueryReads : Obligations.ConfigureWritesAndQueryReads := by
  refine ⟨fun s cmd hd => ⟨fun bad => ?_, fun p hp => ⟨fun illegal => ?_, fun legal => ?_⟩⟩,
    fun s cmd hd => ⟨fun bad => ?_, fun p hp => ?_⟩⟩
  · exact (takeCommand_unchanged (c := .configurePoint) (effect := configureEffect) hd rfl (withPoint_of_none bad _) :)
  · have refused := configureEffect_refused (s := s) hp (configFields_of_illegal illegal)
    exact (takeCommand_unchanged (c := .configurePoint) hd rfl refused :)
  · obtain ⟨c, hc, staged⟩ := configFields_of_legal legal
    have configured : (s.setPoint p ((s.point p).reconfigured c)).point p = (s.point p).reconfigured c :=
      point_setPoint_same ..
    refine ⟨_, c, exec_configurePoint hd, staged.edgeMode, staged.prescale, staged.debounce, staged.restore, staged.grace,
      ?_⟩
    rw [configureEffect_accepted hp hc, State.pointAnswer, configured]
    exact ⟨configured, fun q hq => point_setPoint_other s _ hq.symm, rfl, rfl, rfl,
      report_urgent (s := s.setPoint p _) 8 rfl, report_commitKept (s.setPoint p _) 8 true,
      ⟨rfl, rfl, rfl, rfl, rfl, rfl, rfl, rfl, rfl⟩, rfl⟩
  · exact (takeCommand_unchanged (c := .queryPoint) (effect := queryPointEffect) hd rfl (withPoint_of_none bad _) :)
  · rw [takeCommand_unchanged (c := .queryPoint) (effect := queryPointEffect) hd rfl (withPoint_of_some hp _)]
    cases (s.point p).binding <;> rfl

/-! ### BIND (R67, R40) -/

theorem exec_bind {s : State} {cmd : QueuedCommand} (g : Granted s 0x10 cmd) :
    exec .bind s =
      .next (replied (bindEffect cmd.params s.freeEngine).1 (resultOf cmd (bindEffect cmd.params s.freeEngine).2)) := by
  rw [← completeCommand_replied g]
  simp only [exec, execBind, g.1, g.2, if_true]

/-- A BIND that has been handed over is refused at its start, whatever other operation is in progress. -/
theorem exec_bind_handed {s : State} {cmd : QueuedCommand} (hd : Handed s 0x10 cmd)
    (other : ∀ other owned, s.engine.op = .busy (.command other owned) → other.code ≠ 0x10) :
    exec .bind s = .next (replied (bindRefusal cmd.params s).1 (resultOf cmd (bindRefusal cmd.params s).2)) := by
  rw [← takeCommand_replied hd]
  simp only [exec, execBind]
  split
  · rename_i running owned h
    rw [if_neg (other running owned h)]
  · rfl

theorem bindEffect_badNumber {f : Vector Word 7} {s : State} {p : Fin 16} (hp : pointField f[0] = some p)
    (state : (s.point p).state = .detached) (h : digits8 f[1] = none) :
    bindEffect f s = (s, s.pointAnswer .badField p) := by
  simp only [bindEffect, withPoint_of_some hp, state, ne_eq, not_true_eq_false, if_false, h]

theorem bindEffect_unknown {f : Vector Word 7} {s : State} {p : Fin 16} {number : Nat} (hp : pointField f[0] = some p)
    (state : (s.point p).state = .detached) (h : digits8 f[1] = some number) (absent : s.lookup number = none) :
    bindEffect f s = (s, { s.pointAnswer .notFound p with number := bcdWord number }) := by
  simp only [bindEffect, withPoint_of_some hp, state, ne_eq, not_true_eq_false, if_false, h, absent]

theorem bindEffect_found {f : Vector Word 7} {s : State} {p : Fin 16} {number : Nat} {slot : Fin 64}
    (hp : pointField f[0] = some p) (state : (s.point p).state = .detached) (h : digits8 f[1] = some number)
    (found : s.lookup number = some slot) :
    bindEffect f s =
      (s.bindPoint p slot, { (s.bindPoint p slot).pointAnswer .done p with
        slot := slotByte slot, number := bcdWord number, packed := packedField ((s.bindPoint p slot).slot slot) }) := by
  simp only [bindEffect, withPoint_of_some hp, state, ne_eq, not_true_eq_false, if_false, h, found]

/-- One slot's record and one point's are written, and the settings page is reported (R67, R70). -/
structure CountedReport (s t : State) (p : Fin 16) (slot : Fin 64) (a : Account) (r : Point) : Prop where
  written : t.slot slot = a
  slots : SlotsKept s t slot
  point : t.point p = r
  points : ∀ q, q ≠ p → t.point q = s.point q
  deferral : t.points.deferral = s.points.deferral
  directory : t.engine.directory = s.engine.directory
  attention : t.engine.attention = s.engine.attention
  op : t.engine.op = s.engine.op
  reported : ReportedUrgent s t 8
  commit : CommitKept s t 8
  frame : CommandFrame s t
  proc : t.proc = s.proc

theorem countedReport (s : State) (p : Fin 16) (slot : Fin 64) (a : Account) (r : Point) :
    CountedReport s ((State.setPoint (s.setSlot slot a) p r).reportSettings) p slot a r where
  written := slot_setSlot_same ..
  slots _ h := slot_setSlot_other s a h.symm
  point := point_setPoint_same ..
  points _ h := point_setPoint_other s r h.symm
  deferral := rfl
  directory := rfl
  attention := rfl
  op := rfl
  reported := report_urgent (s := State.setPoint (s.setSlot slot a) p r) 8 rfl
  commit := report_commitKept (State.setPoint (s.setSlot slot a) p r) 8 true
  frame := ⟨rfl, rfl, rfl, rfl, rfl, rfl, rfl, rfl, rfl⟩
  proc := rfl

section Bound

variable {status : Status} {level : Level} (slot : Fin 64) (p : Point)

/-- A point bound to a slot that is not ACTIVE is HELD (R58, R67). -/
theorem bound_inactive (h : status ≠ .active) :
    p.bound slot status level = { p with
      binding := some slot, view := some (status, level), edgeCounter := 0, pending := 0, hostHold := false,
      graceRemaining := 0, state := .held } :=
  evaluate_inactive fun _ view => h (congrArg Prod.fst (Option.some.inj view))

/-- A point bound to an ACTIVE slot at EXHAUSTED is CUT, with its flag (R58, R67). -/
theorem bound_exhausted (hs : status = .active) (hl : level = .exhausted) :
    p.bound slot status level = { p with
      binding := some slot, view := some (status, level), edgeCounter := 0, pending := 0, hostHold := false,
      graceRemaining := 0, state := .cut, flags := { p.flags with cut := true } } := by
  subst hs hl
  exact evaluate_exhausted rfl rfl

/-- A point bound to an ACTIVE slot at a better level is LIVE (R58, R67). -/
theorem bound_better (hs : status = .active) (hl : level ≠ .exhausted) :
    p.bound slot status level = { p with
      binding := some slot, view := some (status, level), edgeCounter := 0, pending := 0, hostHold := false,
      graceRemaining := 0, state := .live } := by
  subst hs
  exact evaluate_better rfl rfl hl

end Bound

theorem bindPoint_counted (s : State) (p : Fin 16) (slot : Fin 64) :
    CountedReport s (s.bindPoint p slot) p slot { s.slot slot with boundCount := (s.slot slot).boundCount + 1 }
      ((s.point p).bound slot (s.slot slot).status (s.slot slot).level) :=
  countedReport ..

/-- Settles O33: the point bound by the status and the level of its slot, and the refusals. -/
theorem bindAttachesOrRefuses : Obligations.BindAttachesOrRefuses := by
  refine ⟨fun s cmd p number slot g hp state hn found => ?_, fun s cmd p g hp state => ⟨fun bad => ?_,
    fun number hn absent => ?_⟩, fun s cmd hd other => ⟨fun bad => ?_, fun p hp state => ?_⟩⟩
  · have bound := bindPoint_counted s.freeEngine p slot
    refine ⟨_, exec_bind g, ?_⟩
    rw [bindEffect_found (s := s.freeEngine) hp state hn found]
    refine ⟨bound.op, bound.written, bound.slots, bound.directory, bound.attention, bound.points, bound.deferral, rfl,
      ⟨fun suspended => ?_, fun active exhausted => ?_, fun active better => ?_⟩, bound.reported, bound.commit,
      bound.frame, ?_⟩
    · exact bound.point.trans (bound_inactive slot _ fun active => by cases suspended.symm.trans active)
    · exact bound.point.trans (bound_exhausted slot _ active exhausted)
    · exact bound.point.trans (bound_better slot _ active better)
    · rw [bound.written]
      rfl
  · rw [exec_bind g, bindEffect_badNumber (s := s.freeEngine) hp state bad]
    rfl
  · rw [exec_bind g, bindEffect_unknown (s := s.freeEngine) hp state hn absent]
    rfl
  · rw [exec_bind_handed hd other, bindRefusal, withPoint_of_none bad]
    rfl
  · rw [exec_bind_handed hd other, bindRefusal, withPoint_of_some hp]
    rfl

/-! ### UNBIND and its detach (R68, R70, R72) -/

theorem exec_unbind_badField {s : State} {cmd : QueuedCommand} (hd : Handed s 0x11 cmd)
    (h : pointField cmd.params[0] = none) : exec .unbind s = .next (replied s (plainResult cmd .badField)) := by
  simp only [exec, execUnbind, hd.1, hd.2, if_true, h]
  rfl

theorem exec_unbind_detached {s : State} {cmd : QueuedCommand} {p : Fin 16} (hd : Handed s 0x11 cmd)
    (hp : pointField cmd.params[0] = some p) (state : (s.point p).state = .detached) :
    exec .unbind s = .next (replied s (pointResult cmd .wrongState p (s.point p))) := by
  simp only [exec, execUnbind, hd.1, hd.2, if_true, hp, state]
  rfl

/-- UNBIND of a bound point requests its detach, with the tally at 0 (R68). -/
theorem exec_unbind_bound {s : State} {cmd : QueuedCommand} {p : Fin 16} (hd : Handed s 0x11 cmd)
    (hp : pointField cmd.params[0] = some p) (state : (s.point p).state ≠ .detached) :
    exec .unbind s = .next (s.startUnbind cmd p) := by
  simp only [exec, execUnbind, hd.1, hd.2, if_true, hp, if_neg state]

theorem unbindEffect_bound {f : Vector Word 7} {s : State} {p : Fin 16} {slot : Fin 64} (hp : pointField f[0] = some p)
    (state : (s.point p).state ≠ .detached) (binding : (s.point p).binding = some slot) :
    unbindEffect f s =
      (s.detachPoint p slot,
        (s.detachPoint p slot).detachAnswer p slot (s.point p).pending (s.tallyOf p)) := by
  simp only [unbindEffect, withBoundPoint_of_bound hp state, binding]

/-- The granted detach completes, and the tally ends with its command (R70, R72). -/
theorem exec_unbindDetach {s : State} {cmd : QueuedCommand} (g : Granted s 0x11 cmd) {t : State} {a : Answer}
    (h : unbindEffect cmd.params s.freeEngine = (t, a)) :
    exec .unbindDetach s =
      .next { replied t (resultOf cmd a) with points := { t.points with tally := none } } := by
  have owned : s.detachOwned = true := by
    simp only [State.detachOwned, g.1, g.2]
    rfl
  simp only [exec, execUnbindDetach, completeCommand_replied g, h, owned, if_true]
  rfl

theorem detachPoint_counted (s : State) (p : Fin 16) (slot : Fin 64) :
    CountedReport s (s.detachPoint p slot) p slot { s.slot slot with boundCount := (s.slot slot).boundCount - 1 }
      (s.point p).detached :=
  countedReport ..

/-- Settles O34: UNBIND at its start, and the detach with what its result carries. -/
theorem unbindTalliesThenDetaches : Obligations.UnbindTalliesThenDetaches := by
  refine ⟨fun s cmd hd => ⟨exec_unbind_badField hd, fun p hp => ⟨exec_unbind_detached hd hp, exec_unbind_bound hd hp⟩⟩,
    fun s cmd p slot g hp state binding => ?_⟩
  · have detached := detachPoint_counted s.freeEngine p slot
    refine ⟨_, exec_unbindDetach g (unbindEffect_bound (s := s.freeEngine) hp state binding), detached.op,
      detached.written, detached.slots, detached.directory, detached.attention, detached.points, detached.point, ?_, rfl,
      detached.deferral, detached.reported, detached.commit, detached.frame, fun y hy same within => ?_⟩
    · exact supplyOff_of_state (congrArg (·.state.supplies) detached.point)
    · have tally : s.freeEngine.tallyOf p = (y.units, y.amount) := by
        simp only [State.tallyOf, State.freeEngine, hy, if_pos same]
      have shown : shownAmount y.amount = y.amount := by
        rw [shownAmount, if_pos (by rw [Config.maxBalance]; omega)]
      rw [tally, State.detachAnswer, shown]
      rfl

end Sys2Proof.Machine.Proofs

namespace Sys2Proof.Machine.Proofs

open Sys2Proof Sys2Proof.Machine Sys2Proof.Machine.Laws

/-! ### Edges and units (R50 to R53) -/

theorem countsEdges_iff (s : State) :
    s.countsEdges = true ↔ s.run.runState = .run ∨ (s.run.runState = .loading ∧ s.run.loadPage ≠ 8) := by
  simp only [State.countsEdges, Bool.or_eq_true, Bool.and_eq_true, beq_iff_eq, bne_iff_ne]

theorem debouncing_iff (s : State) :
    s.debouncing = true ↔ s.run.runState ≠ .reset ∧ ¬(s.run.runState = .loading ∧ s.run.loadPage = 8) := by
  simp only [State.debouncing, Bool.and_eq_true, bne_iff_ne, Bool.not_eq_true', ← Bool.not_eq_true, beq_iff_eq]

section Edge

variable {p : Point}

theorem addUnit_room (h : p.pending < 255) : p.addUnit = { p with pending := p.pending + 1 } := if_pos h

theorem addUnit_full (h : 255 ≤ p.pending) : p.addUnit = p.toLocked := if_neg (Nat.not_lt.mpr h)

theorem countEdge_detached (h : p.state = .detached) : p.countEdge = { p with flags := { p.flags with stray := true } } :=
  if_pos h

theorem countEdge_below (attached : p.state ≠ .detached) (h : p.edgeCounter + 1 < p.config.prescale) :
    p.countEdge = { p with edgeCounter := p.edgeCounter + 1 } :=
  (if_neg attached).trans (if_pos h)

/-- The edge that reaches the prescale makes a unit (R52). -/
theorem countEdge_reaches (attached : p.state ≠ .detached) (h : p.config.prescale ≤ p.edgeCounter + 1) :
    p.countEdge = Point.addUnit { p with edgeCounter := 0 } :=
  (if_neg attached).trans (if_neg (Nat.not_lt.mpr h))

end Edge

/-- A completed excursion is judged as the statements say it. -/
theorem completeEdge_judged (counting : Bool) (p : Point) : EdgeJudged counting p (p.completeEdge counting) := by
  have taken : ∀ counted, (counting && p.config.edgeMode.counts p.line) = counted →
      p.completeEdge counting =
        if counted then p.retakeLevel.countEdge else p.retakeLevel := by
    rintro counted rfl
    rfl
  refine ⟨fun h => taken _ h, fun h detached => ?_, fun h attached below => ?_, fun h attached reached =>
    ⟨fun room => ?_, fun full => ?_⟩⟩
  · exact (taken _ h).trans (countEdge_detached (p := p.retakeLevel) detached)
  · exact (taken _ h).trans (countEdge_below (p := p.retakeLevel) attached below)
  · exact (taken _ h).trans ((countEdge_reaches (p := p.retakeLevel) attached reached).trans (addUnit_room room))
  · exact (taken _ h).trans ((countEdge_reaches (p := p.retakeLevel) attached reached).trans (addUnit_full full))

theorem lineChanged_undebounced (counting : Bool) (p : Point) :
    p.lineChanged false counting = { p with line := !p.line } := rfl

theorem lineChanged_timed (counting : Bool) {p : Point} (h : p.config.debounce ≠ .ms0) :
    p.lineChanged true counting =
      { p with line := !p.line, excursion := (!p.line) != p.debounced } :=
  if_neg h

theorem lineChanged_untimed (counting : Bool) {p : Point} (h : p.config.debounce = .ms0) :
    p.lineChanged true counting = Point.completeEdge counting { p with line := !p.line } :=
  if_pos h

theorem exec_debounceComplete {s : State} {p : Fin 16} (hs : s.debouncing = true) (h : (s.point p).excursion = true) :
    exec (.debounceComplete p) s = .next (s.setPoint p ((s.point p).completeEdge s.countsEdges)) := by
  simp only [exec, execDebounceComplete, hs, h, and_self, if_true]

/-- Settles O13: a line change by the debounce time, and the edge judged. -/
theorem lineChangesBecomeUnits : Obligations.LineChangesBecomeUnits := by
  refine ⟨fun s => ⟨countsEdges_iff s, debouncing_iff s⟩, fun s p => ⟨_, rfl, fun off => ?_, fun on timed => ?_,
    fun on untimed => ?_⟩, fun s p on timed => ⟨_, exec_debounceComplete on timed, completeEdge_judged ..⟩, fun s p locked => ?_⟩
  · rw [off, lineChanged_undebounced]
  · rw [on, lineChanged_timed _ timed]
  · rw [on, lineChanged_untimed _ untimed]
    exact completeEdge_judged ..
  · exact supplyOff_of_state (congrArg PointState.supplies locked)

/-! ### A tick at one point (R60) -/

theorem ticked_still (deferral : Bool) {p : Point} (h : ¬(p.state = .grace ∧ 0 < p.graceRemaining)) :
    p.ticked deferral = p :=
  if_neg h

theorem ticked_counts (deferral : Bool) {p : Point} (state : p.state = .grace) (h : 1 < p.graceRemaining) :
    p.ticked deferral = { p with graceRemaining := p.graceRemaining - 1 } := by
  rw [Point.ticked, if_pos ⟨state, by omega⟩, Point.graceExpired, if_neg]
  rintro ⟨-, ended, -⟩
  change p.graceRemaining - 1 = 0 at ended
  omega

/-- The tick that finds 1 brings grace to its end. -/
theorem ticked_ends (deferral : Bool) {p : Point} (state : p.state = .grace) (h : p.graceRemaining = 1) :
    p.ticked deferral = Point.graceExpired deferral { p with graceRemaining := 0 } := by
  rw [Point.ticked, if_pos ⟨state, by omega⟩, h]

/-- At its end grace leads to CUT (R60). -/
theorem ticked_cut {p : Point} (state : p.state = .grace) (h : p.graceRemaining = 1) :
    p.ticked false = { p with state := .cut, graceRemaining := 0, flags := { p.flags with cut := true } } :=
  (ticked_ends false state h).trans (graceExpired_cut (p := { p with graceRemaining := 0 }) state rfl)

/-- While deferral is on the point stays in GRACE with none left (R60, R69). -/
theorem ticked_deferred {p : Point} (state : p.state = .grace) (h : p.graceRemaining = 1) :
    p.ticked true = { p with graceRemaining := 0 } :=
  (ticked_ends true state h).trans (graceExpired_deferred _)

/-! ### The pages that come due (R174; log entry 5) -/

theorem comesDue_iff (s : State) (page : Fin 9) :
    s.comesDue page = true ↔ page ∉ s.commit.eligible ∧
      ∃ r, s.commit.dirty[page] = some r ∧ r.urgent = false ∧ r.age + 1 = s.commit.interval := by
  unfold State.comesDue
  cases s.commit.dirty[page] with
  | none => simp
  | some r => simp [and_comm]

theorem insertByKey_perm (key : Fin 9 → Nat) (page : Fin 9) (pages : List (Fin 9)) :
    (insertByKey key page pages).Perm (page :: pages) := by
  induction pages with
  | nil => rfl
  | cons q rest ih =>
    unfold insertByKey
    split
    · exact (ih.cons q).trans (.swap page q rest)
    · rfl

/-- Whatever the key, the order is one of the same pages. -/
theorem agedOrder_perm (key : Fin 9 → Nat) (pages : List (Fin 9)) : (agedOrder key pages).Perm pages := by
  have joins : ∀ sorted, (pages.foldl (fun sorted page => insertByKey key page sorted) sorted).Perm (pages ++ sorted) := by
    induction pages with
    | nil => exact fun sorted => .refl sorted
    | cons page rest ih =>
      exact fun sorted => (ih _).trans (((insertByKey_perm key page sorted).append_left rest).trans List.perm_middle)
  simpa [agedOrder] using joins []

/-! ### A tick at the points and at the Commit Engine -/

@[simp] theorem takeBoundary_commit (s : State) : s.takeBoundary.commit = s.commit := by
  unfold State.takeBoundary
  dsimp only
  split
  · rw [retestWait_commit]
    split
    · rfl
    · split <;> rfl
  · split
    · rfl
    · split <;> rfl

@[simp] theorem tickPeriod_commit (s : State) : s.tickPeriod.commit = s.commit := by
  unfold State.tickPeriod
  split
  · exact takeBoundary_commit s
  · rfl

@[simp] theorem tickWait_commit (s : State) : s.tickWait.commit = s.commit := by
  unfold State.tickWait
  split
  · split
    · rfl
    · split <;> rfl
  · rfl

/-- A tick while the part operates: grace and ages, and beside them the period count and a WAIT, which touch neither. -/
theorem tick_operating {s : State} (ho : s.operating = true) (conditionFirst : Bool) :
    ∃ t, exec (.tick conditionFirst) s = .next t ∧ t.points = s.tickPoints.points ∧ t.commit = s.tickCommit.commit := by
  simp only [exec, execTick, if_pos ho]
  refine ⟨_, rfl, ?_, ?_⟩
  · split
    · rw [tickWait_points, tickPeriod_points]; rfl
    · rw [tickPeriod_points, tickWait_points]; rfl
  · split
    · rw [tickWait_commit, tickPeriod_commit]; rfl
    · rw [tickPeriod_commit, tickWait_commit]; rfl

/-- A tick in LOADING ages the dirty records alone. -/
theorem tick_loading {s : State} (h : s.run.runState = .loading) (conditionFirst : Bool) :
    exec (.tick conditionFirst) s = .next s.tickCommit := by
  have ho : s.operating = false := by simp [State.operating, h]
  simp only [exec, execTick, ho, Bool.false_eq_true, if_false, h, if_true]

theorem tick_reset {s : State} (h : s.run.runState = .reset) (conditionFirst : Bool) :
    exec (.tick conditionFirst) s = .next s := by
  have ho : s.operating = false := by simp [State.operating, h]
  simp [exec, execTick, ho, h]

/-- Outside RESET a tick ages the dirty records, whatever else it brings. -/
theorem tick_ages {s : State} (h : s.run.runState ≠ .reset) (conditionFirst : Bool) :
    ∃ t, exec (.tick conditionFirst) s = .next t ∧ t.commit = s.tickCommit.commit := by
  cases hr : s.run.runState with
  | reset => exact absurd hr h
  | loading => exact ⟨_, tick_loading hr conditionFirst, rfl⟩
  | run | holdup | safe =>
    obtain ⟨t, ht, -, commit⟩ := tick_operating ((operating_iff s).mpr (by simp [hr])) conditionFirst
    exact ⟨t, ht, commit⟩

/-- A tick while the part does not operate moves no point. -/
theorem tick_idle_points {s : State} (h : s.operating = false) (conditionFirst : Bool) :
    ∃ t, exec (.tick conditionFirst) s = .next t ∧ t.points = s.points := by
  cases hr : s.run.runState with
  | reset => exact ⟨_, tick_reset hr conditionFirst, rfl⟩
  | loading => exact ⟨_, tick_loading hr conditionFirst, rfl⟩
  | run | holdup | safe => exact absurd ((operating_iff s).mpr (by simp [hr])) (Bool.eq_false_iff.mp h)

theorem tickPoints_point (s : State) (p : Fin 16) : s.tickPoints.point p = (s.point p).ticked s.points.deferral :=
  point_mapPoints ..

theorem tickCommit_dirty (s : State) (page : Fin 9) :
    s.tickCommit.commit.dirty[page] = s.commit.dirty[page].map DirtyRecord.aged := by
  simp [State.tickCommit]

theorem aged_urgent {r : DirtyRecord} (h : r.urgent = true) : r.aged = r := if_pos h

theorem aged_routine {r : DirtyRecord} (h : r.urgent = false) :
    r.aged = { urgent := false, age := min (r.age + 1) 255 } := by
  rw [DirtyRecord.aged, h]
  rfl

/-- The pages that come due join behind the list, each once (R174, R175). -/
theorem tickCommit_joined (s : State) :
    ∃ joined, s.tickCommit.commit.eligible = s.commit.eligible ++ joined ∧ joined.Nodup ∧
      ∀ page, page ∈ joined ↔ s.comesDue page = true := by
  have order := agedOrder_perm (Config.agedKey s.freeCount) ((List.finRange 9).filter s.comesDue)
  refine ⟨_, rfl, order.nodup_iff.mpr ((List.nodup_finRange 9).filter _), fun page => ?_⟩
  rw [order.mem_iff, List.mem_filter, and_iff_right (List.mem_finRange page)]

/-- Settles O10: each point by its state and count, and the dirty records with the pages that come due. -/
theorem tickCountsGraceAndAges : Obligations.TickCountsGraceAndAges := by
  refine ⟨fun s conditionFirst => ?_, fun s conditionFirst hr => ?_⟩
  · cases ho : s.operating with
    | false =>
      obtain ⟨t, ht, points⟩ := tick_idle_points ho conditionFirst
      exact ⟨t, ht, fun _ => points, fun c => absurd c Bool.false_ne_true⟩
    | true =>
      obtain ⟨t, ht, points, -⟩ := tick_operating ho conditionFirst
      have point : ∀ p, t.point p = (s.point p).ticked s.points.deferral := fun p =>
        (point_of_points points p).trans (tickPoints_point s p)
      have operates : t.operating = true := (tick_frame ht).operating.trans ho
      refine ⟨t, ht, fun c => absurd c.symm Bool.false_ne_true, fun _ p => ⟨fun still => ?_, fun state left => ?_,
        fun state last off => ?_, fun state last on => ?_⟩⟩
      · rw [point, ticked_still _ still]
      · rw [point, ticked_counts _ state left]
      · have cut := point p
        rw [off, ticked_cut state last] at cut
        exact ⟨cut, supplyOff_of_state (congrArg (·.state.supplies) cut)⟩
      · have ended := point p
        rw [on, ticked_deferred state last] at ended
        exact ⟨ended, supplyOn_of_grace operates ((congrArg Point.state ended).trans state)⟩
  · obtain ⟨t, ht, commit⟩ := tick_ages hr conditionFirst
    obtain ⟨joined, eligible, nodup, mem⟩ := tickCommit_joined s
    refine ⟨t, ht, ?_⟩
    rw [CommitFrame, commit]
    simp only [tickCommit_dirty]
    refine ⟨fun page r dirty => ⟨fun urgent => ?_, fun routine => ?_, fun routine due => ?_⟩, fun page clean => ?_,
      ⟨joined, eligible, nodup, fun page => (mem page).trans (comesDue_iff s page)⟩, rfl⟩
    · rw [dirty, Option.map_some, aged_urgent urgent]
    · rw [dirty, Option.map_some, aged_routine routine]
    · rw [eligible, List.mem_append, or_iff_not_imp_left]
      exact fun absent => (mem page).mpr ((comesDue_iff s page).mpr ⟨absent, r, dirty, routine, due⟩)
    · rw [clean, Option.map_none]

end Sys2Proof.Machine.Proofs

namespace Sys2Proof.Machine.Proofs

open Sys2Proof Sys2Proof.Machine Sys2Proof.Machine.Laws

/-! ### The six conditions (R107) -/

theorem dirtyPages_eq_nil_iff (s : State) : s.dirtyPages = [] ↔ ∀ page : Fin 9, s.commit.dirty[page] = none := by
  simp [State.dirtyPages, List.filter_eq_nil_iff]

theorem commitClean_iff (s : State) :
    s.commitClean = true ↔ (∀ page : Fin 9, s.commit.dirty[page] = none) ∧ s.commit.phase = .idle := by
  rw [State.commitClean, Bool.and_eq_true, List.isEmpty_iff, dirtyPages_eq_nil_iff, beq_iff_eq]

theorem sweepIdle_iff (s : State) : s.sweepIdle = true ↔ s.timer.sweep = .idle ∧ s.timer.owed = false := by
  rw [State.sweepIdle, Bool.and_eq_true, beq_iff_eq, Bool.not_eq_true']

theorem chargeRequest_eq_false_iff (p : Point) :
    p.chargeRequest = false ↔ p.pending = 0 ∨
      ∀ status level, p.view = some (status, level) → status ≠ .active ∧ status ≠ .suspended := by
  rw [Point.chargeRequest, Bool.and_eq_false_iff, decide_eq_false_iff_not, Nat.not_lt, Nat.le_zero]
  rcases p.view with _ | ⟨status, level⟩
  · simp [chargeable]
  · cases status <;> simp [chargeable]

theorem chargesClear_iff (s : State) :
    (!s.chargeOutstanding) = true ↔ ∀ p, (s.point p).pending = 0 ∨
      ∀ status level, (s.point p).view = some (status, level) → status ≠ .active ∧ status ≠ .suspended := by
  simp only [State.chargeOutstanding, Bool.not_eq_true', List.any_eq_false, List.mem_finRange, true_imp_iff,
    Bool.not_eq_true, chargeRequest_eq_false_iff]

/-- The conditions in the order in which R203 codes them. -/
def conditionList (s : State) : List Bool :=
  [s.commitClean, s.sweepIdle, !s.chargeOutstanding, s.port.state == .idle, s.engine.attention.isEmpty, s.proc.periodLatch]

theorem conditionsHeld_getLsbD (s : State) {i : Nat} (h : i < 6) :
    s.conditionsHeld.getLsbD i = (conditionList s).getD i false := by
  rw [State.conditionsHeld, BitVec.getLsbD_ofNat, decide_eq_true h, Bool.true_and, testBit_ofFlags]
  rfl

/-! ### WAIT at its start (R107) -/

/-- A WAIT that has just been started, its timeout loaded (R107). -/
def startedWait (cmd : QueuedCommand) : WaitState :=
  { conditions := BitVec.ofNat 6 (cmd.params[0].toNat % 256), timeout := cmd.params[1].toNat % 65536,
    remaining := cmd.params[1].toNat % 65536 }

theorem bits_zero (w : Word) (width : Nat) : bits w 0 width = w.toNat % 2 ^ width := by
  rw [bits, Nat.pow_zero, Nat.div_one]

theorem startWait_badField {s : State} {cmd : QueuedCommand} (h : 64 ≤ cmd.params[0].toNat % 256) :
    s.startWait cmd = replied s (plainResult cmd .badField) := by
  have outside : 64 ≤ lowByte cmd.params[0] := by rwa [lowByte, bits_zero]
  rw [State.startWait, if_pos outside]
  rfl

/-- The processor as it waits, the period latch cleared. -/
def waitBegun (s : State) (cmd : QueuedCommand) : State :=
  { s with proc := { s.proc with executing := some { cmd, phase := .waiting (startedWait cmd) }, periodLatch := false } }

theorem startWait_begun {s : State} {cmd : QueuedCommand} (h : cmd.params[0].toNat % 256 < 64) :
    s.startWait cmd = (waitBegun s cmd).retestWait := by
  have inside : ¬64 ≤ lowByte cmd.params[0] := by rw [lowByte, bits_zero]; exact Nat.not_le.mpr h
  rw [State.startWait, if_neg inside, lowByte, bits_zero, bits_zero]
  rfl

theorem waitBegun_retest (s : State) (cmd : QueuedCommand) :
    (waitBegun s cmd).retestWait =
      if (startedWait cmd).conditions &&& (waitBegun s cmd).conditionsHeld = (startedWait cmd).conditions then
        waitEnded (waitBegun s cmd) cmd (startedWait cmd) .done
      else waitBegun s cmd :=
  retestWait_waiting rfl

/-- NEXT_PERIOD is the sixth condition, and the start clears its latch: a WAIT that chooses it waits. -/
theorem nextPeriod_not_met {s : State} {conditions : Nat} (latch : s.proc.periodLatch = false)
    (h : conditions.testBit 5 = true) : BitVec.ofNat 6 conditions &&& s.conditionsHeld ≠ BitVec.ofNat 6 conditions := by
  intro met
  have clear : s.conditionsHeld.getLsbD 5 = false := (conditionsHeld_getLsbD s (by decide)).trans latch
  have chosen := congrArg (BitVec.getLsbD · 5) met
  simp only [BitVec.getLsbD_and, clear, Bool.and_false, BitVec.getLsbD_ofNat, h] at chosen
  exact absurd chosen (by decide)

theorem zeroExtend_conditions {conditions : Nat} (h : conditions < 64) :
    (BitVec.ofNat 6 conditions).zeroExtend 32 = BitVec.ofNat 32 conditions := by
  refine BitVec.eq_of_toNat_eq ?_
  simp only [BitVec.truncate_eq_setWidth, BitVec.toNat_setWidth, BitVec.toNat_ofNat]
  omega

theorem exec_wait {s : State} {cmd : QueuedCommand} (hd : Handed s 0x21 cmd) : exec .wait s = .next (s.startWait cmd) := by
  simp only [exec, execWait, hd.1, hd.2, if_true]

/-- Every chosen condition holds at the start: the WAIT is DONE at once. -/
theorem waitBegun_done {s : State} {cmd : QueuedCommand} (inside : cmd.params[0].toNat % 256 < 64)
    (met : (startedWait cmd).conditions &&& (waitBegun s cmd).conditionsHeld = (startedWait cmd).conditions) :
    waitEnded (waitBegun s cmd) cmd (startedWait cmd) .done =
      replied { s with proc := { s.proc with periodLatch := false } } { plainResult cmd .done with
        extraA := BitVec.ofNat 32 (cmd.params[0].toNat % 256), extraB := BitVec.ofNat 32 (cmd.params[1].toNat % 65536) } := by
  rw [waitEnded, met, startedWait, zeroExtend_conditions inside]
  rfl

/-! ### A WAIT handed over and not yet taken (log entry 13) -/

theorem settleHandedWait_handed {s : State} {cmd : QueuedCommand} (hd : Handed s 0x21 cmd) :
    s.settleHandedWait = s.startWait cmd := by
  simp only [State.settleHandedWait, hd.1, hd.2, if_true]

/-- A WAIT that has started is not handed over any more. -/
theorem startWait_cases (s : State) (cmd : QueuedCommand) :
    (s.startWait cmd).proc.executing = none ∨ s.startWait cmd = waitBegun s cmd := by
  rcases Nat.lt_or_ge (cmd.params[0].toNat % 256) 64 with inside | outside
  · rw [startWait_begun inside, waitBegun_retest]
    split
    · exact .inl rfl
    · exact .inr rfl
  · rw [startWait_badField outside]
    exact .inl rfl

theorem settleHandedWait_startWait (s : State) (cmd : QueuedCommand) :
    (s.startWait cmd).settleHandedWait = s.startWait cmd := by
  rcases startWait_cases s cmd with h | h
  · simp only [State.settleHandedWait, h]
  · rw [h]
    rfl

/-- The start of a WAIT does not read the Run Controller, and leaves it. -/
theorem startWait_writeRun (s : State) (cmd : QueuedCommand) (run : RunController) :
    State.startWait { s with run } cmd = { s.startWait cmd with run } := by
  rcases Nat.lt_or_ge (cmd.params[0].toNat % 256) 64 with inside | outside
  · rw [startWait_begun inside, startWait_begun inside, waitBegun_retest, waitBegun_retest]
    change (if (startedWait cmd).conditions &&& (waitBegun s cmd).conditionsHeld = _ then _ else _) = _
    split <;> rfl
  · rw [startWait_badField outside, startWait_badField outside]
    rfl

@[simp] theorem startWait_keeps_run (s : State) (cmd : QueuedCommand) : (s.startWait cmd).run = s.run := by
  have kept : s.startWait cmd = { s.startWait cmd with run := s.run } := startWait_writeRun s cmd s.run
  rw [kept]

theorem settleHandedWait_taken {s : State} {cmd : QueuedCommand} (hd : Handed s 0x21 cmd) :
    s.settleHandedWait = (s.startWait cmd).settleHandedWait :=
  (settleHandedWait_handed hd).trans (settleHandedWait_startWait s cmd).symm

/-- A PURGE finds the WAIT as its own row would have left it. -/
theorem purged_startWait {s : State} {cmd : QueuedCommand} (hd : Handed s 0x21 cmd) :
    s.purged = (s.startWait cmd).purged := by
  rw [State.purged, State.purged, settleHandedWait_taken hd]

/-- The entry to HOLDUP finds the WAIT as its own row would have left it. -/
theorem enterHoldup_startWait {s : State} {cmd : QueuedCommand} (hd : Handed s 0x21 cmd) (run : RunController)
    (conditionFirst : Bool) :
    State.enterHoldup conditionFirst { s with run } = State.enterHoldup conditionFirst { s.startWait cmd with run } := by
  rw [State.enterHoldup, State.enterHoldup, settleHandedWait_taken (s := { s with run }) hd, startWait_writeRun]

end Sys2Proof.Machine.Proofs

namespace Sys2Proof.Machine.Proofs

open Sys2Proof Sys2Proof.Machine Sys2Proof.Machine.Laws

/-! ### Updates that leave the Command Processor aside -/

/-- The update neither reads nor writes the Command Processor. -/
def ProcBlind (f : State → State) : Prop := ∀ s proc, f { s with proc } = { f s with proc }

namespace ProcBlind

variable {f g : State → State}

theorem id : ProcBlind fun s => s := fun _ _ => rfl

theorem comp (hg : ProcBlind g) (hf : ProcBlind f) : ProcBlind fun s => g (f s) := fun s proc =>
  (congrArg g (hf s proc)).trans (hg (f s) proc)

theorem ite {c : State → Prop} [∀ s, Decidable (c s)] (hc : ∀ s proc, c { s with proc } ↔ c s) (hf : ProcBlind f)
    (hg : ProcBlind g) : ProcBlind fun s => if c s then f s else g s := by
  intro s proc
  by_cases h : c s
  · simp only [if_pos h, if_pos ((hc s proc).mpr h), hf s proc]
  · simp only [if_neg h, if_neg (mt (hc s proc).mp h), hg s proc]

end ProcBlind

theorem addReasons_blind (slot : Fin 64) (reasons : Reasons) : ProcBlind fun s => s.addReasons slot reasons :=
  .ite (c := fun _ => reasons.isEmpty = true) (fun _ _ => Iff.rfl) .id fun _ _ => rfl

theorem changeAccount_blind (slot : Fin 64) (a : Account) (before : Level) (extra : Reasons) :
    ProcBlind fun s => s.changeAccount slot a before extra := by
  have written : ProcBlind fun s => (s.setSlot slot a.relevelled).addReasons slot
      ((levelReasons before a.relevelled.level).union extra) :=
    ProcBlind.comp (addReasons_blind slot _) (f := fun s => s.setSlot slot a.relevelled) fun _ _ => rfl
  have told : ProcBlind fun s => s.notifyPoints slot a.relevelled.status a.relevelled.level := fun _ _ => rfl
  exact .ite (c := fun s => (a.relevelled.level ≠ (s.slot slot).level ∨ a.relevelled.status ≠ (s.slot slot).status) ∧
    0 < a.relevelled.boundCount) (fun _ _ => Iff.rfl) (told.comp written) written

theorem storeBalance_blind (slot : Fin 64) (balance : Int) (extra : Reasons) (urgent : Bool) :
    ProcBlind fun s => s.storeBalance slot balance extra urgent := by
  have reported : ProcBlind fun s => s.report (pageOf slot) urgent := fun _ _ => rfl
  have changed : ProcBlind fun s =>
      s.changeAccount slot { s.slot slot with balance := balance } (s.slot slot).level extra :=
    fun s proc => changeAccount_blind slot { s.slot slot with balance := balance } (s.slot slot).level extra s proc
  exact .ite (c := fun s => balance = (s.slot slot).balance) (fun _ _ => Iff.rfl) (addReasons_blind slot extra)
    (reported.comp changed)

theorem takeCharge_blind (slot : Fin 64) (amount : Nat) : ProcBlind fun s => s.takeCharge slot amount := by
  have stored : ProcBlind fun s => s.storeBalance slot ((s.slot slot).balance - amount) {} false :=
    fun s proc => storeBalance_blind slot ((s.slot slot).balance - amount) {} false s proc
  exact .ite (c := fun _ => amount = 0) (fun _ _ => Iff.rfl) .id
    (.ite (c := fun s => (s.slot slot).balance - amount < -Config.maxBalance) (fun _ _ => Iff.rfl)
      (storeBalance_blind slot _ _ _) stored)

theorem tallyCharge_blind (p : Fin 16) (n amount : Nat) : ProcBlind fun s => s.tallyCharge p n amount := fun s proc => by
  simp only [tallyCharge_eq]

theorem advanceSweep_blind : ProcBlind State.advanceSweep := by
  have ended : ProcBlind State.endSweep :=
    .ite (c := fun s => (s.timer.owed && !s.warned) = true) (fun _ _ => Iff.rfl) (fun _ _ => rfl) fun _ _ => rfl
  intro s proc
  by_cases h : s.timer.cursor.val < 63
  · simp only [State.advanceSweep, dif_pos h]
    rfl
  · simp only [State.advanceSweep, dif_neg h]
    exact ended s proc

theorem applyRequest_blind (s : State) (proc : CommandProcessor) (r : ApplyRequest) :
    State.applyRequest { s with proc } r = ({ (s.applyRequest r).1 with proc }, (s.applyRequest r).2) := by
  cases found : s.lookup r.number with
  | none => rw [applyRequest_unknown found, applyRequest_unknown (s := { s with proc }) found]
  | some slot =>
    by_cases suspended : (s.slot slot).status = .suspended
    · rw [applyRequest_suspended found suspended, applyRequest_suspended (s := { s with proc }) found suspended]
      rfl
    cases kind : r.kind with
    | enquire =>
      rw [applyRequest_enquire found suspended kind, applyRequest_enquire (s := { s with proc }) found suspended kind]
      rfl
    | topup =>
      rcases lt_or_ge 9999999999 ((s.slot slot).balance + r.amount) with exceeds | fits
      · rw [applyRequest_overflow found suspended kind exceeds,
          applyRequest_overflow (s := { s with proc }) found suspended kind exceeds]
        rfl
      · rw [applyRequest_topup found suspended kind fits,
          applyRequest_topup (s := { s with proc }) found suspended kind fits]
        have stored := storeBalance_blind slot ((s.slot slot).balance + r.amount) {} true s proc
        dsimp only at stored ⊢
        rw [show State.slot { s with proc } slot = s.slot slot from rfl, stored]
        rfl

theorem commitFailed_blind (page : Fin 9) : ProcBlind fun s => s.commitFailed page := by
  have returned : ProcBlind fun s => s.returnFailed page :=
    .ite (c := fun s => s.run.runState = .run ∧ s.commit.dirty[page] = none) (fun _ _ => Iff.rfl) (fun _ _ => rfl) .id
  have ended : ProcBlind State.endCommit := fun _ _ => rfl
  exact ended.comp (returned.comp (f := fun s => { s with
    notice.errors.nvFault := true, notice.commit := true, commit.faultPage := some page, nv := s.nv.set page .damaged })
    fun _ _ => rfl)

/-! ### The wanted marks without an executing COMMIT (R183) -/

/-- No COMMIT has been taken by the Commit Engine. -/
def NotCommitting (proc : CommandProcessor) : Prop := ∀ cmd, proc.executing ≠ some { cmd, phase := .committing }

theorem finishCommit_of_notCommitting {s : State} (h : NotCommitting s.proc) (w : WantedMarks) :
    s.finishCommit w = { s with commit := { s.commit with wanted := none } } := by
  unfold State.finishCommit
  split
  · rename_i cmd hx
    exact absurd hx (h cmd)
  · rfl

/-- The wanted marks after the end of a page's commit, dropped when every wanted page is settled. -/
def wantedSettled (s : State) (page : Fin 9) (succeeded : Bool) : State :=
  { s with commit := { s.commit with
    wanted := s.commit.wanted.bind fun w =>
      if (w.settled page succeeded).complete then none else some (w.settled page succeeded) } }

theorem settleWanted_of_notCommitting {s : State} (h : NotCommitting s.proc) (page : Fin 9) (succeeded : Bool) :
    s.settleWanted page succeeded = wantedSettled s page succeeded := by
  unfold State.settleWanted wantedSettled
  split
  · rename_i hw
    rw [hw, Option.bind_none, ← hw]
  · rename_i w hw
    rw [hw, Option.bind_some]
    dsimp only
    by_cases complete : (w.settled page succeeded).complete = true
    · rw [if_pos complete, if_pos complete, finishCommit_of_notCommitting h]
    · rw [if_neg complete, if_neg complete]

/-! ### Events that end what a WAIT waits for (R108) -/

/-- What the event makes of the state does not depend on the Command Processor, as long as no COMMIT executes: either it ends
with the re-test of a WAIT, or it leaves the conditions as they were. -/
inductive ActsBeside (c : Instr) (s : State) : Prop where
  | retests (t : State)
      (acts : ∀ proc, NotCommitting proc → exec c { s with proc } = .next (State.retestWait { t with proc }))
  | settles (t : State) (acts : ∀ proc, NotCommitting proc → exec c { s with proc } = .next { t with proc })
      (held : ∀ proc, State.conditionsHeld { t with proc } = State.conditionsHeld { s with proc })

theorem ActsBeside.of_blind {c : Instr} {s : State} {f : State → State} (hf : ProcBlind f)
    (h : ∀ proc, exec c { s with proc } = .next (f { s with proc }).retestWait) : ActsBeside c s :=
  .retests (f s) fun proc _ => by rw [h proc, hf s proc]

theorem ActsBeside.of_still {c : Instr} {s : State} (h : ∀ proc, exec c { s with proc } = .next { s with proc }) :
    ActsBeside c s :=
  .settles s (fun proc _ => h proc) fun _ => rfl

theorem charge_beside (s : State) : ActsBeside .charge s := by
  by_cases h : ∃ p n slot price, s.engine.op = .busy (.charge p n slot price)
  · obtain ⟨p, n, slot, price, hop⟩ := h
    have paid : ProcBlind fun s => (s.freeEngine.takeCharge slot (n * price)).reducePending p n :=
      ProcBlind.comp (g := fun s => s.reducePending p n) (fun _ _ => rfl)
        ((takeCharge_blind slot (n * price)).comp (f := State.freeEngine) fun _ _ => rfl)
    exact .of_blind ((tallyCharge_blind p n (n * price)).comp paid) fun proc => by simp only [exec, execCharge, hop]
  · refine .of_still fun proc => ?_
    simp only [exec, execCharge]
    split
    · rename_i p n slot price hop
      exact absurd ⟨p, n, slot, price, hop⟩ h
    · rfl

theorem standing_beside (s : State) : ActsBeside .standing s := by
  by_cases h : ∃ slot amount, s.engine.op = .busy (.standing slot amount)
  · obtain ⟨slot, amount, hop⟩ := h
    have paid : ProcBlind fun s => standingPaid s slot amount :=
      .ite (c := fun s => owesStanding (s.slot slot) amount = true) (fun _ _ => Iff.rfl)
        ((takeCharge_blind slot amount).comp (f := State.freeEngine) fun _ _ => rfl) fun _ _ => rfl
    exact .of_blind (advanceSweep_blind.comp paid) fun proc => by
      simp only [exec, execStanding, hop]
      rfl
  · refine .of_still fun proc => ?_
    simp only [exec, execStanding]
    split
    · rename_i slot amount hop
      exact absurd ⟨slot, amount, hop⟩ h
    · rfl

theorem applyFrame_beside (s : State) : ActsBeside .applyFrame s := by
  by_cases h : ∃ r owned, s.engine.op = .busy (.applyFrame r owned)
  · obtain ⟨r, owned, hop⟩ := h
    have answered : ProcBlind fun s =>
        (s.freeEngine.applyRequest r).1.answerKiosk owned (s.freeEngine.applyRequest r).2 := fun s proc => by
      have applied := applyRequest_blind s.freeEngine proc r
      change State.applyRequest (State.freeEngine { s with proc }) r = _ at applied
      simp only [applied, answerKiosk_eq]
    exact .of_blind answered fun proc => by simp only [exec, execApplyFrame, hop]
  · refine .of_still fun proc => ?_
    simp only [exec, execApplyFrame]
    split
    · rename_i r owned hop
      exact absurd ⟨r, owned, hop⟩ h
    · rfl

theorem gather_beside (s : State) : ActsBeside .gather s := by
  by_cases h : ∃ page k, s.engine.op = .busy (.gather page) ∧ accountPage page = some k
  · obtain ⟨page, k, hop, hk⟩ := h
    exact .of_blind (f := fun s => s.freeEngine.fixSnapshot page (s.gatherAccounts k)) (fun _ _ => rfl) fun proc => by
      simp only [exec, execGather, hop, hk]
  · refine .of_still fun proc => ?_
    simp only [exec, execGather]
    split
    · rename_i page hop
      split
      · rename_i k hk
        exact absurd ⟨page, k, hop, hk⟩ h
      · rfl
    · rfl

/-- A VERIFY that ends its commit settles a wanted page and re-tests; one that retries ERASE leaves the Commit Engine busy. -/
theorem verifyComplete_beside (s : State) : ActsBeside .verifyComplete s := by
  by_cases h : ∃ page, s.commit.phase = .verify page
  · obtain ⟨page, hp⟩ := h
    by_cases verified : s.verifies page = true
    · refine .retests (wantedSettled (s.markVerified page).endCommit page true) fun proc idle => ?_
      have verified' : State.verifies { s with proc } page = true := verified
      simp only [exec, execVerifyComplete, hp, verified', if_true]
      rw [settleWanted_of_notCommitting idle]
      rfl
    have differs (proc) : ¬State.verifies { s with proc } page = true := verified
    by_cases retried : s.commit.retried = true
    · refine .retests (wantedSettled (s.commitFailed page) page false) fun proc idle => ?_
      have failed := commitFailed_blind page s proc
      dsimp only at failed
      have idle' : NotCommitting (State.commitFailed { s with proc } page).proc := by rwa [failed]
      simp only [exec, execVerifyComplete, hp, if_neg (differs proc), retried, if_true]
      rw [settleWanted_of_notCommitting idle', failed]
      rfl
    · refine .settles { s with commit := { s.commit with phase := .erase page, retried := true } } (fun proc _ => ?_)
        fun proc => ?_
      · simp only [exec, execVerifyComplete, hp, if_neg (differs proc), if_neg retried]
      · have was : State.commitClean { s with proc } = false := by simp [State.commitClean, hp]
        have remains : State.commitClean
            { s with commit := { s.commit with phase := .erase page, retried := true }, proc } = false := by
          simp [State.commitClean]
        rw [State.conditionsHeld, State.conditionsHeld, was, remains]
        rfl
  · refine .of_still fun proc => ?_
    simp only [exec, execVerifyComplete]
    split
    · rename_i page hp
      exact absurd ⟨page, hp⟩ h
    · rfl

/-- The port moves by a function of its own, and a WAIT is re-tested. -/
theorem port_beside {c : Instr} {s : State} (port : TopUpPort)
    (h : ∀ proc, exec c { s with proc } = .next (State.setPort { s with proc } port).retestWait) : ActsBeside c s :=
  .of_blind (f := fun s => s.setPort port) (fun _ _ => rfl) h

theorem collision_beside (bit : Fin 8) (s : State) : ActsBeside (.collision bit) s := by
  by_cases h : s.port.state = .sending ∧ s.sendingByte.getLsbD bit.val = true
  · exact port_beside s.port.toIdle fun _ => congrArg _ (if_pos h)
  · exact .of_still fun _ => congrArg _ (if_neg h)

/-- The events after which R108 has a WAIT tested. -/
theorem event_beside {c : Instr}
    (h : c ∈ [.charge, .standing, .applyFrame, .gather, .verifyComplete, .busStart, .busStop, .busTimeout] ∨
      (∃ acknowledged, c = .replyByte acknowledged) ∨ ∃ bit, c = .collision bit) (s : State) : ActsBeside c s := by
  simp only [List.mem_cons, List.not_mem_nil, or_false] at h
  rcases h with (rfl | rfl | rfl | rfl | rfl | rfl | rfl | rfl) | ⟨acknowledged, rfl⟩ | ⟨bit, rfl⟩
  · exact charge_beside s
  · exact standing_beside s
  · exact applyFrame_beside s
  · exact gather_beside s
  · exact verifyComplete_beside s
  · exact port_beside s.port.atStart fun _ => rfl
  · exact port_beside s.port.atStop fun _ => rfl
  · exact port_beside s.port.atTimeout fun _ => rfl
  · exact port_beside (s.port.byteSent acknowledged) fun _ => rfl
  · exact collision_beside bit s

theorem notCommitting_of_waiting {proc : CommandProcessor} {cmd : QueuedCommand} {w : WaitState}
    (h : proc.executing = some { cmd, phase := .waiting w }) : NotCommitting proc := fun other c => by
  rw [h] at c
  cases c

/-- A WAIT that did not hold before such an event is DONE after it, or waits on, beside what the event does without it. -/
theorem ActsBeside.retested {c : Instr} {s u : State} {cmd : QueuedCommand} {w : WaitState} (beside : ActsBeside c s)
    (hx : s.proc.executing = some { cmd, phase := .waiting w })
    (unmet : w.conditions &&& s.conditionsHeld ≠ w.conditions)
    (hu : exec c { s with proc := { s.proc with executing := none } } = .next u) :
    exec c s = .next
      (if w.conditions &&& State.conditionsHeld { u with proc := s.proc } = w.conditions then
        waitEnded { u with proc := s.proc } cmd w .done
      else { u with proc := s.proc }) := by
  have free : NotCommitting { s.proc with executing := none } := fun _ c => by cases c
  have waits := notCommitting_of_waiting hx
  cases beside with
  | retests t acts =>
    rw [acts _ free, retestWait_of_none _ rfl, Host.Outcome.next.injEq] at hu
    subst hu
    exact (acts s.proc waits).trans (congrArg _ (retestWait_waiting hx))
  | settles t acts held =>
    rw [acts _ free, Host.Outcome.next.injEq] at hu
    subst hu
    refine (acts s.proc waits).trans (congrArg _ (if_neg ?_).symm)
    exact fun met => unmet ((congrArg (w.conditions &&& ·) (held s.proc).symm).trans met)

/-! ### MARK (R110) -/

theorem exec_mark {s : State} {cmd : QueuedCommand} (hd : Handed s 0x22 cmd) :
    exec .mark s =
      .next (replied { s with proc := { s.proc with mark := cmd.params[0] }, notice := { s.notice with mark := true } }
        { plainResult cmd .done with extraA := cmd.params[0] }) :=
  congrArg _ (takeCommand_replied hd markEffect)

/-! ### PURGE and the entry to HOLDUP (R111, R194) -/

theorem exec_purge {s : State} (h : s.run.runState ≠ .reset) {value : Word} (purge : value.getLsbD 0 = true)
    (reset : value.getLsbD 1 = false) : exec (.purge value) s = .next s.purged := by
  simp only [exec, execPurge, served_of_run h, if_true, State.controlWrite, reset, Bool.false_eq_true, if_false, purge]

theorem exec_entryToHoldup {s : State} (h : s.run.runState = .run) (conditionFirst : Bool) :
    exec (.entryToHoldup conditionFirst) s =
      .next (State.enterHoldup conditionFirst { s with run := { s.run with pfwAsserted := true } }) := by
  simp only [exec, execEntryToHoldup, h, if_true]

/-- Settles O23: the conditions one by one, the start of a WAIT, its re-test, the WAIT handed over, and MARK. -/
theorem waitAndMarkAct : Obligations.WaitAndMarkAct := by
  refine ⟨fun s => ?_, fun s cmd hd => ⟨fun outside => ?_, fun inside met => ?_, fun inside unmet => ?_⟩,
    fun c s u cmd w event hx unmet hu => ⟨fun met => ?_, fun still => ?_⟩,
    fun s u cmd value conditionFirst hd run hu purge reset => ?_, fun s cmd hd => exec_mark hd⟩
  · simp only [conditionsHeld_getLsbD s, Nat.reduceLT]
    refine ⟨commitClean_iff s, sweepIdle_iff s, chargesClear_iff s, beq_iff_eq, List.isEmpty_iff, Iff.rfl⟩
  · rw [exec_wait hd, startWait_badField outside]
  · rw [exec_wait hd, startWait_begun inside, waitBegun_retest]
    exact congrArg _ ((if_pos met).trans (waitBegun_done inside met))
  · rw [exec_wait hd, startWait_begun inside, waitBegun_retest]
    refine congrArg _ (if_neg ?_)
    rcases unmet with unmet | nextPeriod
    · exact unmet
    · exact nextPeriod_not_met rfl nextPeriod
  · rw [(event_beside event s).retested hx unmet hu, if_pos met]
  · rw [(event_beside event s).retested hx unmet hu, if_neg still]
  · rw [exec_wait hd, Host.Outcome.next.injEq] at hu
    subst hu
    have served : s.run.runState ≠ .reset := by rw [run]; decide
    have served' : (s.startWait cmd).run.runState ≠ .reset := by rwa [startWait_keeps_run]
    have run' : (s.startWait cmd).run.runState = .run := by rwa [startWait_keeps_run]
    constructor
    · rw [exec_purge served purge reset, exec_purge served' purge reset, purged_startWait hd]
    · rw [exec_entryToHoldup run, exec_entryToHoldup run', startWait_keeps_run, enterHoldup_startWait hd]

end Sys2Proof.Machine.Proofs

namespace Sys2Proof.Machine.Proofs

open Sys2Proof Sys2Proof.Machine Sys2Proof.Machine.Laws

/-! ### Operations that leave the Period Timer and the run state alone -/

/-- The Period Timer and the run state are as they were. -/
structure TimerKept (s t : State) : Prop where
  timer : t.timer = s.timer
  runState : t.run.runState = s.run.runState

namespace TimerKept

variable {s t u : State}

theorem refl (s : State) : TimerKept s s := ⟨rfl, rfl⟩

theorem trans (h : TimerKept s t) (h' : TimerKept t u) : TimerKept s u :=
  ⟨h'.timer.trans h.timer, h'.runState.trans h.runState⟩

theorem of_blocks (timer : t.timer = s.timer) (run : t.run = s.run) : TimerKept s t := ⟨timer, by rw [run]⟩

end TimerKept

theorem retestWait_timerKept (s : State) : TimerKept s s.retestWait := .of_blocks (retestWait_timer s) (retestWait_run s)

theorem startWait_timerKept (s : State) (cmd : QueuedCommand) : TimerKept s (s.startWait cmd) := by
  unfold State.startWait
  dsimp only
  split
  · exact ⟨rfl, rfl⟩
  · exact .of_blocks (retestWait_timer _) (retestWait_run _)

theorem settleHandedWait_timerKept (s : State) : TimerKept s s.settleHandedWait := by
  unfold State.settleHandedWait
  split
  · split
    · exact startWait_timerKept ..
    · exact .refl s
  · exact .refl s

theorem purged_timerKept (s : State) : TimerKept s s.purged :=
  (settleHandedWait_timerKept s).trans (.of_blocks (breakWait_timer ..) (breakWait_run ..))

theorem controlWrite_timerKept (s : State) (value : Word) : TimerKept s (s.controlWrite value) := by
  unfold State.controlWrite
  split
  · exact ⟨rfl, rfl⟩
  · split
    · exact purged_timerKept s
    · exact .refl s

theorem submitted_timerKept (s : State) (value : Word) : TimerKept s (s.submitted value) := by
  unfold State.submitted
  split <;> exact ⟨rfl, rfl⟩

theorem popped_timerKept (s : State) : TimerKept s s.popped := by
  unfold State.popped
  split <;> exact ⟨rfl, rfl⟩

theorem writeNoticeMode_timerKept (s : State) (value : Word) : TimerKept s (s.writeNoticeMode value) := by
  unfold State.writeNoticeMode
  split
  · split <;> exact ⟨rfl, rfl⟩
  · exact ⟨rfl, rfl⟩

theorem writeNoticeDone_timerKept (s : State) : TimerKept s s.writeNoticeDone := by
  unfold State.writeNoticeDone
  split <;> exact ⟨rfl, rfl⟩

theorem readRegister_timerKept (s : State) (offset : BitVec 7) : TimerKept s (s.readRegister offset) := by
  have effect : TimerKept s (s.readEffect offset) := by
    unfold State.readEffect State.pushTaken
    split
    · split <;> exact ⟨rfl, rfl⟩
    · split <;> exact ⟨rfl, rfl⟩
  exact effect.trans ⟨rfl, rfl⟩

theorem writeRegister_timerKept (s : State) (offset : Nat) (value : Word) : TimerKept s (s.writeRegister offset value) := by
  unfold State.writeRegister
  split
  · exact ⟨rfl, rfl⟩
  · exact ⟨rfl, rfl⟩
  · split
    · exact controlWrite_timerKept ..
    · exact ⟨rfl, rfl⟩
    · exact submitted_timerKept ..
    · exact popped_timerKept s
    · exact ⟨rfl, rfl⟩
    · exact ⟨rfl, rfl⟩
    · exact writeNoticeMode_timerKept ..
    · exact writeNoticeDone_timerKept s
    · exact ⟨rfl, rfl⟩

/-! ### The effects of engine operations -/

theorem withAccount_timerKept {s : State} (number : Nat) (f : Fin 64 → State × Answer)
    (h : ∀ slot, TimerKept s (f slot).1) : TimerKept s (s.withAccount number f).1 := by
  rcases withAccount_cases s number f with hw | ⟨slot, -, hw⟩ <;> rw [hw]
  · exact .refl s
  · exact h slot

theorem withPoint_timerKept {s : State} (field : Word) (f : Fin 16 → State × Answer) (h : ∀ p, TimerKept s (f p).1) :
    TimerKept s (s.withPoint field f).1 := by
  rcases withPoint_cases s field f with hs | ⟨p, hs⟩ <;> rw [hs]
  · exact .refl s
  · exact h p

theorem withBoundPoint_timerKept {s : State} (field : Word) (f : Fin 16 → State × Answer)
    (h : ∀ p, TimerKept s (f p).1) : TimerKept s (s.withBoundPoint field f).1 := by
  rcases withBoundPoint_cases s field f with hs | ⟨p, -, hs⟩ <;> rw [hs]
  · exact .refl s
  · exact h p

theorem changeAccount_timerKept (s : State) (slot : Fin 64) (a : Account) (before : Level) (extra : Reasons) :
    TimerKept s (s.changeAccount slot a before extra) := .of_blocks (changeAccount_timer ..) (changeAccount_run ..)

theorem storeBalance_timerKept (s : State) (slot : Fin 64) (balance : Int) (extra : Reasons) (urgent : Bool) :
    TimerKept s (s.storeBalance slot balance extra urgent) := .of_blocks (storeBalance_timer ..) (storeBalance_run ..)

/-- A number enters the directory, and its slot takes a record (R117, R131). -/
theorem enterAccount_timerKept (s : State) (number : Nat) (slot : Fin 64) (a : Account) (before : Level) (page : Fin 9) :
    TimerKept s (((s.insertDirectory number slot).changeAccount slot a before {}).report page true) :=
  TimerKept.trans (t := s.insertDirectory number slot) ⟨rfl, rfl⟩ ((changeAccount_timerKept ..).trans ⟨rfl, rfl⟩)

theorem openEffect_timerKept (f : Vector Word 7) (s : State) : TimerKept s (openEffect f s).1 := by
  unfold openEffect
  split
  · exact .refl s
  split
  · exact .refl s
  split
  · exact .refl s
  · exact enterAccount_timerKept ..

theorem closeEffect_timerKept (f : Vector Word 7) (s : State) : TimerKept s (closeEffect f s).1 := by
  unfold closeEffect
  split
  · exact .refl s
  · exact withAccount_timerKept _ _ fun slot => by split <;> exact ⟨rfl, rfl⟩

theorem creditEffect_timerKept (f : Vector Word 7) (s : State) : TimerKept s (creditEffect f s).1 := by
  unfold creditEffect
  split
  · refine withAccount_timerKept _ _ fun slot => ?_
    split
    · exact .refl s
    · exact storeBalance_timerKept ..
  · exact .refl s

theorem debitEffect_timerKept (f : Vector Word 7) (s : State) : TimerKept s (debitEffect f s).1 := by
  unfold debitEffect
  split
  · exact .refl s
  · refine withAccount_timerKept _ _ fun slot => ?_
    split
    · exact .refl s
    · exact storeBalance_timerKept ..

theorem transferEffect_timerKept (f : Vector Word 7) (s : State) : TimerKept s (transferEffect f s).1 := by
  unfold transferEffect State.transferBetween
  split
  · exact .refl s
  split
  · exact .refl s
  · exact .refl s
  split
  · exact .refl s
  split
  · exact .refl s
  · exact .refl s
  split
  · exact .refl s
  · exact (storeBalance_timerKept ..).trans (storeBalance_timerKept ..)

theorem amendEffect_timerKept (f : Vector Word 7) (s : State) : TimerKept s (amendEffect f s).1 := by
  unfold amendEffect
  split
  · exact .refl s
  · refine withAccount_timerKept _ _ fun slot => ?_
    dsimp only
    split
    · exact .refl s
    · exact (changeAccount_timerKept ..).trans ⟨rfl, rfl⟩

theorem statusEffect_timerKept (status : Status) (f : Vector Word 7) (s : State) :
    TimerKept s (statusEffect status f s).1 := by
  unfold statusEffect
  split
  · exact .refl s
  · refine withAccount_timerKept _ _ fun slot => ?_
    split
    · exact .refl s
    · exact (changeAccount_timerKept ..).trans ⟨rfl, rfl⟩

theorem repairEffect_timerKept (f : Vector Word 7) (s : State) : TimerKept s (repairEffect f s).1 := by
  unfold repairEffect
  split
  · exact .refl s
  dsimp only
  split
  · exact .refl s
  split
  · exact .refl s
  · exact enterAccount_timerKept ..

theorem discardEffect_timerKept (f : Vector Word 7) (s : State) : TimerKept s (discardEffect f s).1 := by
  unfold discardEffect
  split
  · exact .refl s
  dsimp only
  split <;> exact ⟨rfl, rfl⟩

theorem nextAttentionEffect_timerKept (f : Vector Word 7) (s : State) : TimerKept s (nextAttentionEffect f s).1 := by
  unfold nextAttentionEffect
  split <;> exact ⟨rfl, rfl⟩

theorem bindEffect_timerKept (f : Vector Word 7) (s : State) : TimerKept s (bindEffect f s).1 := by
  refine withPoint_timerKept _ _ fun p => ?_
  split
  · exact .refl s
  split
  · exact .refl s
  split <;> exact ⟨rfl, rfl⟩

theorem unbindEffect_timerKept (f : Vector Word 7) (s : State) : TimerKept s (unbindEffect f s).1 := by
  refine withBoundPoint_timerKept _ _ fun p => ?_
  split <;> exact ⟨rfl, rfl⟩

theorem applyRequest_timerKept (s : State) (r : ApplyRequest) : TimerKept s (s.applyRequest r).1 := by
  unfold State.applyRequest
  split
  · exact .refl s
  split
  · exact .refl s
  split
  · exact .refl s
  split
  · exact .refl s
  · exact (storeBalance_timerKept ..).trans ⟨rfl, rfl⟩

/-! ### The effects of commands that their blocks answer -/

theorem configureEffect_timerKept (f : Vector Word 7) (s : State) : TimerKept s (configureEffect f s).1 :=
  withPoint_timerKept _ _ fun _ => by split <;> exact ⟨rfl, rfl⟩

theorem setDeferEffect_timerKept (f : Vector Word 7) (s : State) : TimerKept s (setDeferEffect f s).1 := by
  unfold setDeferEffect State.setDeferral
  split
  · exact .refl s
  split
  · exact .refl s
  split <;> exact ⟨rfl, rfl⟩

theorem setTopupEffect_timerKept (f : Vector Word 7) (s : State) : TimerKept s (setTopupEffect f s).1 := by
  unfold setTopupEffect
  split <;> exact ⟨rfl, rfl⟩

theorem setIntervalEffect_timerKept (f : Vector Word 7) (s : State) : TimerKept s (setIntervalEffect f s).1 := by
  unfold setIntervalEffect
  split <;> exact ⟨rfl, rfl⟩

/-! ### The rows that leave them alone -/

theorem completeCommand_timerKept (s : State) (code : Byte) {effect : Vector Word 7 → State → State × Answer}
    (h : ∀ f u, TimerKept u (effect f u).1) : TimerKept s (s.completeCommand code effect) := by
  unfold State.completeCommand
  split
  · rename_i cmd owned _
    split
    · refine TimerKept.trans (t := s.freeEngine) ⟨rfl, rfl⟩ ((h cmd.params _).trans (.trans ?_ (retestWait_timerKept _)))
      split <;> exact ⟨rfl, rfl⟩
    · exact .refl s
  · exact .refl s

theorem takeCommand_timerKept (s : State) (code : Byte) {effect : Vector Word 7 → State → State × Answer}
    (h : ∀ f u, TimerKept u (effect f u).1) : TimerKept s (s.takeCommand code effect) := by
  unfold State.takeCommand
  split
  · split
    · exact (h _ _).trans ⟨rfl, rfl⟩
    · exact .refl s
  · exact .refl s

/-- An effect that changes no state. -/
theorem timerKept_of_state {effect : Vector Word 7 → State → State × Answer} (h : ∀ f u, (effect f u).1 = u) :
    ∀ f u, TimerKept u (effect f u).1 := fun f u => by rw [h]; exact .refl u

/-- The next state has the Period Timer and the run state of the state before. -/
def SameTimer (s : State) : Host.Outcome State Fault Refusal → Prop
  | .next u => TimerKept s u
  | .fault _ => True
  | .refused _ => True

/-- A register access is served, or changes nothing. -/
theorem served_sameTimer {s u : State} (h : TimerKept s u) : SameTimer s (.next (if s.served then u else s)) := by
  unfold SameTimer
  dsimp only
  split
  · exact h
  · exact .refl s

theorem setPort_retest_sameTimer (s : State) (port : TopUpPort) : SameTimer s (.next (s.setPort port).retestWait) :=
  TimerKept.trans (t := s.setPort port) ⟨rfl, rfl⟩ (retestWait_timerKept _)

theorem graceExpiry_sameTimer (p : Fin 16) (s : State) : SameTimer s (exec (.graceExpiry p) s) := by
  simp only [exec, execGraceExpiry, SameTimer]
  split <;> exact ⟨rfl, rfl⟩

theorem routinePageEligible_sameTimer (page : Fin 9) (s : State) : SameTimer s (exec (.routinePageEligible page) s) := by
  simp only [exec, execRoutinePageEligible, SameTimer]
  split
  · split <;> exact ⟨rfl, rfl⟩
  · exact .refl s

theorem waitTimeout_sameTimer (s : State) : SameTimer s (exec .waitTimeout s) := by
  simp only [exec, execWaitTimeout, SameTimer]
  split
  · split <;> exact ⟨rfl, rfl⟩
  · exact .refl s

theorem meterLineChange_sameTimer (p : Fin 16) (s : State) : SameTimer s (exec (.meterLineChange p) s) := ⟨rfl, rfl⟩

theorem debounceComplete_sameTimer (p : Fin 16) (s : State) : SameTimer s (exec (.debounceComplete p) s) := by
  simp only [exec, execDebounceComplete, SameTimer]
  split <;> exact ⟨rfl, rfl⟩

theorem engineGrant_sameTimer (s : State) : SameTimer s (exec .engineGrant s) := by
  simp only [exec, execEngineGrant, SameTimer]
  split
  case isFalse => exact .refl s
  unfold State.grant
  split
  · exact ⟨rfl, rfl⟩
  split
  · unfold State.startCharge
    split <;> exact ⟨rfl, rfl⟩
  split
  · exact ⟨rfl, rfl⟩
  split
  · exact ⟨rfl, rfl⟩
  split <;> exact ⟨rfl, rfl⟩

theorem charge_sameTimer (s : State) : SameTimer s (exec .charge s) := by
  simp only [exec, execCharge, SameTimer]
  split
  · exact .of_blocks (by simp) (by simp)
  · exact .refl s

theorem applyFrame_sameTimer (s : State) : SameTimer s (exec .applyFrame s) := by
  simp only [exec, execApplyFrame, SameTimer]
  split
  · rename_i request owned _
    have answered : ∀ u reply, TimerKept u (State.answerKiosk u owned reply).retestWait := fun u reply => by
      refine .trans ?_ (retestWait_timerKept _)
      rw [answerKiosk_eq]
      exact ⟨rfl, rfl⟩
    exact TimerKept.trans (t := s.freeEngine) ⟨rfl, rfl⟩ ((applyRequest_timerKept _ request).trans (answered _ _))
  · exact .refl s

theorem gather_sameTimer (s : State) : SameTimer s (exec .gather s) := by
  simp only [exec, execGather, SameTimer]
  split
  · split
    · exact .of_blocks (by simp) (by simp)
    · exact .refl s
  · exact .refl s

theorem commandStart_sameTimer (s : State) : SameTimer s (exec .commandStart s) := by
  simp only [exec, execCommandStart, SameTimer]
  split
  · split <;> exact ⟨rfl, rfl⟩
  · exact .refl s

theorem badCommand_sameTimer (s : State) : SameTimer s (exec .badCommand s) := by
  simp only [exec, execBadCommand, SameTimer]
  split
  · split <;> exact ⟨rfl, rfl⟩
  · exact .refl s

theorem wait_sameTimer (s : State) : SameTimer s (exec .wait s) := settleHandedWait_timerKept s

theorem bind_sameTimer (s : State) : SameTimer s (exec .bind s) := by
  have refused : TimerKept s (s.takeCommand 0x10 bindRefusal) :=
    takeCommand_timerKept s _ fun _ u => withPoint_timerKept _ _ fun _ => .refl u
  simp only [exec, execBind, SameTimer]
  split
  · split
    · exact completeCommand_timerKept s _ bindEffect_timerKept
    · exact refused
  · exact refused

theorem unbind_sameTimer (s : State) : SameTimer s (exec .unbind s) := by
  simp only [exec, execUnbind, SameTimer]
  split
  · split
    · split
      · exact ⟨rfl, rfl⟩
      · split <;> exact ⟨rfl, rfl⟩
    · exact .refl s
  · exact .refl s

theorem unbindDetach_sameTimer (s : State) : SameTimer s (exec .unbindDetach s) := by
  have detached := completeCommand_timerKept s 0x11 unbindEffect_timerKept
  simp only [exec, execUnbindDetach, SameTimer]
  split
  · exact detached.trans ⟨rfl, rfl⟩
  · exact detached

theorem commit_sameTimer (s : State) : SameTimer s (exec .commit s) := by
  simp only [exec, execCommit, SameTimer]
  split
  · split
    · unfold State.takeCommit
      dsimp only
      split <;> exact ⟨rfl, rfl⟩
    · exact .refl s
  · exact .refl s

theorem commitStart_sameTimer (s : State) : SameTimer s (exec .commitStart s) := by
  simp only [exec, execCommitStart, SameTimer]
  split
  · split
    · split <;> exact ⟨rfl, rfl⟩
    · exact .refl s
  · exact .refl s

theorem eraseComplete_sameTimer (s : State) : SameTimer s (exec .eraseComplete s) := by
  simp only [exec, execEraseComplete, SameTimer]
  split <;> exact ⟨rfl, rfl⟩

theorem programComplete_sameTimer (written : Bool) (s : State) : SameTimer s (exec (.programComplete written) s) := by
  simp only [exec, execProgramComplete, SameTimer]
  split <;> exact ⟨rfl, rfl⟩

theorem settleWanted_timerKept (s : State) (page : Fin 9) (succeeded : Bool) :
    TimerKept s (s.settleWanted page succeeded) := by
  unfold State.settleWanted State.finishCommit
  split
  · exact .refl s
  · dsimp only
    split
    · split <;> exact ⟨rfl, rfl⟩
    · exact ⟨rfl, rfl⟩

theorem verifyComplete_sameTimer (s : State) : SameTimer s (exec .verifyComplete s) := by
  have settled : ∀ u page succeeded, TimerKept s u → TimerKept s (State.settleWanted u page succeeded).retestWait :=
    fun u page succeeded h => h.trans ((settleWanted_timerKept u page succeeded).trans (retestWait_timerKept _))
  simp only [exec, execVerifyComplete, SameTimer]
  split
  · split
    · exact settled _ _ _ ⟨rfl, rfl⟩
    · split
      · exact settled _ _ _ (.of_blocks (by simp [State.commitFailed]) (by simp [State.commitFailed]))
      · exact ⟨rfl, rfl⟩
  · exact .refl s

theorem collision_sameTimer (bit : Fin 8) (s : State) : SameTimer s (exec (.collision bit) s) := by
  simp only [exec, execCollision, SameTimer]
  split
  · exact setPort_retest_sameTimer s _
  · exact .refl s

end Sys2Proof.Machine.Proofs

namespace Sys2Proof.Machine.Proofs

open Sys2Proof Sys2Proof.Machine Sys2Proof.Machine.Laws

/-! ### A period boundary (R86, R89) -/

/-- The Period Timer after a boundary: the count loaded, and the sweep by the table of R89. -/
def boundaryTimer (runState : RunState) (timer : PeriodTimer) : PeriodTimer :=
  if timer.owed = true then { timer with remaining := timer.periodLength }
  else if runState = .run ∧ timer.sweep = .idle then
    { timer with remaining := timer.periodLength, sweep := .running, cursor := 0, owed := false }
  else { timer with remaining := timer.periodLength, owed := true }

/-- The Notice Controller after a boundary: one that finds a boundary owed already sets SWEEP_LATE. -/
def boundaryNotice (timer : PeriodTimer) (notice : NoticeController) : NoticeController :=
  if timer.owed = true then { notice with errors := { notice.errors with sweepLate := true } } else notice

/-- The state after a boundary, but for what it brings to an executing WAIT. -/
def boundaryTaken (s : State) : State :=
  { s with timer := boundaryTimer s.run.runState s.timer, notice := boundaryNotice s.timer s.notice }

theorem takeBoundary_of_notWaiting {s : State} (h : NotWaiting s) : s.takeBoundary = boundaryTaken s := by
  unfold State.takeBoundary boundaryTaken boundaryTimer boundaryNotice
  dsimp only
  split
  · rename_i cmd w hx
    exact absurd hx (h cmd w)
  · split
    · rfl
    · split <;> rfl

/-- The latch of an executing WAIT is set, and its conditions re-tested (R107, R108). -/
theorem takeBoundary_waiting {s : State} {cmd : QueuedCommand} {w : WaitState}
    (h : s.proc.executing = some { cmd, phase := .waiting w }) :
    s.takeBoundary = State.retestWait { boundaryTaken s with proc := { s.proc with periodLatch := true } } := by
  unfold State.takeBoundary boundaryTaken boundaryTimer boundaryNotice
  rw [h]
  dsimp only
  split
  · rfl
  · split <;> rfl

/-- A re-test reaches the Command Processor alone. -/
theorem retestWait_blocks (s : State) : ∃ proc, s.retestWait = { s with proc } := by
  rcases retestWait_cases s with h | ⟨cmd, w, -, -, h⟩
  · exact ⟨s.proc, h⟩
  · exact ⟨_, h.trans (endWait_eq s cmd w .done)⟩

/-- Beside the boundary, only the Command Processor hears of it. -/
theorem takeBoundary_blocks (s : State) : ∃ proc, s.takeBoundary = { boundaryTaken s with proc } := by
  by_cases h : NotWaiting s
  · exact ⟨s.proc, takeBoundary_of_notWaiting h⟩
  · simp only [NotWaiting, not_forall, not_not] at h
    obtain ⟨cmd, w, hx⟩ := h
    rw [takeBoundary_waiting hx]
    exact retestWait_blocks { boundaryTaken s with proc := { s.proc with periodLatch := true } }

/-! ### A tick at the Period Timer (R84, R86) -/

/-- The state after the period count has taken a tick, but for what a boundary brings to an executing WAIT. -/
def periodTicked (s : State) : State :=
  if s.timer.remaining ≤ 1 then boundaryTaken s
  else { s with timer := { s.timer with remaining := s.timer.remaining - 1 } }

theorem periodTicked_blind : ProcBlind periodTicked :=
  .ite (c := fun s => s.timer.remaining ≤ 1) (fun _ _ => Iff.rfl) (fun _ _ => rfl) fun _ _ => rfl

theorem periodTicked_boundary {s : State} (h : s.timer.remaining ≤ 1) : periodTicked s = boundaryTaken s := if_pos h

theorem periodTicked_counts {s : State} (h : 1 < s.timer.remaining) :
    periodTicked s = { s with timer := { s.timer with remaining := s.timer.remaining - 1 } } := if_neg (Nat.not_le.mpr h)

theorem tickPeriod_blocks (s : State) : ∃ proc, s.tickPeriod = { periodTicked s with proc } := by
  unfold State.tickPeriod periodTicked
  split
  · exact takeBoundary_blocks s
  · exact ⟨s.proc, rfl⟩

theorem tickWait_blocks (s : State) : ∃ proc, s.tickWait = { s with proc } := by
  unfold State.tickWait
  split
  · split
    · exact ⟨s.proc, rfl⟩
    · split <;> exact ⟨_, rfl⟩
  · exact ⟨s.proc, rfl⟩

/-- The state when the points and the Commit Engine have taken a tick (R60, R174). -/
def agedState (s : State) : State := s.tickPoints.tickCommit

theorem exec_tick {s : State} (ho : s.operating = true) (conditionFirst : Bool) :
    exec (.tick conditionFirst) s =
      .next (if conditionFirst then (agedState s).tickPeriod.tickWait
        else (agedState s).tickWait.tickPeriod) := by
  simp only [exec, execTick, if_pos ho, agedState]

/-- A tick while the part operates: the Period Timer beside the points and the ages, and whatever the Command Processor makes
of it. -/
theorem tick_blocks {s : State} (ho : s.operating = true) (conditionFirst : Bool) :
    ∃ proc, exec (.tick conditionFirst) s = .next { periodTicked (agedState s) with proc } := by
  rw [exec_tick ho]
  cases conditionFirst
  · obtain ⟨proc, waited⟩ := tickWait_blocks (agedState s)
    obtain ⟨proc', counted⟩ := tickPeriod_blocks { agedState s with proc }
    rw [periodTicked_blind] at counted
    exact ⟨proc', congrArg _ ((congrArg _ waited).trans counted)⟩
  · obtain ⟨proc, counted⟩ := tickPeriod_blocks (agedState s)
    obtain ⟨proc', waited⟩ := tickWait_blocks { periodTicked (agedState s) with proc }
    exact ⟨proc', congrArg _ ((congrArg _ counted).trans waited)⟩

/-- Settles O11: the boundary as the tick that finds 1 brings it, and as the row takes it. -/
theorem boundaryActsByTable : Obligations.BoundaryActsByTable := by
  refine fun s ho => ⟨fun conditionFirst last => ?_, fun ended idle => ?_⟩
  · obtain ⟨proc, ht⟩ := tick_blocks ho conditionFirst
    rw [periodTicked_boundary (s := agedState s) last.le] at ht
    exact ⟨_, ht, rfl, rfl, rfl, rfl, rfl, rfl⟩
  · simp only [exec, execPeriodBoundary, ho, ended, and_self, if_true]
    exact congrArg _ (takeBoundary_of_notWaiting idle)

end Sys2Proof.Machine.Proofs

namespace Sys2Proof.Machine.Proofs

open Sys2Proof Sys2Proof.Machine Sys2Proof.Machine.Laws

/-! ### The period counter and the sweep in range (R85, R86, R89, R92) -/

/-- The period counter and the sweep in range, LOADING aside. -/
structure PeriodSound (s : State) : Prop where
  low : 60 ≤ s.timer.periodLength
  high : s.timer.periodLength ≤ 86400
  counting : s.operating = true → 1 ≤ s.timer.remaining ∧ s.timer.remaining ≤ s.timer.periodLength
  paused : s.timer.sweep = .paused → s.warned = true
  idle : s.run.runState = .run → s.timer.sweep = .idle → s.timer.owed = false

theorem periodInRange_iff (s : State) : PeriodInRange s ↔ LoadingQuiet s ∧ PeriodSound s :=
  and_congr_right' ⟨fun ⟨a, b, c, d, e⟩ => ⟨a, b, c, d, e⟩, fun ⟨a, b, c, d, e⟩ => ⟨a, b, c, d, e⟩⟩

theorem warned_of_runState {s t : State} (h : t.run.runState = s.run.runState) : t.warned = s.warned := by
  simp only [State.warned, h]

theorem warned_iff (s : State) : s.warned = true ↔ s.run.runState = .holdup ∨ s.run.runState = .safe := by
  simp only [State.warned, Bool.or_eq_true, beq_iff_eq]

namespace PeriodSound

variable {s t : State}

theorem congr (h : PeriodSound s) (k : TimerKept s t) : PeriodSound t := by
  obtain ⟨timer, runState⟩ := k
  obtain ⟨low, high, counting, paused, idle⟩ := h
  constructor
  · rwa [timer]
  · rwa [timer]
  · rwa [timer, operating_of_runState runState]
  · rwa [timer, warned_of_runState runState]
  · rwa [timer, runState]

/-- Before LOADING ends nothing counts and the sweep is IDLE. -/
theorem of_quiet (low : 60 ≤ t.timer.periodLength) (high : t.timer.periodLength ≤ 86400) (ho : t.operating = false)
    (sweep : t.timer.sweep = .idle) : PeriodSound t where
  low := low
  high := high
  counting operates := by simp [ho] at operates
  paused c := by simp [sweep] at c
  idle c := by simp [State.operating, c] at ho

/-- The count and the sweep move, the length stays. -/
theorem of_length (h : PeriodSound s) (length : t.timer.periodLength = s.timer.periodLength)
    (counting : 1 ≤ t.timer.remaining ∧ t.timer.remaining ≤ s.timer.periodLength)
    (paused : t.timer.sweep = .paused → t.warned = true)
    (idle : t.run.runState = .run → t.timer.sweep = .idle → t.timer.owed = false) : PeriodSound t :=
  ⟨by rw [length]; exact h.low, by rw [length]; exact h.high, fun _ => by rwa [length], paused, idle⟩

end PeriodSound

/-- A boundary loads the count, and leaves an IDLE sweep in RUN only where nothing is owed (R86, R89). -/
theorem boundaryTaken_sound {s : State} (h : PeriodSound s) : PeriodSound (boundaryTaken s) := by
  have loaded : 1 ≤ s.timer.periodLength ∧ s.timer.periodLength ≤ s.timer.periodLength :=
    ⟨le_trans (by decide) h.low, le_rfl⟩
  unfold boundaryTaken boundaryTimer
  split
  · exact h.of_length rfl loaded h.paused h.idle
  split
  · exact h.of_length rfl loaded nofun nofun
  · rename_i busy
    exact h.of_length rfl loaded h.paused fun run idle => absurd ⟨run, idle⟩ busy

theorem periodTicked_sound {s : State} (ho : s.operating = true) (h : PeriodSound s) : PeriodSound (periodTicked s) := by
  obtain ⟨-, most⟩ := h.counting ho
  rcases Nat.lt_or_ge 1 s.timer.remaining with more | last
  · rw [periodTicked_counts more]
    exact h.of_length rfl ⟨by dsimp only; omega, by dsimp only; omega⟩ h.paused h.idle
  · rw [periodTicked_boundary last]
    exact boundaryTaken_sound h

/-- The sweep moves on: PAUSED only in HOLDUP and SAFE, and at its end started again in RUN by a boundary owed (R90 to R92). -/
theorem advanceSweep_sound {s : State} (h : PeriodSound s) : PeriodSound s.advanceSweep := by
  have moved : ∀ t : State, t.run = s.run → t.timer.periodLength = s.timer.periodLength →
      t.timer.remaining = s.timer.remaining → (t.timer.sweep = .paused → s.warned = true) →
      (s.run.runState = .run → t.timer.sweep = .idle → t.timer.owed = false) → PeriodSound t :=
    fun t run length remaining paused idle =>
      ⟨by rw [length]; exact h.low, by rw [length]; exact h.high,
        by rw [length, remaining, operating_of_runState (s := s) (by rw [run])]; exact h.counting,
        by rwa [warned_of_runState (s := s) (by rw [run])], by rwa [run]⟩
  unfold State.advanceSweep
  split
  · refine moved _ rfl rfl rfl (fun paused => ?_) fun _ idle => ?_
    · by_contra notWarned
      simp [notWarned] at paused
    · dsimp only at idle
      split at idle <;> cases idle
  · unfold State.endSweep
    split
    · exact moved _ rfl rfl rfl nofun nofun
    · rename_i ends
      refine moved _ rfl rfl rfl nofun fun run _ => ?_
      simpa [State.warned, run] using ends

/-! ### The rows that move the Period Timer or the run state -/

theorem volatileReset_sound {t : State} (timer : t.timer = PeriodTimer.atReset) (ho : t.operating = false) : PeriodSound t :=
  .of_quiet (by rw [timer]; decide) (by rw [timer]; decide) ho (by rw [timer]; rfl)

theorem loadPeriod_range (stored : Word) :
    60 ≤ (loadPeriod stored).getD 3600 ∧ (loadPeriod stored).getD 3600 ≤ 86400 := by
  unfold loadPeriod
  split
  · assumption
  · decide

/-- Whatever the class of the settings page, the period length it loads as is in range (R85, R186). -/
theorem applySettingsPage_periodLength (s : State) :
    60 ≤ s.applySettingsPage.timer.periodLength ∧ s.applySettingsPage.timer.periodLength ≤ 86400 := by
  have taken : ∀ stored, 60 ≤ (s.takeSettings stored).timer.periodLength ∧
    (s.takeSettings stored).timer.periodLength ≤ 86400 := fun stored => loadPeriod_range stored.periodLength
  unfold State.applySettingsPage
  split
  · exact taken defaultSettings
  · rename_i stored _
    split <;> exact taken stored
  · exact taken defaultSettings
  · exact taken defaultSettings

theorem enterHoldup_timer (s : State) (conditionFirst : Bool) : (s.enterHoldup conditionFirst).timer = s.timer := by
  unfold State.enterHoldup State.enterHoldupBlocks
  dsimp only
  split <;> simp [(settleHandedWait_timerKept s).timer]

theorem endLoading_timer (s : State) :
    s.endLoading.timer = { s.timer with remaining := s.timer.periodLength } := by
  unfold State.endLoading
  dsimp only
  split
  · exact enterHoldup_timer ..
  · rfl

/-- The warning leaves an idle sweep and what it owes as they are (R194). -/
theorem entryToHoldup_sound {conditionFirst : Bool} {s t : State} (h : exec (.entryToHoldup conditionFirst) s = .next t)
    (hp : PeriodSound s) : PeriodSound t := by
  simp only [exec, execEntryToHoldup, Host.Outcome.next.injEq] at h
  subst h
  split
  · rename_i run
    obtain ⟨-, -, holdup, -⟩ := enterHoldup_kept { s with run.pfwAsserted := true } conditionFirst
    have timer := enterHoldup_timer { s with run.pfwAsserted := true } conditionFirst
    refine hp.of_length (by rw [timer]) ?_ (fun _ => (warned_iff _).mpr (.inl holdup)) fun c => ?_
    · rw [timer]
      exact hp.counting ((operating_iff s).mpr (.inl run))
    · rw [holdup] at c
      cases c
  · exact hp.congr ⟨rfl, rfl⟩

theorem entryToSafe_sound {s t : State} (h : exec .entryToSafe s = .next t) (hp : PeriodSound s) : PeriodSound t := by
  simp only [exec, execEntryToSafe, Host.Outcome.next.injEq] at h
  subst h
  split
  · rename_i done
    exact hp.of_length rfl (hp.counting ((operating_iff s).mpr (.inr (.inl done.1)))) (fun _ => rfl) nofun
  · exact hp

/-- The sweep at the return to RUN: a PAUSED one goes on, and an IDLE one starts when a boundary is owed (R92). -/
theorem returnToRun_sound {s t : State} (h : exec .returnToRun s = .next t) (hp : PeriodSound s) : PeriodSound t := by
  simp only [exec, execReturnToRun, Host.Outcome.next.injEq] at h
  subst h
  split
  · rename_i warned
    have counting := hp.counting ((operating_iff s).mpr (.inr ((warned_iff s).mp warned)))
    unfold State.resumeSweep
    split
    · exact hp.of_length rfl counting nofun nofun
    · rename_i running
      exact hp.of_length rfl counting (fun c => by cases running.symm.trans c) fun _ c => by cases running.symm.trans c
    · rename_i idle
      split
      · exact hp.of_length rfl counting nofun nofun
      · rename_i nothing
        exact hp.of_length rfl counting (fun c => by cases idle.symm.trans c) fun _ _ => by simpa using nothing
  · exact hp.congr ⟨rfl, rfl⟩

theorem reset_sound {s t : State} (h : exec .reset s = .next t) : PeriodSound t := by
  simp only [exec, execReset, Host.Outcome.next.injEq] at h
  subst h
  exact volatileReset_sound rfl rfl

theorem loadingStart_sound {s t : State} (h : exec .loadingStart s = .next t) (hp : PeriodSound s) : PeriodSound t := by
  simp only [exec, execLoadingStart, Host.Outcome.next.injEq] at h
  subst h
  split
  · exact volatileReset_sound rfl rfl
  · exact hp

theorem loadSettingsPage_sound {s t : State} (h : exec .loadSettingsPage s = .next t) (hq : LoadingQuiet s)
    (hp : PeriodSound s) : PeriodSound t := by
  simp only [exec, execLoadSettingsPage, Host.Outcome.next.injEq] at h
  subst h
  split
  · rename_i loading
    obtain ⟨low, high⟩ := applySettingsPage_periodLength s
    have idle : s.applySettingsPage.timer.sweep = .idle :=
      (applySettingsPage_taken s).sweep.trans (nothingInHand_of_loading hq loading.1).sweep
    exact .of_quiet low high (by simp [State.operating, loading.1]) idle
  · exact hp

/-- LOADING ends with the counter loaded and a quiet sweep (R192). -/
theorem loadAccountPage_sound {s t : State} (h : exec .loadAccountPage s = .next t) (hq : LoadingQuiet s)
    (hp : PeriodSound s) : PeriodSound t := by
  simp only [exec, execLoadAccountPage, Host.Outcome.next.injEq] at h
  subst h
  split
  case h_2 => exact hp
  case h_1 page loading _ =>
    have applied := applyAccountPage_frame s page
    have reconciled := reconcile_frame (s.applyAccountPage page) page
    have timer := reconciled.timer.trans applied.timer
    split
    · have loaded := endLoading_timer ((s.applyAccountPage page).reconcile page)
      rw [timer] at loaded
      have hand := nothingInHand_of_loading hq loading
      refine hp.of_length (by rw [loaded]) ?_ (fun c => ?_) fun _ _ => ?_
      · rw [loaded]
        exact ⟨le_trans (by decide) hp.low, le_rfl⟩
      · rw [loaded] at c
        cases hand.sweep.symm.trans c
      · rw [loaded]
        exact hand.owed
    · refine hp.congr ⟨timer, ?_⟩
      change ((s.applyAccountPage page).reconcile page).run.runState = _
      rw [reconciled.run, applied.run]

theorem tick_sound {conditionFirst : Bool} {s t : State} (h : exec (.tick conditionFirst) s = .next t)
    (hp : PeriodSound s) : PeriodSound t := by
  cases ho : s.operating with
  | true =>
    obtain ⟨proc, ht⟩ := tick_blocks ho conditionFirst
    rw [ht, Host.Outcome.next.injEq] at h
    subst h
    have aged : PeriodSound (agedState s) := hp.congr ⟨rfl, rfl⟩
    exact (periodTicked_sound (s := agedState s) ho aged).congr ⟨rfl, rfl⟩
  | false =>
    simp only [exec, execTick, ho, Bool.false_eq_true, if_false, Host.Outcome.next.injEq] at h
    subst h
    split
    · exact hp.congr ⟨rfl, rfl⟩
    · exact hp

theorem periodBoundary_sound {s t : State} (h : exec .periodBoundary s = .next t) (hp : PeriodSound s) : PeriodSound t := by
  simp only [exec, execPeriodBoundary, Host.Outcome.next.injEq] at h
  subst h
  split
  · obtain ⟨proc, ht⟩ := takeBoundary_blocks s
    rw [ht]
    exact (boundaryTaken_sound hp).congr ⟨rfl, rfl⟩
  · exact hp

theorem standing_sound {s t : State} (h : exec .standing s = .next t) (hp : PeriodSound s) : PeriodSound t := by
  simp only [exec, execStanding, Host.Outcome.next.injEq] at h
  subst h
  split
  · rename_i c amount _
    obtain ⟨run, timer, -⟩ := (standingPaid_kept s c amount).frame
    have paid : PeriodSound (standingPaid s c amount) := hp.congr (.of_blocks timer run)
    exact (advanceSweep_sound paid).congr (retestWait_timerKept _)
  · exact hp

/-! ### The settings commands of the Period Timer -/

/-- A command answered in the step it is taken keeps the period in range when its effect does. -/
theorem takeCommand_sound {s : State} (code : Byte) {effect : Vector Word 7 → State → State × Answer}
    (h : ∀ f, PeriodSound (effect f s).1) (hp : PeriodSound s) : PeriodSound (s.takeCommand code effect) := by
  unfold State.takeCommand
  split
  · split
    · exact (h _).congr ⟨rfl, rfl⟩
    · exact hp
  · exact hp

/-- Tariffs and band play no part in the period. -/
theorem PeriodSound.setPrices {s : State} (h : PeriodSound s) (tariffs : Vector Tariff 8) (band : Band) :
    PeriodSound { s with timer := { s.timer with tariffs, band } } := ⟨h.low, h.high, h.counting, h.paused, h.idle⟩

theorem setTariffEffect_sound {s : State} (h : PeriodSound s) (f : Vector Word 7) : PeriodSound (setTariffEffect f s).1 := by
  unfold setTariffEffect
  split
  · exact h
  · exact (h.setPrices _ s.timer.band).congr ⟨rfl, rfl⟩

theorem setBandEffect_sound {s : State} (h : PeriodSound s) (f : Vector Word 7) : PeriodSound (setBandEffect f s).1 := by
  unfold setBandEffect
  split
  · exact h
  · exact (h.setPrices s.timer.tariffs _).congr ⟨rfl, rfl⟩

/-- SET_PERIOD loads the counter with a length in range (R87). -/
theorem setPeriodEffect_sound {s : State} (h : PeriodSound s) (f : Vector Word 7) : PeriodSound (setPeriodEffect f s).1 := by
  unfold setPeriodEffect
  split
  · rename_i range
    exact ⟨range.1, range.2, fun _ => ⟨le_trans (by decide) range.1, le_rfl⟩, h.paused, h.idle⟩
  · exact h

/-! ### Every command -/

theorem SameTimer.sound {s t : State} {o : Host.Outcome State Fault Refusal} (same : SameTimer s o) (h : o = .next t)
    (hp : PeriodSound s) : PeriodSound t := by
  subst h
  exact hp.congr same

/-- The meaning of every command keeps the period counter and the sweep in range, beside a quiet LOADING. -/
theorem exec_sound {c : Instr} {s t : State} (h : exec c s = .next t) (hq : LoadingQuiet s) (hp : PeriodSound s) :
    PeriodSound t := by
  have engineServed : ∀ {code effect}, (∀ f u, TimerKept u (effect f u).1) →
      SameTimer s (.next (s.completeCommand code effect)) := fun he => completeCommand_timerKept s _ he
  have taken : ∀ {code effect}, (∀ f u, TimerKept u (effect f u).1) →
      SameTimer s (.next (s.takeCommand code effect)) := fun he => takeCommand_timerKept s _ he
  have ported : ∀ port, SameTimer s (.next (s.setPort port)) := fun _ => ⟨rfl, rfl⟩
  cases c with
  | reset => exact reset_sound h
  | loadingStart => exact loadingStart_sound h hp
  | loadSettingsPage => exact loadSettingsPage_sound h hq hp
  | loadAccountPage => exact loadAccountPage_sound h hq hp
  | entryToHoldup conditionFirst => exact entryToHoldup_sound h hp
  | entryToSafe => exact entryToSafe_sound h hp
  | returnToRun => exact returnToRun_sound h hp
  | tick conditionFirst => exact tick_sound h hp
  | periodBoundary => exact periodBoundary_sound h hp
  | graceExpiry p => exact (graceExpiry_sameTimer p s).sound h hp
  | routinePageEligible page => exact (routinePageEligible_sameTimer page s).sound h hp
  | waitTimeout => exact (waitTimeout_sameTimer s).sound h hp
  | meterLineChange p => exact (meterLineChange_sameTimer p s).sound h hp
  | debounceComplete p => exact (debounceComplete_sameTimer p s).sound h hp
  | engineGrant => exact (engineGrant_sameTimer s).sound h hp
  | charge => exact (charge_sameTimer s).sound h hp
  | standing => exact standing_sound h hp
  | applyFrame => exact (applyFrame_sameTimer s).sound h hp
  | gather => exact (gather_sameTimer s).sound h hp
  | submit value => exact (served_sameTimer (submitted_timerKept s value)).sound h hp
  | commandStart => exact (commandStart_sameTimer s).sound h hp
  | badCommand => exact (badCommand_sameTimer s).sound h hp
  | pop value => exact (served_sameTimer (popped_timerKept s)).sound h hp
  | purge value => exact (served_sameTimer (controlWrite_timerKept s value)).sound h hp
  | portReset value => exact (served_sameTimer (controlWrite_timerKept s value)).sound h hp
  | wait => exact (wait_sameTimer s).sound h hp
  | mark => exact (taken (effect := markEffect) fun _ _ => ⟨rfl, rfl⟩).sound h hp
  | openAccount => exact (engineServed openEffect_timerKept).sound h hp
  | closeAccount => exact (engineServed closeEffect_timerKept).sound h hp
  | credit => exact (engineServed creditEffect_timerKept).sound h hp
  | debit => exact (engineServed debitEffect_timerKept).sound h hp
  | transfer => exact (engineServed transferEffect_timerKept).sound h hp
  | query => exact (engineServed (timerKept_of_state queryEffect_state)).sound h hp
  | querySlot => exact (engineServed (timerKept_of_state querySlotEffect_state)).sound h hp
  | scan => exact (engineServed (timerKept_of_state scanEffect_state)).sound h hp
  | amend => exact (engineServed amendEffect_timerKept).sound h hp
  | suspend => exact (engineServed (statusEffect_timerKept _)).sound h hp
  | resume => exact (engineServed (statusEffect_timerKept _)).sound h hp
  | repair => exact (engineServed repairEffect_timerKept).sound h hp
  | discard => exact (engineServed discardEffect_timerKept).sound h hp
  | nextAttention => exact (engineServed nextAttentionEffect_timerKept).sound h hp
  | bind => exact (bind_sameTimer s).sound h hp
  | unbind => exact (unbind_sameTimer s).sound h hp
  | unbindDetach => exact (unbindDetach_sameTimer s).sound h hp
  | configurePoint => exact (taken configureEffect_timerKept).sound h hp
  | hold => exact (taken (effect := holdEffect) fun _ _ => withBoundPoint_timerKept _ _ fun _ => ⟨rfl, rfl⟩).sound h hp
  | release =>
    exact (taken (effect := releaseEffect) fun _ _ => withBoundPoint_timerKept _ _ fun _ => ⟨rfl, rfl⟩).sound h hp
  | queryPoint =>
    exact (taken (effect := queryPointEffect) fun _ _ => withPoint_timerKept _ _ fun _ => ⟨rfl, rfl⟩).sound h hp
  | setDefer => exact (taken setDeferEffect_timerKept).sound h hp
  | setTariff => cases h; exact takeCommand_sound 0x18 (setTariffEffect_sound hp) hp
  | setBand => cases h; exact takeCommand_sound 0x19 (setBandEffect_sound hp) hp
  | setPeriod => cases h; exact takeCommand_sound 0x1A (setPeriodEffect_sound hp) hp
  | setTopup => exact (taken setTopupEffect_timerKept).sound h hp
  | setInterval => exact (taken setIntervalEffect_timerKept).sound h hp
  | commit => exact (commit_sameTimer s).sound h hp
  | commitStart => exact (commitStart_sameTimer s).sound h hp
  | eraseComplete => exact (eraseComplete_sameTimer s).sound h hp
  | programComplete written => exact (programComplete_sameTimer written s).sound h hp
  | verifyComplete => exact (verifyComplete_sameTimer s).sound h hp
  | busStart => exact (setPort_retest_sameTimer s _).sound h hp
  | busStop => exact (setPort_retest_sameTimer s _).sound h hp
  | addressByte byte => exact (ported _).sound h hp
  | kindByte byte => exact (ported _).sound h hp
  | frameByte byte => exact (ported _).sound h hp
  | discardByte byte => exact (ported _).sound h hp
  | replyByte acknowledged => exact (setPort_retest_sameTimer s _).sound h hp
  | collision bit => exact (collision_sameTimer bit s).sound h hp
  | busTimeout => exact (setPort_retest_sameTimer s _).sound h hp
  | noticeReadyWrite value => exact (served_sameTimer (s := s) (u := s.writeNoticeReady value) ⟨rfl, rfl⟩).sound h hp
  | noticeEnableWrite value => exact (served_sameTimer (s := s) (u := s.writeNoticeEnable value) ⟨rfl, rfl⟩).sound h hp
  | noticeModeWrite value => exact (served_sameTimer (writeNoticeMode_timerKept s value)).sound h hp
  | noticeTake => exact (served_sameTimer (readRegister_timerKept s 0x19)).sound h hp
  | noticeDone value => exact (served_sameTimer (writeNoticeDone_timerKept s)).sound h hp
  | errorsWrite value => exact (served_sameTimer (s := s) (u := s.writeErrors value) ⟨rfl, rfl⟩).sound h hp
  | pointFlagsWrite p value => exact (served_sameTimer (s := s) (u := s.writePointFlags p value) ⟨rfl, rfl⟩).sound h hp
  | unassignedRead offset => exact (served_sameTimer (readRegister_timerKept s offset)).sound h hp
  | registerWrite offset value => exact (served_sameTimer (writeRegister_timerKept s offset.toNat value)).sound h hp

/-- Settles O57: the meaning of each command keeps the period counter and the sweep in range, and every outcome of a step
keeps LOADING quiet. -/
theorem everyStepKeepsPeriodInRange : Obligations.EveryStepKeepsPeriodInRange := by
  intro s t hs h
  obtain ⟨hq, hp⟩ := (periodInRange_iff s).mp hs
  unfold step at h
  split at h
  · cases h; exact hs
  · rename_i rest _
    have queued : PeriodSound { s with pending := rest } := hp.congr ⟨rfl, rfl⟩
    exact (periodInRange_iff t).mpr ⟨outcome_keeps_loadingQuiet (exec_outcome h) hq, exec_sound h hq queued⟩

end Sys2Proof.Machine.Proofs

namespace Sys2Proof.Machine.Proofs

open Sys2Proof Sys2Proof.Machine Sys2Proof.Machine.Laws

/-! ### A tick at an executing WAIT (R108) -/

/-- A WAIT with a timeout that the next tick brings to its end. -/
def WaitExpires (w : WaitState) : Prop := w.timeout ≠ 0 ∧ w.remaining ≤ 1

/-- A WAIT that has taken a tick and waits on; a timeout of 0 is never taken. -/
def waitLeft (w : WaitState) : WaitState := if w.timeout = 0 then w else { w with remaining := w.remaining - 1 }

theorem waitLeft_conditions (w : WaitState) : (waitLeft w).conditions = w.conditions := by
  unfold waitLeft
  split <;> rfl

/-- The processor with an executing WAIT in a state of its own. -/
def waitingWith (proc : CommandProcessor) (cmd : QueuedCommand) (w : WaitState) : CommandProcessor :=
  { proc with executing := some { cmd, phase := .waiting w } }

theorem waitingWith_self {proc : CommandProcessor} {cmd : QueuedCommand} {w : WaitState}
    (h : proc.executing = some { cmd, phase := .waiting w }) : waitingWith proc cmd w = proc := by
  rw [waitingWith, ← h]

section

variable {s : State} {cmd : QueuedCommand} {w : WaitState}

theorem tickWait_expires (h : s.proc.executing = some { cmd, phase := .waiting w }) (ends : WaitExpires w) :
    s.tickWait = waitEnded s cmd { w with remaining := 0 } .timeout := by
  simp only [State.tickWait, h, if_neg ends.1, if_pos ends.2, endWait_eq]

theorem tickWait_goesOn (h : s.proc.executing = some { cmd, phase := .waiting w }) (waits : ¬WaitExpires w) :
    s.tickWait = { s with proc := waitingWith s.proc cmd (waitLeft w) } := by
  unfold waitLeft
  by_cases untimed : w.timeout = 0
  · rw [if_pos untimed, waitingWith_self h]
    simp only [State.tickWait, h, if_pos untimed]
  · rw [if_neg untimed]
    simp only [State.tickWait, h, if_neg untimed, if_neg fun last => waits ⟨untimed, last⟩]
    rfl

end

theorem tickWait_idle {s : State} (h : s.proc.executing = none) : s.tickWait = s := by
  simp only [State.tickWait, h]

/-- A tick at the processor reads the processor and the conditions that hold, and no more. -/
theorem tickWait_proc_congr {s t : State} (proc : t.proc = s.proc) (held : t.conditionsHeld = s.conditionsHeld) :
    t.tickWait.proc = s.tickWait.proc := by
  by_cases h : NotWaiting s
  · have still : ∀ u : State, NotWaiting u → u.tickWait = u := fun u idle => by
      unfold State.tickWait
      split
      · rename_i cmd w hx
        exact absurd hx (idle cmd w)
      · rfl
    rw [still s h, still t (by simpa only [NotWaiting, proc] using h), proc]
  · simp only [NotWaiting, not_forall, not_not] at h
    obtain ⟨cmd, w, hx⟩ := h
    have hx' := (congrArg CommandProcessor.executing proc).trans hx
    by_cases ends : WaitExpires w
    · rw [tickWait_expires hx ends, tickWait_expires hx' ends]
      simp only [waitEnded, proc, held]
    · rw [tickWait_goesOn hx ends, tickWait_goesOn hx' ends, proc]

/-! ### Grace and ages change no condition of a WAIT (R107) -/

theorem ticked_chargeRequest (deferral : Bool) (p : Point) : (p.ticked deferral).chargeRequest = p.chargeRequest := by
  unfold Point.ticked Point.graceExpired
  split
  · split <;> rfl
  · rfl

theorem tickCommit_dirtyPages (s : State) : s.tickCommit.dirtyPages = s.dirtyPages := by
  unfold State.dirtyPages
  simp only [tickCommit_dirty, Option.isSome_map]

theorem agedState_conditionsHeld (s : State) : (agedState s).conditionsHeld = s.conditionsHeld := by
  have clean : (agedState s).commitClean = s.commitClean := by
    rw [State.commitClean, agedState, tickCommit_dirtyPages]
    rfl
  have charges : (agedState s).chargeOutstanding = s.chargeOutstanding := by
    change s.tickPoints.chargeOutstanding = _
    unfold State.chargeOutstanding
    simp only [tickPoints_point, ticked_chargeRequest]
  rw [State.conditionsHeld, clean, charges]
  rfl

/-! ### A tick that brings no boundary -/

/-- The timeout alone is taken, whichever comes first. -/
theorem tick_counts {s : State} (ho : s.operating = true) (h : 1 < s.timer.remaining) (conditionFirst : Bool) :
    ∃ t, exec (.tick conditionFirst) s = .next t ∧ t.proc = s.tickWait.proc := by
  have counts (t : State) (timer : t.timer = s.timer) :
      t.tickPeriod = { t with timer := { t.timer with remaining := t.timer.remaining - 1 } } :=
    if_neg (by rw [timer]; omega)
  rw [exec_tick ho]
  refine ⟨_, rfl, ?_⟩
  cases conditionFirst
  · obtain ⟨proc, waited⟩ := tickWait_blocks (agedState s)
    rw [if_neg Bool.false_ne_true, counts (agedState s).tickWait (by rw [waited]; rfl)]
    exact tickWait_proc_congr rfl (agedState_conditionsHeld s)
  · rw [if_pos rfl, counts (agedState s) rfl]
    exact tickWait_proc_congr rfl (agedState_conditionsHeld s)

/-! ### A tick that brings a boundary (R86, R108; log entry 4) -/

/-- The state that this tick's boundary makes, with what the tick makes of the processor. -/
def boundaryBrought (s : State) (proc : CommandProcessor) : State := { boundaryTaken (agedState s) with proc }

theorem tickPeriod_boundary {s : State} (last : s.timer.remaining = 1) (proc : CommandProcessor) :
    State.tickPeriod { agedState s with proc } = State.takeBoundary { agedState s with proc } := if_pos last.le

/-- A boundary that finds nothing executing. -/
theorem tickPeriod_idle {s : State} (last : s.timer.remaining = 1) {proc : CommandProcessor}
    (idle : proc.executing = none) : State.tickPeriod { agedState s with proc } = boundaryBrought s proc :=
  (tickPeriod_boundary last proc).trans (takeBoundary_of_notWaiting fun _ _ hx => by cases idle.symm.trans hx)

/-- A boundary that finds a WAIT executing: its latch is set, and it is re-tested. -/
theorem tickPeriod_waiting {s : State} (last : s.timer.remaining = 1) {proc : CommandProcessor} {cmd : QueuedCommand}
    {w : WaitState} (hx : proc.executing = some { cmd, phase := .waiting w }) :
    State.tickPeriod { agedState s with proc } = (boundaryBrought s { proc with periodLatch := true }).retestWait :=
  (tickPeriod_boundary last proc).trans (takeBoundary_waiting hx)

/-- The boundary has set the latch of an executing WAIT. -/
def boundaryLatched (s : State) : State := boundaryBrought s { s.proc with periodLatch := true }

/-- With nothing executing, the boundary is all that the tick brings. -/
theorem tick_boundary_idle {s : State} (ho : s.operating = true) (last : s.timer.remaining = 1) (conditionFirst : Bool) :
    exec (.tick conditionFirst) { s with proc := { s.proc with executing := none } } =
      .next (boundaryBrought s { s.proc with executing := none }) := by
  have taken := tickPeriod_idle last (proc := { s.proc with executing := none }) rfl
  refine (exec_tick (s := { s with proc := { s.proc with executing := none } }) ho conditionFirst).trans (congrArg _ ?_)
  cases conditionFirst
  · exact (congrArg State.tickPeriod (tickWait_idle rfl)).trans taken
  · exact (congrArg State.tickWait taken).trans (tickWait_idle rfl)

section

variable {s : State} {cmd : QueuedCommand} {w : WaitState}

/-- The boundary comes first: the WAIT is re-tested, and takes the tick when it waits on. -/
theorem tick_boundary_first (ho : s.operating = true) (last : s.timer.remaining = 1)
    (hx : s.proc.executing = some { cmd, phase := .waiting w }) :
    exec (.tick true) s =
      .next (if w.conditions &&& (boundaryLatched s).conditionsHeld = w.conditions then
        waitEnded (boundaryLatched s) cmd w .done else (boundaryLatched s).tickWait) := by
  have reached : (agedState s).tickPeriod = (boundaryLatched s).retestWait := tickPeriod_waiting last hx
  rw [exec_tick ho, if_pos rfl, reached, retestWait_waiting (s := boundaryLatched s) hx]
  split
  · exact congrArg _ (tickWait_idle rfl)
  · rfl

/-- The tick comes first and ends the WAIT: the boundary finds nothing executing. -/
theorem tick_timeout_first (ho : s.operating = true) (last : s.timer.remaining = 1)
    (hx : s.proc.executing = some { cmd, phase := .waiting w }) (ends : WaitExpires w) :
    exec (.tick false) s = .next (boundaryBrought s (waitEnded s cmd { w with remaining := 0 } .timeout).proc) := by
  have ended : (agedState s).tickWait =
      { agedState s with proc := (waitEnded s cmd { w with remaining := 0 } .timeout).proc } := by
    rw [tickWait_expires (s := agedState s) hx ends, waitEnded, waitEnded, agedState_conditionsHeld]
    rfl
  rw [exec_tick ho, if_neg Bool.false_ne_true, ended, tickPeriod_idle last rfl]

/-- The tick comes first and the WAIT waits on: the boundary re-tests it with what is left of its timeout. -/
theorem tick_then_boundary (ho : s.operating = true) (last : s.timer.remaining = 1)
    (hx : s.proc.executing = some { cmd, phase := .waiting w }) (waits : ¬WaitExpires w) :
    exec (.tick false) s =
      .next (if w.conditions &&& (boundaryLatched s).conditionsHeld = w.conditions then
        waitEnded (boundaryLatched s) cmd (waitLeft w) .done
      else { boundaryLatched s with proc := waitingWith (boundaryLatched s).proc cmd (waitLeft w) }) := by
  have waited : (agedState s).tickWait = { agedState s with proc := waitingWith s.proc cmd (waitLeft w) } :=
    tickWait_goesOn hx waits
  have reached : State.tickPeriod { agedState s with proc := waitingWith s.proc cmd (waitLeft w) } = _ :=
    tickPeriod_waiting last rfl
  rw [exec_tick ho, if_neg Bool.false_ne_true, waited, reached, retestWait_waiting rfl, waitLeft_conditions]
  rfl

end

/-- A boundary loads the count with the length, and leaves length, band and tariffs (R86). -/
theorem boundaryTimer_loaded (runState : RunState) (timer : PeriodTimer) :
    (boundaryTimer runState timer).remaining = timer.periodLength ∧
      (boundaryTimer runState timer).periodLength = timer.periodLength ∧
      (boundaryTimer runState timer).band = timer.band ∧ (boundaryTimer runState timer).tariffs = timer.tariffs := by
  unfold boundaryTimer
  split
  · exact ⟨rfl, rfl, rfl, rfl⟩
  · split <;> exact ⟨rfl, rfl, rfl, rfl⟩

/-- Settles O9: the count by its boundary, the timeout of a WAIT by its end, and the two in either order. -/
theorem tickCountsPeriodAndTimeout : Obligations.TickCountsPeriodAndTimeout := by
  refine ⟨fun s conditionFirst ho runs => ?_, fun s conditionFirst cmd w ho more hx => ?_,
    fun s u conditionFirst cmd w ho last hx hu => ?_⟩
  · obtain ⟨proc, ht⟩ := tick_blocks ho conditionFirst
    refine ⟨_, ht, ?_⟩
    rcases runs.eq_or_lt' with last | more
    · rw [periodTicked_boundary (s := agedState s) last.le, if_pos last]
      obtain ⟨remaining, length, band, tariffs⟩ := boundaryTimer_loaded s.run.runState s.timer
      exact ⟨remaining, length, band, tariffs, fun c => absurd last c, rfl, rfl, rfl, rfl⟩
    · rw [periodTicked_counts (s := agedState s) more, if_neg more.ne']
      exact ⟨rfl, rfl, rfl, rfl, fun _ => ⟨rfl, rfl, rfl, rfl⟩, rfl, rfl, rfl, rfl⟩
  · obtain ⟨t, ht, proc⟩ := tick_counts ho more conditionFirst
    refine ⟨t, ht, fun untimed => ?_, fun timed left => ?_, fun timed left => ?_⟩
    · rw [proc, tickWait_goesOn hx fun ends => ends.1 untimed, waitLeft, if_pos untimed]
      exact waitingWith_self hx
    · rw [proc, tickWait_goesOn hx fun ends => absurd ends.2 (Nat.not_le.mpr left), waitLeft, if_neg timed]
      rfl
    · rw [proc, tickWait_expires hx ⟨timed, left.le⟩]
      rfl
  · rw [tick_boundary_idle ho last, Host.Outcome.next.injEq] at hu
    subst hu
    refine ⟨fun first => ?_, fun second => ?_⟩
    · rw [first, tick_boundary_first ho last hx]
      refine ⟨fun met => congrArg _ (if_pos met), fun unmet ends => ?_, fun unmet waits => ?_⟩
      · exact congrArg _ ((if_neg unmet).trans (tickWait_expires hx ends))
      · exact congrArg _ ((if_neg unmet).trans (tickWait_goesOn hx waits))
    · rw [second]
      refine ⟨fun ends => tick_timeout_first ho last hx ends, fun waits met => ?_, fun waits unmet => ?_⟩
      · exact (tick_then_boundary ho last hx waits).trans (congrArg _ (if_pos met))
      · exact (tick_then_boundary ho last hx waits).trans (congrArg _ (if_neg unmet))

end Sys2Proof.Machine.Proofs

namespace Sys2Proof.Machine.Proofs

open Sys2Proof Sys2Proof.Machine Sys2Proof.Machine.Laws

/-! ### The staged fields of the settings commands (R81, R83, R138) -/

theorem tariffFields_eq_some {f : Vector Word 7} {index : Fin 8} {a b standing : Nat}
    (hi : tariffIndex (lowByte f[0]) = some index) (ha : digits6 f[1] = some a) (hb : digits6 f[2] = some b)
    (hs : digits6 f[3] = some standing) : tariffFields f = some (index, { priceA := a, priceB := b, standing }) := by
  simp only [tariffFields, hi, ha, hb, hs, Option.bind_eq_bind, Option.bind_some]

theorem tariffFields_eq_none {f : Vector Word 7}
    (h : tariffIndex (lowByte f[0]) = none ∨ digits6 f[1] = none ∨ digits6 f[2] = none ∨ digits6 f[3] = none) :
    tariffFields f = none := by
  refine Option.eq_none_iff_forall_ne_some.mpr fun x hx => ?_
  simp only [tariffFields, Option.bind_eq_bind, Option.bind_eq_some_iff] at hx
  obtain ⟨a, ha, b, hb, standing, hs, index, hi, -⟩ := hx
  simp [ha, hb, hs, hi] at h

/-- A field of SET_TOPUP is out of range (R138). -/
def TopupIllegal (f : Vector Word 7) : Prop :=
  1 < bits f[0] 0 8 ∨ bits f[0] 8 8 < 0x08 ∨ 0x77 < bits f[0] 8 8 ∨ digits8 f[1] = none

theorem forceField_eq_some {w : Word} (h : bits w 0 8 ≤ 1) : forceField w = some (decide (bits w 0 8 = 1)) := by
  unfold forceField lowByte
  rcases Nat.le_one_iff_eq_zero_or_eq_one.mp h with h | h <;> simp [h]

theorem topupFields_eq_none {f : Vector Word 7} (h : TopupIllegal f) : topupFields f = none := by
  refine Option.eq_none_iff_forall_ne_some.mpr fun x hx => ?_
  simp only [topupFields, Option.bind_eq_bind, Option.bind_eq_some_iff, Option.ite_none_right_eq_some] at hx
  obtain ⟨enable, he, maximum, hm, ⟨low, high⟩, -⟩ := hx
  rcases h with bad | bad | bad | bad
  · rw [(forceField_eq_none_iff _).mpr bad] at he
    cases he
  · omega
  · omega
  · cases hm.symm.trans bad

theorem topupFields_eq_some {f : Vector Word 7} {maximum : Nat} (enable : bits f[0] 0 8 ≤ 1) (low : 0x08 ≤ bits f[0] 8 8)
    (high : bits f[0] 8 8 ≤ 0x77) (hm : digits8 f[1] = some maximum) :
    topupFields f = some (decide (bits f[0] 0 8 = 1), BitVec.ofNat 7 (bits f[0] 8 8), maximum) := by
  simp only [topupFields, forceField_eq_some enable, hm, Option.bind_eq_bind, Option.bind_some, if_pos (And.intro low high)]

/-- The result gives back the fields as they were staged (R138). -/
theorem topupWord_eq {enable address : Nat} (he : enable ≤ 1) (ha : address ≤ 0x77) :
    (decide (enable = 1)).toNat + (BitVec.ofNat 7 address).toNat * 2 ^ 8 = enable + address * 2 ^ 8 := by
  rw [BitVec.toNat_ofNat, Nat.mod_eq_of_lt (by omega)]
  rcases Nat.le_one_iff_eq_zero_or_eq_one.mp he with rfl | rfl <;> rfl

/-! ### A settings command answered (R100, R173) -/

theorem takeCommand_answered {effect : Vector Word 7 → State → State × Answer} {c : Instr} {s t : State} {code : Byte}
    {cmd : QueuedCommand} {a : Answer} (hd : Handed s code cmd) (hc : exec c s = .next (s.takeCommand code effect))
    (h : effect cmd.params s = (t, a)) : exec c s = .next (replied t (resultOf cmd a)) := by
  rw [hc, takeCommand_replied hd, h]

/-- What a settings command does to the state beside its own fields: the settings page is reported, and its result posted. -/
structure SettingWritten (s t : State) (r : Result) : Prop where
  kept : CommitKept s t 8
  reported : ReportedUrgent s t 8
  step : SettingStep s t r

/-- A settings command that writes into the timer or the port. -/
theorem settingWritten (s : State) (timer : PeriodTimer) (port : TopUpPort) (r : Result) :
    SettingWritten s (replied (State.reportSettings { s with timer, port }) r) r :=
  ⟨report_commitKept { s with timer, port } 8 true, report_urgent (s := { s with timer, port }) 8 rfl,
    rfl, rfl, rfl, rfl, rfl, rfl, rfl, rfl, rfl, rfl⟩

/-! ### SET_INTERVAL (R182) -/

/-- The pages that are due under an interval join the eligible list, in ascending order. -/
theorem setInterval_eligible (s : State) (n : Nat) :
    (s.setInterval n).commit.eligible = joinedAscending s.commit.eligible fun page => match s.commit.dirty[page] with
      | some r => !r.urgent && decide (n ≤ r.age)
      | none => false := by
  have nodup : (s.routinePagesFrom n).Nodup := (List.nodup_finRange 9).filter _
  refine (foldl_joinEligible _ nodup _).trans ?_
  rw [State.routinePagesFrom, List.filter_filter, joinedAscending]
  congr 1
  exact List.filter_congr fun page _ => Bool.and_comm ..

/-- What SET_INTERVAL does beside its answer (R173, R182). -/
theorem setInterval_report (s : State) (n : Nat) :
    (∀ page : Fin 9, page ≠ 8 → (s.setInterval n).reportSettings.commit.dirty[page] = s.commit.dirty[page]) ∧
      RecordedUrgent s (s.setInterval n).reportSettings 8 ∧
      (s.setInterval n).reportSettings.commit.eligible =
        eligibleAfterUrgent s.commit.dirty[8] 8 (s.setInterval n).commit.eligible := by
  obtain ⟨recorded, eligible⟩ := report_urgent (s := s.setInterval n) (urgent := true) 8 rfl
  exact ⟨fun page other => (report_commitKept (s.setInterval n) 8 true).1 page other, recorded, eligible⟩

/-! ### The five commands -/

theorem setTariffEffect_accepted {f : Vector Word 7} {index : Fin 8} {t : Tariff} (h : tariffFields f = some (index, t))
    (s : State) :
    setTariffEffect f s =
      (State.reportSettings { s with timer := { s.timer with tariffs := s.timer.tariffs.set index t } },
        { status := .done, slot := BitVec.ofNat 8 index.val, number := bcdWord t.standing, extraA := bcdWord t.priceA,
          extraB := bcdWord t.priceB }) := by
  simp only [setTariffEffect, h]
  rfl

theorem bandCode_word (band : Band) : BitVec.ofNat 32 band.code = if band = .b then 1 else 0 := by cases band <;> rfl

theorem setBandEffect_accepted {f : Vector Word 7} {band : Band} (h : bandField f[0] = some band) (s : State) :
    setBandEffect f s =
      ({ s with timer := { s.timer with band } }, { status := .done, extraA := BitVec.ofNat 32 band.code }) := by
  simp only [setBandEffect, h]

theorem setBandEffect_refused {f : Vector Word 7} (h : 1 < lowByte f[0]) (s : State) :
    setBandEffect f s = (s, { status := .badField, extraA := if s.timer.band = .b then 1 else 0 }) := by
  have outside : bandField f[0] = none := by
    rw [bandField, if_neg (by omega), if_neg (by omega)]
  simp only [setBandEffect, outside, bandCode_word]

theorem setTopupEffect_accepted {f : Vector Word 7} {maximum : Nat} (enable : bits f[0] 0 8 ≤ 1)
    (low : 0x08 ≤ bits f[0] 8 8) (high : bits f[0] 8 8 ≤ 0x77) (hm : digits8 f[1] = some maximum) (s : State) :
    setTopupEffect f s =
      (State.reportSettings { s with port := { s.port with
          enabled := decide (bits f[0] 0 8 = 1), address := BitVec.ofNat 7 (bits f[0] 8 8), maximum } },
        { status := .done, extraA := BitVec.ofNat 32 (bits f[0] 0 8 + bits f[0] 8 8 * 2 ^ 8),
          extraB := bcdWord maximum }) := by
  simp only [setTopupEffect, topupFields_eq_some enable low high hm, topupWord_eq enable high]
  rfl

/-- Settles O37: each command refused, and each with its fields written. -/
theorem settingsCommandsWriteFields : Obligations.SettingsCommandsWriteFields := by
  refine ⟨fun s cmd hd => ⟨fun bad => ?_, fun index a b standing hi ha hb hs => ?_⟩,
    fun s cmd hd => ⟨fun zero => ?_, fun one => ?_, fun bad => ?_⟩,
    fun s cmd hd => ⟨fun outside => ?_, fun inside => ?_⟩,
    fun s cmd hd => ⟨fun bad => ?_, fun maximum enable low high hm => ?_⟩,
    fun s cmd hd => ⟨fun outside => ?_, fun inside => ?_⟩⟩
  · have refused : setTariffEffect cmd.params s = (s, { status := .badField }) := by
      simp only [setTariffEffect, tariffFields_eq_none bad]
    exact (takeCommand_unchanged (c := .setTariff) hd rfl refused :)
  · have written := setTariffEffect_accepted (tariffFields_eq_some hi ha hb hs) s
    obtain ⟨kept, reported, step⟩ := settingWritten s _ s.port _
    exact ⟨_, takeCommand_answered (c := .setTariff) hd rfl written, rfl, rfl, kept, reported, step⟩
  · have written := setBandEffect_accepted (f := cmd.params) (band := .a) (if_pos zero) s
    exact (takeCommand_answered (c := .setBand) hd rfl written :)
  · have field : bandField cmd.params[0] = some .b := by simp [bandField, one]
    exact (takeCommand_answered (c := .setBand) hd rfl (setBandEffect_accepted field s) :)
  · exact (takeCommand_unchanged (c := .setBand) hd rfl (setBandEffect_refused bad s) :)
  · have refused : setPeriodEffect cmd.params s = (s, { status := .badField }) := if_neg outside
    exact (takeCommand_unchanged (c := .setPeriod) hd rfl refused :)
  · have written : setPeriodEffect cmd.params s =
        (State.reportSettings { s with timer := { s.timer with
            periodLength := cmd.params[0].toNat, remaining := cmd.params[0].toNat } },
          { status := .done, extraA := cmd.params[0], extraB := cmd.params[0] }) := if_pos inside
    obtain ⟨kept, reported, step⟩ := settingWritten s _ s.port _
    exact ⟨_, takeCommand_answered (c := .setPeriod) hd rfl written, rfl, rfl, kept, reported, step⟩
  · have refused : setTopupEffect cmd.params s = (s, { status := .badField }) := by
      simp only [setTopupEffect, topupFields_eq_none bad]
    exact (takeCommand_unchanged (c := .setTopup) hd rfl refused :)
  · have written := setTopupEffect_accepted enable low high hm s
    obtain ⟨kept, reported, step⟩ := settingWritten s s.timer _ _
    exact ⟨_, takeCommand_answered (c := .setTopup) hd rfl written, rfl, rfl, kept, reported, step⟩
  · have refused : setIntervalEffect cmd.params s = (s, { status := .badField }) := if_neg outside
    exact (takeCommand_unchanged (c := .setInterval) hd rfl refused :)
  · have written : setIntervalEffect cmd.params s =
        ((s.setInterval cmd.params[0].toNat).reportSettings, { status := .done, extraA := cmd.params[0] }) := if_pos inside
    obtain ⟨others, recorded, eligible⟩ := setInterval_report s cmd.params[0].toNat
    rw [setInterval_eligible] at eligible
    exact ⟨_, takeCommand_answered (c := .setInterval) hd rfl written, rfl, rfl, rfl, others, recorded, eligible,
      rfl, rfl, rfl, rfl, rfl, rfl, rfl, rfl, rfl, rfl⟩

end Sys2Proof.Machine.Proofs

namespace Sys2Proof.Machine.Proofs

open Sys2Proof Sys2Proof.Machine Sys2Proof.Machine.Laws

/-! ### Effects that leave the requester of the operation alone (R45, R113, R114) -/

/-- The Command Processor, the operation in progress and the tally of an UNBIND are as they were. -/
structure RequesterKept (s t : State) : Prop where
  proc : t.proc = s.proc
  op : t.engine.op = s.engine.op
  tally : t.points.tally = s.points.tally

namespace RequesterKept

variable {s t u : State}

theorem refl (s : State) : RequesterKept s s := ⟨rfl, rfl, rfl⟩

theorem trans (h : RequesterKept s t) (h' : RequesterKept t u) : RequesterKept s u :=
  ⟨h'.proc.trans h.proc, h'.op.trans h.op, h'.tally.trans h.tally⟩

end RequesterKept

theorem changeAccount_requester (s : State) (slot : Fin 64) (a : Account) (before : Level) (extra : Reasons) :
    RequesterKept s (s.changeAccount slot a before extra) :=
  ⟨changeAccount_proc .., changeAccount_op .., (changeAccount_points_kept ..).2.2⟩

theorem storeBalance_requester (s : State) (slot : Fin 64) (balance : Int) (urgent : Bool) :
    RequesterKept s (s.storeBalance slot balance {} urgent) := by
  have stored := storeBalance_stored s slot balance false urgent
  exact ⟨stored.proc, stored.op, stored.points.2.2⟩

theorem withAccount_requester {s : State} (number : Nat) (f : Fin 64 → State × Answer)
    (h : ∀ slot, RequesterKept s (f slot).1) : RequesterKept s (s.withAccount number f).1 := by
  rcases withAccount_cases s number f with hw | ⟨slot, -, hw⟩ <;> rw [hw]
  · exact .refl s
  · exact h slot

theorem withPoint_requester {s : State} (field : Word) (f : Fin 16 → State × Answer)
    (h : ∀ p, RequesterKept s (f p).1) : RequesterKept s (s.withPoint field f).1 := by
  rcases withPoint_cases s field f with hs | ⟨p, hs⟩ <;> rw [hs]
  · exact .refl s
  · exact h p

theorem withBoundPoint_requester {s : State} (field : Word) (f : Fin 16 → State × Answer)
    (h : ∀ p, RequesterKept s (f p).1) : RequesterKept s (s.withBoundPoint field f).1 := by
  rcases withBoundPoint_cases s field f with hs | ⟨p, -, hs⟩ <;> rw [hs]
  · exact .refl s
  · exact h p

/-- A number enters the directory, and its slot takes a record (R117, R131). -/
theorem enterAccount_requester (s : State) (number : Nat) (slot : Fin 64) (a : Account) (before : Level) (page : Fin 9) :
    RequesterKept s (((s.insertDirectory number slot).changeAccount slot a before {}).report page true) :=
  RequesterKept.trans (t := s.insertDirectory number slot) ⟨rfl, rfl, rfl⟩
    ((changeAccount_requester ..).trans ⟨rfl, rfl, rfl⟩)

/-- The effect of a command, which answers its fields, leaves its requester alone. -/
def EffectBeside (effect : Vector Word 7 → State → State × Answer) : Prop := ∀ f s, RequesterKept s (effect f s).1

theorem beside_of_state {effect : Vector Word 7 → State → State × Answer} (h : ∀ f s, (effect f s).1 = s) :
    EffectBeside effect := fun f s => by rw [h]; exact .refl s

theorem openEffect_beside : EffectBeside openEffect := fun f s => by
  unfold openEffect
  split
  · exact .refl s
  split
  · exact .refl s
  split
  · exact .refl s
  · exact enterAccount_requester ..

theorem closeEffect_beside : EffectBeside closeEffect := fun f s => by
  unfold closeEffect
  split
  · exact .refl s
  · refine withAccount_requester _ _ fun slot => ?_
    split <;> exact ⟨rfl, rfl, rfl⟩

theorem creditEffect_beside : EffectBeside creditEffect := fun f s => by
  unfold creditEffect
  split
  · refine withAccount_requester _ _ fun slot => ?_
    split
    · exact .refl s
    · exact storeBalance_requester ..
  · exact .refl s

theorem debitEffect_beside : EffectBeside debitEffect := fun f s => by
  unfold debitEffect
  split
  · exact .refl s
  · refine withAccount_requester _ _ fun slot => ?_
    split
    · exact .refl s
    · exact storeBalance_requester ..

theorem transferEffect_beside : EffectBeside transferEffect := fun f s => by
  unfold transferEffect State.transferBetween
  split
  · exact .refl s
  split
  · exact .refl s
  · exact .refl s
  split
  · exact .refl s
  split
  · exact .refl s
  · exact .refl s
  split
  · exact .refl s
  · exact (storeBalance_requester ..).trans (storeBalance_requester ..)

theorem amendEffect_beside : EffectBeside amendEffect := fun f s => by
  unfold amendEffect
  split
  · exact .refl s
  · refine withAccount_requester _ _ fun slot => ?_
    dsimp only
    split
    · exact .refl s
    · exact (changeAccount_requester ..).trans ⟨rfl, rfl, rfl⟩

theorem statusEffect_beside (status : Status) : EffectBeside (statusEffect status) := fun f s => by
  unfold statusEffect
  split
  · exact .refl s
  · refine withAccount_requester _ _ fun slot => ?_
    split
    · exact .refl s
    · exact (changeAccount_requester ..).trans ⟨rfl, rfl, rfl⟩

theorem repairEffect_beside : EffectBeside repairEffect := fun f s => by
  unfold repairEffect
  split
  · exact .refl s
  dsimp only
  split
  · exact .refl s
  split
  · exact .refl s
  · exact enterAccount_requester ..

theorem discardEffect_beside : EffectBeside discardEffect := fun f s => by
  unfold discardEffect
  split
  · exact .refl s
  dsimp only
  split <;> exact ⟨rfl, rfl, rfl⟩

theorem nextAttentionEffect_beside : EffectBeside nextAttentionEffect := fun f s => by
  unfold nextAttentionEffect
  split <;> exact ⟨rfl, rfl, rfl⟩

theorem bindEffect_beside : EffectBeside bindEffect := fun f s => by
  refine withPoint_requester _ _ fun p => ?_
  split
  · exact .refl s
  split
  · exact .refl s
  split <;> exact ⟨rfl, rfl, rfl⟩

theorem unbindEffect_beside : EffectBeside unbindEffect := fun f s => by
  refine withBoundPoint_requester _ _ fun p => ?_
  split <;> exact ⟨rfl, rfl, rfl⟩

end Sys2Proof.Machine.Proofs

namespace Sys2Proof.Machine.Proofs

open Sys2Proof Sys2Proof.Machine Sys2Proof.Machine.Laws

/-! ### Effects of the commands that their blocks answer (R100) -/

theorem bindRefusal_beside : EffectBeside bindRefusal := fun _ s => withPoint_requester _ _ fun _ => .refl s

theorem configureEffect_beside : EffectBeside configureEffect := fun _ _ =>
  withPoint_requester _ _ fun _ => by split <;> exact ⟨rfl, rfl, rfl⟩

theorem holdEffect_beside : EffectBeside holdEffect := fun _ _ => withBoundPoint_requester _ _ fun _ => ⟨rfl, rfl, rfl⟩

theorem releaseEffect_beside : EffectBeside releaseEffect := fun _ _ =>
  withBoundPoint_requester _ _ fun _ => ⟨rfl, rfl, rfl⟩

theorem queryPointEffect_beside : EffectBeside queryPointEffect := fun _ s => withPoint_requester _ _ fun _ => .refl s

theorem setDeferEffect_beside : EffectBeside setDeferEffect := fun f s => by
  unfold setDeferEffect State.setDeferral
  split
  · exact .refl s
  split
  · exact .refl s
  split <;> exact ⟨rfl, rfl, rfl⟩

theorem setTariffEffect_beside : EffectBeside setTariffEffect := fun f s => by
  unfold setTariffEffect
  split <;> exact ⟨rfl, rfl, rfl⟩

theorem setBandEffect_beside : EffectBeside setBandEffect := fun f s => by
  unfold setBandEffect
  split <;> exact ⟨rfl, rfl, rfl⟩

theorem setPeriodEffect_beside : EffectBeside setPeriodEffect := fun f s => by
  unfold setPeriodEffect
  split <;> exact ⟨rfl, rfl, rfl⟩

theorem setTopupEffect_beside : EffectBeside setTopupEffect := fun f s => by
  unfold setTopupEffect
  split <;> exact ⟨rfl, rfl, rfl⟩

theorem setIntervalEffect_beside : EffectBeside setIntervalEffect := fun f s => by
  unfold setIntervalEffect
  split <;> exact ⟨rfl, rfl, rfl⟩

end Sys2Proof.Machine.Proofs

namespace Sys2Proof.Machine.Proofs

open Sys2Proof Sys2Proof.Machine Sys2Proof.Machine.Laws

/-! ### What a step does to the queues (R97, R99, R103) -/

/-- The engine's operation in progress is the executing command's, and still has its requester (R45, R100). -/
def Owned (s : State) (cmd : QueuedCommand) : Prop := s.engine.op = .busy (.command cmd true)

/-- The command executes, and its operation has been granted (R100). -/
def Executes (s : State) (cmd : QueuedCommand) : Prop := s.proc.executing = some { cmd, phase := .granted }

/-- What a step does to the queues when it completes no operation of a command: they do not grow beyond their room, and an
operation with its requester has just been granted to the executing command, or was in progress already and its command executes
on. -/
structure QueuesMoved (s t : State) : Prop where
  queue : t.proc.queue.length ≤ s.proc.queue.length ∨ t.proc.queue.length ≤ 32
  reserved : t.reservedResults ≤ s.reservedResults ∨ t.reservedResults ≤ 16
  owner : ∀ cmd, Owned t cmd → Executes t cmd ∨ Owned s cmd ∧ (Executes s cmd → Executes t cmd)

/-- The two queues, the executing command and the operation in progress are as they were. -/
structure QueuesKept (s t : State) : Prop where
  queue : t.proc.queue = s.proc.queue
  results : t.proc.results = s.proc.results
  executing : t.proc.executing = s.proc.executing
  op : t.engine.op = s.engine.op

theorem QueuesKept.of_blocks {s t : State} (proc : t.proc = s.proc) (op : t.engine.op = s.engine.op) : QueuesKept s t :=
  ⟨by rw [proc], by rw [proc], by rw [proc], op⟩

theorem RequesterKept.queues {s t : State} (h : RequesterKept s t) : QueuesKept s t := .of_blocks h.proc h.op

theorem QueuesKept.moved {s t : State} (h : QueuesKept s t) : QueuesMoved s t where
  queue := .inl (by rw [h.queue])
  reserved := .inl (by rw [State.reservedResults, State.reservedResults, h.results, h.executing])
  owner cmd owned := .inr ⟨h.op.symm.trans owned, fun running => h.executing.trans running⟩

namespace QueuesMoved

variable {s t u : State}

theorem refl (s : State) : QueuesMoved s s := QueuesKept.moved ⟨rfl, rfl, rfl, rfl⟩

theorem trans (h : QueuesMoved s t) (h' : QueuesMoved t u) : QueuesMoved s u where
  queue := h'.queue.elim (fun le => h.queue.imp le.trans le.trans) .inr
  reserved := h'.reserved.elim (fun le => h.reserved.imp le.trans le.trans) .inr
  owner cmd owned := by
    rcases h'.owner cmd owned with runs | ⟨before, on⟩
    · exact .inl runs
    · exact (h.owner cmd before).imp on fun ⟨first, runs⟩ => ⟨first, on ∘ runs⟩

theorem fits (h : QueuesMoved s t) (fit : QueuesFit s) : QueuesFit t := by
  obtain ⟨queue, reserved, executing⟩ := fit
  refine ⟨h.queue.elim (·.trans queue) id, h.reserved.elim (·.trans reserved) id, fun cmd owned => ?_⟩
  rcases h.owner cmd owned with runs | ⟨before, on⟩
  · exact runs
  · exact on (executing cmd before)

/-- Either branch of a step that does nothing when it is not due. -/
theorem ite {c : Prop} [Decidable c] (h : c → QueuesMoved s t) : QueuesMoved s (if c then t else s) := by
  split
  · rename_i hc; exact h hc
  · exact .refl s

/-- The engine becomes FREE, or takes up an operation of no command. -/
theorem of_unowned (proc : t.proc = s.proc) (unowned : ∀ cmd, ¬Owned t cmd) : QueuesMoved s t where
  queue := .inl (by rw [proc])
  reserved := .inl (by rw [State.reservedResults, State.reservedResults, proc])
  owner cmd owned := absurd owned (unowned cmd)

/-- The Command Processor is emptied (R113, R190). -/
theorem of_emptied (proc : t.proc = CommandProcessor.atReset) (unowned : ∀ cmd, ¬Owned t cmd) : QueuesMoved s t where
  queue := .inr (by rw [proc]; exact Nat.zero_le 32)
  reserved := .inr (by rw [State.reservedResults, proc]; exact Nat.zero_le 16)
  owner cmd owned := absurd owned (unowned cmd)

/-- An executing command without a granted operation moves on, or ends with a result in its reservation (R102). -/
theorem of_executing {e : Execution} (hx : s.proc.executing = some e) (phase : e.phase ≠ .granted)
    (queue : t.proc.queue = s.proc.queue)
    (ends : t.proc.executing = none ∧ t.proc.results.length = s.proc.results.length + 1 ∨
      t.proc.results = s.proc.results)
    (op : t.engine.op = s.engine.op) : QueuesMoved s t where
  queue := .inl (by rw [queue])
  reserved := .inl (by
    rw [State.reservedResults, State.reservedResults, hx]
    rcases ends with ⟨ended, results⟩ | results
    · rw [ended, results]; rfl
    · rw [results]; split <;> simp)
  owner cmd owned := .inr ⟨op.symm.trans owned, fun running => by
    cases hx.symm.trans running
    exact absurd rfl phase⟩

theorem post {e : Execution} (hx : s.proc.executing = some e) (phase : e.phase ≠ .granted) (cmd : QueuedCommand)
    (a : Answer) : QueuesMoved s (s.post cmd a) :=
  .of_executing hx phase rfl (.inl ⟨rfl, List.length_append⟩) rfl

theorem endWait {e : Execution} (hx : s.proc.executing = some e) (phase : e.phase ≠ .granted) (cmd : QueuedCommand)
    (w : WaitState) (status : ResultStatus) : QueuesMoved s (s.endWait cmd w status) :=
  .of_executing hx phase rfl (.inl ⟨rfl, List.length_append⟩) rfl

end QueuesMoved

/-! ### Results and WAITs (R102, R107 to R109) -/

theorem retestWait_moved (s : State) : QueuesMoved s s.retestWait := by
  rcases retestWait_cases s with h | ⟨cmd, w, hx, -, h⟩ <;> rw [h]
  · exact .refl s
  · exact .endWait hx nofun ..

theorem breakWait_moved (s : State) (status : ResultStatus) : QueuesMoved s (s.breakWait status) := by
  unfold State.breakWait
  split
  · rename_i hx; exact .endWait hx nofun ..
  · exact .refl s

theorem startWait_moved {s : State} {cmd : QueuedCommand} (hx : s.proc.executing = some { cmd, phase := .handed }) :
    QueuesMoved s (s.startWait cmd) := by
  rcases Nat.lt_or_ge (cmd.params[0].toNat % 256) 64 with inside | outside
  · have begun : QueuesMoved s (waitBegun s cmd) := .of_executing hx nofun rfl (.inr rfl) rfl
    rw [startWait_begun inside]
    exact begun.trans (retestWait_moved _)
  · rw [startWait_badField outside]
    exact .post hx nofun cmd { status := .badField }

theorem settleHandedWait_moved (s : State) : QueuesMoved s s.settleHandedWait := by
  unfold State.settleHandedWait
  split
  · rename_i hx; exact .ite fun _ => startWait_moved hx
  · exact .refl s

theorem takeCommand_moved (s : State) (code : Byte) {effect : Vector Word 7 → State → State × Answer}
    (h : ∀ f, QueuesKept s (effect f s).1) : QueuesMoved s (s.takeCommand code effect) := by
  unfold State.takeCommand
  split
  · rename_i cmd hx
    exact .ite fun _ => (h cmd.params).moved.trans (.post ((h cmd.params).executing.trans hx) nofun ..)
  · exact .refl s

theorem post_reserved {s : State} {e : Execution} (hx : s.proc.executing = some e) (cmd : QueuedCommand) (a : Answer) :
    (s.post cmd a).reservedResults = s.reservedResults := by
  simp [State.reservedResults, State.post, hx]

/-- The operation of a command completes: its result takes the place that its start has reserved (R99, R102). -/
theorem completeCommand_fits (s : State) (code : Byte) {effect : Vector Word 7 → State → State × Answer}
    (beside : EffectBeside effect) (fit : QueuesFit s) : QueuesFit (s.completeCommand code effect) := by
  unfold State.completeCommand
  split
  · rename_i cmd owned hop
    split
    · have kept := beside cmd.params s.freeEngine
      have free : ∀ other, ¬Owned (effect cmd.params s.freeEngine).1 other := fun other h => by
        cases kept.op.symm.trans h
      have acted : QueuesMoved s (effect cmd.params s.freeEngine).1 := .of_unowned kept.proc free
      refine (retestWait_moved _).fits ?_
      cases owned
      · exact acted.fits fit
      · have executing := (congrArg (·.executing) kept.proc).trans (fit.2.2 cmd hop)
        obtain ⟨queue, reserved, -⟩ := acted.fits fit
        exact ⟨queue, (post_reserved executing ..).trans_le reserved, fun other h => absurd h (free other)⟩
    · exact fit
  · exact fit

end Sys2Proof.Machine.Proofs

namespace Sys2Proof.Machine.Proofs

open Sys2Proof Sys2Proof.Machine Sys2Proof.Machine.Laws

/-! ### The rows of the blocks, queue by queue -/

/-- The next state's queues have moved as a step that completes no operation of a command may move them. -/
def MovesQueues (s : State) : Host.Outcome State Fault Refusal → Prop
  | .next t => QueuesMoved s t
  | .fault _ => True
  | .refused _ => True

theorem MovesQueues.fits {s t : State} {o : Host.Outcome State Fault Refusal} (m : MovesQueues s o) (h : o = .next t)
    (fit : QueuesFit s) : QueuesFit t := by
  subst h
  exact QueuesMoved.fits m fit

/-- A row that leaves the queues alone, when it is due and when it is not. -/
theorem QueuesKept.row {s t : State} {c : Prop} [Decidable c] (h : QueuesKept s t) :
    QueuesMoved s (if c then t else s) := .ite fun _ => h.moved

/-- Beside the queues something changes that a WAIT tests (R108). -/
theorem QueuesKept.retested {s t : State} (h : QueuesKept s t) : QueuesMoved s t.retestWait :=
  h.moved.trans (retestWait_moved t)

/-! ### The Run Controller and load (chapters 9 and 10) -/

theorem enterHoldupBlocks_kept (s : State) : QueuesKept s s.enterHoldupBlocks :=
  .of_blocks (by simp [State.enterHoldupBlocks]) (by simp [State.enterHoldupBlocks])

theorem enterHoldup_moved (s : State) (conditionFirst : Bool) : QueuesMoved s (s.enterHoldup conditionFirst) := by
  have settled := settleHandedWait_moved s
  unfold State.enterHoldup
  dsimp only
  split
  · exact settled.trans ((enterHoldupBlocks_kept _).moved.trans ((retestWait_moved _).trans (breakWait_moved _ _)))
  · exact settled.trans ((breakWait_moved _ _).trans (enterHoldupBlocks_kept _).moved)

theorem entryToHoldup_queues (conditionFirst : Bool) (s : State) :
    MovesQueues s (exec (.entryToHoldup conditionFirst) s) := by
  have warned : QueuesKept s { s with run := { s.run with pfwAsserted := true } } := ⟨rfl, rfl, rfl, rfl⟩
  simp only [exec, execEntryToHoldup, MovesQueues]
  split
  · exact warned.moved.trans (enterHoldup_moved ..)
  · exact warned.moved

theorem resumeSweep_proc (s : State) : s.resumeSweep.proc = s.proc := by
  unfold State.resumeSweep
  split
  · rfl
  · rfl
  · split <;> rfl

theorem returnToRun_queues (s : State) : MovesQueues s (exec .returnToRun s) := by
  simp only [exec, execReturnToRun, MovesQueues]
  split
  · exact QueuesKept.moved (.of_blocks (resumeSweep_proc _) (by rw [(resumeSweep_blocks _).1]))
  · exact QueuesKept.moved ⟨rfl, rfl, rfl, rfl⟩

theorem reset_queues (s : State) : MovesQueues s (exec .reset s) := QueuesMoved.of_emptied rfl nofun

theorem loadingStart_queues (s : State) : MovesQueues s (exec .loadingStart s) :=
  QueuesMoved.ite fun _ => .of_emptied rfl nofun

theorem takeSettings_proc (s : State) (stored : StoredSettings) : (s.takeSettings stored).proc = s.proc := rfl

theorem settingsDamaged_proc (s : State) : s.settingsDamaged.proc = s.proc := rfl

theorem applySettingsPage_proc (s : State) : s.applySettingsPage.proc = s.proc := by
  unfold State.applySettingsPage
  split
  · rw [takeSettings_proc]
  · split
    · rw [settingsDamaged_proc, takeSettings_proc]
    · rw [takeSettings_proc]
  · rw [settingsDamaged_proc, takeSettings_proc]
  · rw [settingsDamaged_proc, takeSettings_proc]

theorem loadSettingsPage_queues (s : State) : MovesQueues s (exec .loadSettingsPage s) :=
  QueuesKept.row (.of_blocks (applySettingsPage_proc s) (by rw [(applySettingsPage_taken s).engine]))

theorem quarantine_proc (s : State) (slot : Fin 64) (a : Account) : (s.quarantine slot a).proc = s.proc := by
  simp [State.quarantine]

theorem loadAccount_proc (s : State) (slot : Fin 64) (stored : StoredAccount) (status : Status) :
    (s.loadAccount slot stored status).proc = s.proc := by
  unfold State.loadAccount
  dsimp only
  split
  · rfl
  · rw [setLoadDamage_proc, quarantine_proc]

theorem loadSlot_proc (s : State) (slot : Fin 64) (stored : StoredAccount) : (s.loadSlot slot stored).proc = s.proc := by
  unfold State.loadSlot
  split
  · rfl
  split
  · exact loadAccount_proc ..
  split
  · exact loadAccount_proc ..
  split
  · exact quarantine_proc ..
  · rw [setLoadDamage_proc, quarantine_proc]

theorem foldl_proc {f : State → Fin 8 → State} (h : ∀ s j, (f s j).proc = s.proc) (js : List (Fin 8)) (s : State) :
    (js.foldl f s).proc = s.proc := by
  induction js generalizing s with
  | nil => rfl
  | cons j js ih => exact (ih _).trans (h s j)

theorem applyAccountPage_proc (s : State) (page : Fin 8) : (s.applyAccountPage page).proc = s.proc := by
  have damaged (u : State) : (u.quarantinePage page).proc = u.proc :=
    foldl_proc (fun v _ => by rw [setLoadDamage_proc, quarantine_proc]) _ u
  unfold State.applyAccountPage
  split
  · exact foldl_proc (fun u _ => setSlot_proc u ..) _ s
  · exact foldl_proc (fun u _ => loadSlot_proc u ..) _ s
  · exact damaged s
  · exact damaged _

theorem reconcile_proc (s : State) (page : Fin 8) : (s.reconcile page).proc = s.proc := by
  rcases reconcile_cases s page with h | h <;> rw [h] <;> simp

theorem endLoading_moved (s : State) : QueuesMoved s s.endLoading := by
  have loaded : QueuesKept s { s with
      timer := { s.timer with remaining := s.timer.periodLength }, run := { s.run with loadPage := 0 } } :=
    ⟨rfl, rfl, rfl, rfl⟩
  unfold State.endLoading
  dsimp only
  split
  · exact loaded.moved.trans (enterHoldup_moved ..)
  · exact QueuesKept.moved ⟨rfl, rfl, rfl, rfl⟩

theorem loadAccountPage_queues (s : State) : MovesQueues s (exec .loadAccountPage s) := by
  simp only [exec, execLoadAccountPage, MovesQueues]
  split
  · rename_i page _ _
    have taken : QueuesKept s ((s.applyAccountPage page).reconcile page) :=
      .of_blocks ((reconcile_proc ..).trans (applyAccountPage_proc ..))
        ((reconcile_frame ..).op.trans (applyAccountPage_frame ..).op)
    split
    · exact taken.moved.trans (endLoading_moved _)
    · exact taken.moved.trans (QueuesKept.moved ⟨rfl, rfl, rfl, rfl⟩)
  · exact .refl s

/-! ### Ticks (sections 3.5, 4.2, 5.6) -/

theorem takeBoundary_moved (s : State) : QueuesMoved s s.takeBoundary := by
  by_cases h : NotWaiting s
  · rw [takeBoundary_of_notWaiting h]
    exact QueuesKept.moved ⟨rfl, rfl, rfl, rfl⟩
  · simp only [NotWaiting, not_forall, not_not] at h
    obtain ⟨cmd, w, hx⟩ := h
    rw [takeBoundary_waiting hx]
    exact QueuesKept.retested ⟨rfl, rfl, rfl, rfl⟩

theorem tickPeriod_moved (s : State) : QueuesMoved s s.tickPeriod := by
  unfold State.tickPeriod
  split
  · exact takeBoundary_moved s
  · exact QueuesKept.moved ⟨rfl, rfl, rfl, rfl⟩

theorem tickWait_moved (s : State) : QueuesMoved s s.tickWait := by
  unfold State.tickWait
  split
  · rename_i hx
    split
    · exact .refl s
    split
    · exact .endWait hx nofun ..
    · exact .of_executing hx nofun rfl (.inr rfl) rfl
  · exact .refl s

theorem tick_queues (conditionFirst : Bool) (s : State) : MovesQueues s (exec (.tick conditionFirst) s) := by
  simp only [exec, execTick, MovesQueues]
  split
  · refine QueuesMoved.trans (t := s.tickPoints.tickCommit) (QueuesKept.moved ⟨rfl, rfl, rfl, rfl⟩) ?_
    split
    · exact (tickPeriod_moved _).trans (tickWait_moved _)
    · exact (tickWait_moved _).trans (tickPeriod_moved _)
  · exact QueuesKept.row ⟨rfl, rfl, rfl, rfl⟩

theorem routinePageEligible_queues (page : Fin 9) (s : State) : MovesQueues s (exec (.routinePageEligible page) s) := by
  simp only [exec, execRoutinePageEligible, MovesQueues]
  split
  · exact QueuesKept.row ⟨rfl, rfl, rfl, rfl⟩
  · exact .refl s

theorem waitTimeout_queues (s : State) : MovesQueues s (exec .waitTimeout s) := by
  simp only [exec, execWaitTimeout, MovesQueues]
  split
  · rename_i hx; exact .ite fun _ => .endWait hx nofun ..
  · exact .refl s

/-! ### The engine (chapter 2) -/

theorem commandWaits_requested {s : State} {cmd : QueuedCommand} (h : s.commandWaits = some cmd) :
    s.proc.executing = some { cmd, phase := .requested } := by
  unfold State.commandWaits at h
  split at h <;> cases h
  assumption

/-- Of the five grants, one concerns a command, which then executes with its operation granted (R44, R100). -/
theorem grant_moved (s : State) : QueuesMoved s s.grant := by
  unfold State.grant
  split
  · exact .of_unowned rfl nofun
  split
  · unfold State.startCharge
    split
    · exact .of_unowned rfl nofun
    · exact .refl s
  split
  · exact .of_unowned rfl nofun
  split
  · rename_i cmd waits
    refine ⟨.inl le_rfl, .inl ?_, fun other owned => .inl ?_⟩
    · simp [State.reservedResults, commandWaits_requested waits]
    · cases owned; rfl
  split
  · exact .of_unowned rfl nofun
  · exact .refl s

theorem engineGrant_queues (s : State) : MovesQueues s (exec .engineGrant s) := QueuesMoved.ite fun _ => grant_moved s

theorem freeEngine_moved (s : State) : QueuesMoved s s.freeEngine := .of_unowned rfl nofun

theorem takeCharge_kept (s : State) (slot : Fin 64) (amount : Nat) : QueuesKept s (s.takeCharge slot amount) := by
  obtain ⟨a, update⟩ := takeCharge_update s slot amount
  exact .of_blocks (takeCharge_proc ..) update.op

theorem charge_queues (s : State) : MovesQueues s (exec .charge s) := by
  simp only [exec, execCharge, MovesQueues]
  split
  · rename_i p n slot price _
    have tallied (u : State) : QueuesKept u ((u.reducePending p n).tallyCharge p n (n * price)) := by
      rw [tallyCharge_eq]
      exact ⟨rfl, rfl, rfl, rfl⟩
    exact (freeEngine_moved s).trans
      ((takeCharge_kept ..).moved.trans (tallied _).retested)
  · exact .refl s

theorem standing_queues (s : State) : MovesQueues s (exec .standing s) := by
  simp only [exec, execStanding, MovesQueues]
  split
  · rename_i slot amount _
    have moved (u : State) : QueuesKept u u.advanceSweep := .of_blocks (advanceSweep_proc u) (by rw [advanceSweep_engine])
    exact (freeEngine_moved s).trans
      (QueuesMoved.trans (.ite fun _ => (takeCharge_kept ..).moved) (moved _).retested)
  · exact .refl s

theorem applyFrame_queues (s : State) : MovesQueues s (exec .applyFrame s) := by
  simp only [exec, execApplyFrame, MovesQueues]
  split
  · rename_i r owned _
    have applied : QueuesKept s.freeEngine (s.freeEngine.applyRequest r).1 :=
      .of_blocks (applyRequest_proc ..) (accountChanges_control (applyRequest_changes ..)).op
    have answered (u : State) (reply : List Byte) : QueuesKept u (u.answerKiosk owned reply) := by
      rw [answerKiosk_eq]
      exact ⟨rfl, rfl, rfl, rfl⟩
    exact (freeEngine_moved s).trans (applied.moved.trans (answered _ _).retested)
  · exact .refl s

theorem gather_queues (s : State) : MovesQueues s (exec .gather s) := by
  simp only [exec, execGather, MovesQueues]
  split
  · split
    · exact (freeEngine_moved s).trans (QueuesKept.retested ⟨rfl, rfl, rfl, rfl⟩)
    · exact .refl s
  · exact .refl s

end Sys2Proof.Machine.Proofs

namespace Sys2Proof.Machine.Proofs

open Sys2Proof Sys2Proof.Machine Sys2Proof.Machine.Laws

/-! ### The Command Processor (chapter 5) -/

theorem submitted_moved (s : State) (value : Word) : QueuesMoved s (s.submitted value) := by
  unfold State.submitted
  split
  · rename_i room
    have held : s.proc.queue.length < 32 := room
    exact ⟨.inr (by simpa using held), .inl le_rfl, fun _ owned => .inr ⟨owned, id⟩⟩
  · exact QueuesKept.moved ⟨rfl, rfl, rfl, rfl⟩

theorem popped_moved (s : State) : QueuesMoved s s.popped := by
  unfold State.popped
  split
  · rename_i rest hr
    exact ⟨.inl le_rfl, .inl (by simp [State.reservedResults, hr]), fun _ owned => .inr ⟨owned, id⟩⟩
  · exact QueuesKept.moved ⟨rfl, rfl, rfl, rfl⟩

/-- A command starts with no other executing and a free place for its result (R99). -/
theorem commandStart_queues (s : State) : MovesQueues s (exec .commandStart s) := by
  simp only [exec, execCommandStart, MovesQueues]
  split
  · rename_i cmd rest hq
    refine .ite fun start => ?_
    obtain ⟨-, idle, room⟩ := (canStart_iff s).mp start
    refine ⟨.inl (by simp [hq]), .inr room, fun other owned => .inr ⟨owned, fun running => ?_⟩⟩
    cases idle.symm.trans running
  · exact .refl s

theorem badCommand_queues (s : State) : MovesQueues s (exec .badCommand s) := by
  simp only [exec, execBadCommand, MovesQueues]
  split
  · rename_i hx
    split
    · exact .refl s
    · exact .post hx nofun ..
  · exact .refl s

theorem purged_moved (s : State) : QueuesMoved s s.purged := by
  have emptied (u : State) : QueuesMoved u { u with proc := { u.proc with queue := [] } } :=
    ⟨.inr (Nat.zero_le 32), .inl le_rfl, fun _ owned => .inr ⟨owned, id⟩⟩
  exact (settleHandedWait_moved s).trans ((emptied _).trans (breakWait_moved _ _))

theorem disowned_ne_owned (op : EngineState) (cmd : QueuedCommand) : op.disowned ≠ .busy (.command cmd true) := by
  cases op with
  | free => nofun
  | busy op => cases op <;> nofun

theorem portReset_moved (s : State) : QueuesMoved s s.portReset :=
  .of_emptied rfl fun cmd => disowned_ne_owned s.engine.op cmd

theorem controlWrite_moved (s : State) (value : Word) : QueuesMoved s (s.controlWrite value) := by
  unfold State.controlWrite
  split
  · exact portReset_moved s
  · exact .ite fun _ => purged_moved s

theorem wait_queues (s : State) : MovesQueues s (exec .wait s) := settleHandedWait_moved s

theorem unbind_queues (s : State) : MovesQueues s (exec .unbind s) := by
  simp only [exec, execUnbind, MovesQueues]
  split
  · rename_i hx
    refine .ite fun _ => ?_
    split
    · exact .post hx nofun ..
    split
    · exact .post hx nofun ..
    · exact .of_executing hx nofun rfl (.inr rfl) rfl
  · exact .refl s

theorem bind_fits {s t : State} (h : exec .bind s = .next t) (fit : QueuesFit s) : QueuesFit t := by
  have refused := (takeCommand_moved s 0x10 fun f => (bindRefusal_beside f s).queues).fits fit
  simp only [exec, execBind, Host.Outcome.next.injEq] at h
  subst h
  split
  · split
    · exact completeCommand_fits s _ bindEffect_beside fit
    · exact refused
  · exact refused

theorem unbindDetach_fits {s t : State} (h : exec .unbindDetach s = .next t) (fit : QueuesFit s) : QueuesFit t := by
  have detached := completeCommand_fits s 0x11 unbindEffect_beside fit
  simp only [exec, execUnbindDetach, Host.Outcome.next.injEq] at h
  subst h
  split <;> exact detached

/-! ### The Commit Engine (chapter 9) -/

theorem commit_queues (s : State) : MovesQueues s (exec .commit s) := by
  simp only [exec, execCommit, MovesQueues]
  split
  · rename_i hx
    refine .ite fun _ => ?_
    unfold State.takeCommit
    dsimp only
    split
    · exact .of_executing hx nofun rfl (.inl ⟨rfl, List.length_append⟩) rfl
    · exact .of_executing hx nofun rfl (.inr rfl) rfl
  · exact .refl s

theorem commitStart_queues (s : State) : MovesQueues s (exec .commitStart s) := by
  simp only [exec, execCommitStart, MovesQueues]
  split
  · refine .ite fun _ => ?_
    split <;> exact QueuesKept.moved ⟨rfl, rfl, rfl, rfl⟩
  · exact .refl s

theorem eraseComplete_queues (s : State) : MovesQueues s (exec .eraseComplete s) := by
  simp only [exec, execEraseComplete, MovesQueues]
  split <;> exact QueuesKept.moved ⟨rfl, rfl, rfl, rfl⟩

theorem programComplete_queues (written : Bool) (s : State) : MovesQueues s (exec (.programComplete written) s) := by
  simp only [exec, execProgramComplete, MovesQueues]
  split <;> exact QueuesKept.moved ⟨rfl, rfl, rfl, rfl⟩

theorem settleWanted_moved (s : State) (page : Fin 9) (succeeded : Bool) :
    QueuesMoved s (s.settleWanted page succeeded) := by
  unfold State.settleWanted State.finishCommit
  split
  · exact .refl s
  dsimp only
  split
  · split
    · rename_i hx
      exact .of_executing hx nofun rfl (.inl ⟨rfl, List.length_append⟩) rfl
    · exact QueuesKept.moved ⟨rfl, rfl, rfl, rfl⟩
  · exact QueuesKept.moved ⟨rfl, rfl, rfl, rfl⟩

theorem verifyComplete_queues (s : State) : MovesQueues s (exec .verifyComplete s) := by
  have settled (u : State) (page : Fin 9) (succeeded : Bool) (h : QueuesKept s u) :
      QueuesMoved s (u.settleWanted page succeeded).retestWait :=
    h.moved.trans ((settleWanted_moved ..).trans (retestWait_moved _))
  simp only [exec, execVerifyComplete, MovesQueues]
  split
  · split
    · exact settled _ _ _ ⟨rfl, rfl, rfl, rfl⟩
    split
    · exact settled _ _ _ (.of_blocks (by simp [State.commitFailed]) (by simp [State.commitFailed]))
    · exact QueuesKept.moved ⟨rfl, rfl, rfl, rfl⟩
  · exact .refl s

/-! ### The Top-up Port, notices and the register port (chapters 7, 8 and 11) -/

/-- The port moves, and a WAIT tests its conditions. -/
theorem setPort_retest_queues (s : State) (port : TopUpPort) : MovesQueues s (.next (s.setPort port).retestWait) :=
  QueuesKept.retested ⟨rfl, rfl, rfl, rfl⟩

theorem collision_queues (bit : Fin 8) (s : State) : MovesQueues s (exec (.collision bit) s) :=
  QueuesMoved.ite fun _ => setPort_retest_queues s _

theorem writeNoticeMode_kept (s : State) (value : Word) : QueuesKept s (s.writeNoticeMode value) := by
  unfold State.writeNoticeMode
  split
  · split <;> exact ⟨rfl, rfl, rfl, rfl⟩
  · exact ⟨rfl, rfl, rfl, rfl⟩

theorem writeNoticeDone_kept (s : State) : QueuesKept s s.writeNoticeDone := by
  unfold State.writeNoticeDone
  split <;> exact ⟨rfl, rfl, rfl, rfl⟩

theorem readRegister_kept (s : State) (offset : BitVec 7) : QueuesKept s (s.readRegister offset) := by
  have effect : (s.readEffect offset).proc = s.proc := by
    unfold State.readEffect State.pushTaken
    split <;> split <;> rfl
  exact .of_blocks effect (readRegister_frame s offset).op

theorem writeRegister_moved (s : State) (offset : Nat) (value : Word) : QueuesMoved s (s.writeRegister offset value) := by
  unfold State.writeRegister
  split
  · exact QueuesKept.moved ⟨rfl, rfl, rfl, rfl⟩
  · exact QueuesKept.moved ⟨rfl, rfl, rfl, rfl⟩
  · split
    · exact controlWrite_moved ..
    · exact QueuesKept.moved ⟨rfl, rfl, rfl, rfl⟩
    · exact submitted_moved ..
    · exact popped_moved s
    · exact QueuesKept.moved ⟨rfl, rfl, rfl, rfl⟩
    · exact QueuesKept.moved ⟨rfl, rfl, rfl, rfl⟩
    · exact (writeNoticeMode_kept ..).moved
    · exact (writeNoticeDone_kept s).moved
    · exact QueuesKept.moved ⟨rfl, rfl, rfl, rfl⟩

/-- A register access is served, or changes nothing. -/
theorem served_queues {s u : State} (h : QueuesMoved s u) : MovesQueues s (.next (if s.served then u else s)) :=
  QueuesMoved.ite fun _ => h

end Sys2Proof.Machine.Proofs

namespace Sys2Proof.Machine.Proofs

open Sys2Proof Sys2Proof.Machine Sys2Proof.Machine.Laws

/-! ### Every command -/

/-- The meaning of every command keeps the queues within their sizes. -/
theorem exec_fits {c : Instr} {s t : State} (h : exec c s = .next t) (fit : QueuesFit s) : QueuesFit t := by
  have engineServed : ∀ {code effect}, EffectBeside effect →
      (Host.Outcome.next (s.completeCommand code effect) : Host.Outcome State Fault Refusal) = .next t → QueuesFit t := by
    intro code effect beside ht
    cases ht
    exact completeCommand_fits s code beside fit
  have taken : ∀ {code effect}, EffectBeside effect → MovesQueues s (.next (s.takeCommand code effect)) :=
    fun beside => takeCommand_moved s _ fun f => (beside f s).queues
  have ported : ∀ port, MovesQueues s (.next (s.setPort port)) := fun _ => QueuesKept.moved ⟨rfl, rfl, rfl, rfl⟩
  cases c with
  | reset => exact (reset_queues s).fits h fit
  | loadingStart => exact (loadingStart_queues s).fits h fit
  | loadSettingsPage => exact (loadSettingsPage_queues s).fits h fit
  | loadAccountPage => exact (loadAccountPage_queues s).fits h fit
  | entryToHoldup conditionFirst => exact (entryToHoldup_queues conditionFirst s).fits h fit
  | entryToSafe =>
    have same : MovesQueues s (exec .entryToSafe s) := QueuesKept.row ⟨rfl, rfl, rfl, rfl⟩
    exact same.fits h fit
  | returnToRun => exact (returnToRun_queues s).fits h fit
  | tick conditionFirst => exact (tick_queues conditionFirst s).fits h fit
  | periodBoundary =>
    have bounded : MovesQueues s (exec .periodBoundary s) := QueuesMoved.ite fun _ => takeBoundary_moved s
    exact bounded.fits h fit
  | graceExpiry p =>
    have same : MovesQueues s (exec (.graceExpiry p) s) := QueuesKept.row ⟨rfl, rfl, rfl, rfl⟩
    exact same.fits h fit
  | routinePageEligible page => exact (routinePageEligible_queues page s).fits h fit
  | waitTimeout => exact (waitTimeout_queues s).fits h fit
  | meterLineChange p =>
    have same : MovesQueues s (exec (.meterLineChange p) s) := QueuesKept.moved ⟨rfl, rfl, rfl, rfl⟩
    exact same.fits h fit
  | debounceComplete p =>
    have same : MovesQueues s (exec (.debounceComplete p) s) := QueuesKept.row ⟨rfl, rfl, rfl, rfl⟩
    exact same.fits h fit
  | engineGrant => exact (engineGrant_queues s).fits h fit
  | charge => exact (charge_queues s).fits h fit
  | standing => exact (standing_queues s).fits h fit
  | applyFrame => exact (applyFrame_queues s).fits h fit
  | gather => exact (gather_queues s).fits h fit
  | submit value => exact (served_queues (submitted_moved s value)).fits h fit
  | commandStart => exact (commandStart_queues s).fits h fit
  | badCommand => exact (badCommand_queues s).fits h fit
  | pop value => exact (served_queues (popped_moved s)).fits h fit
  | purge value => exact (served_queues (controlWrite_moved s value)).fits h fit
  | portReset value => exact (served_queues (controlWrite_moved s value)).fits h fit
  | wait => exact (wait_queues s).fits h fit
  | mark =>
    have marked : MovesQueues s (exec .mark s) := takeCommand_moved s _ fun _ => ⟨rfl, rfl, rfl, rfl⟩
    exact marked.fits h fit
  | openAccount => exact engineServed openEffect_beside h
  | closeAccount => exact engineServed closeEffect_beside h
  | credit => exact engineServed creditEffect_beside h
  | debit => exact engineServed debitEffect_beside h
  | transfer => exact engineServed transferEffect_beside h
  | query => exact engineServed (beside_of_state queryEffect_state) h
  | querySlot => exact engineServed (beside_of_state querySlotEffect_state) h
  | scan => exact engineServed (beside_of_state scanEffect_state) h
  | amend => exact engineServed amendEffect_beside h
  | suspend => exact engineServed (statusEffect_beside _) h
  | resume => exact engineServed (statusEffect_beside _) h
  | repair => exact engineServed repairEffect_beside h
  | discard => exact engineServed discardEffect_beside h
  | nextAttention => exact engineServed nextAttentionEffect_beside h
  | bind => exact bind_fits h fit
  | unbind => exact (unbind_queues s).fits h fit
  | unbindDetach => exact unbindDetach_fits h fit
  | configurePoint => exact (taken configureEffect_beside).fits h fit
  | hold => exact (taken holdEffect_beside).fits h fit
  | release => exact (taken releaseEffect_beside).fits h fit
  | queryPoint => exact (taken queryPointEffect_beside).fits h fit
  | setDefer => exact (taken setDeferEffect_beside).fits h fit
  | setTariff => exact (taken setTariffEffect_beside).fits h fit
  | setBand => exact (taken setBandEffect_beside).fits h fit
  | setPeriod => exact (taken setPeriodEffect_beside).fits h fit
  | setTopup => exact (taken setTopupEffect_beside).fits h fit
  | setInterval => exact (taken setIntervalEffect_beside).fits h fit
  | commit => exact (commit_queues s).fits h fit
  | commitStart => exact (commitStart_queues s).fits h fit
  | eraseComplete => exact (eraseComplete_queues s).fits h fit
  | programComplete written => exact (programComplete_queues written s).fits h fit
  | verifyComplete => exact (verifyComplete_queues s).fits h fit
  | busStart => exact (setPort_retest_queues s _).fits h fit
  | busStop => exact (setPort_retest_queues s _).fits h fit
  | addressByte byte => exact (ported _).fits h fit
  | kindByte byte => exact (ported _).fits h fit
  | frameByte byte => exact (ported _).fits h fit
  | discardByte byte => exact (ported _).fits h fit
  | replyByte acknowledged => exact (setPort_retest_queues s _).fits h fit
  | collision bit => exact (collision_queues bit s).fits h fit
  | busTimeout => exact (setPort_retest_queues s _).fits h fit
  | noticeReadyWrite value =>
    exact (served_queues (s := s) (u := s.writeNoticeReady value) (QueuesKept.moved ⟨rfl, rfl, rfl, rfl⟩)).fits h fit
  | noticeEnableWrite value =>
    exact (served_queues (s := s) (u := s.writeNoticeEnable value) (QueuesKept.moved ⟨rfl, rfl, rfl, rfl⟩)).fits h fit
  | noticeModeWrite value => exact (served_queues (writeNoticeMode_kept s value).moved).fits h fit
  | noticeTake => exact (served_queues (readRegister_kept s 0x19).moved).fits h fit
  | noticeDone value => exact (served_queues (writeNoticeDone_kept s).moved).fits h fit
  | errorsWrite value =>
    exact (served_queues (s := s) (u := s.writeErrors value) (QueuesKept.moved ⟨rfl, rfl, rfl, rfl⟩)).fits h fit
  | pointFlagsWrite p value =>
    exact (served_queues (s := s) (u := s.writePointFlags p value) (QueuesKept.moved ⟨rfl, rfl, rfl, rfl⟩)).fits h fit
  | unassignedRead offset => exact (served_queues (readRegister_kept s offset).moved).fits h fit
  | registerWrite offset value => exact (served_queues (writeRegister_moved s offset.toNat value)).fits h fit

/-- Settles O53: the meaning of each command keeps the queues within their sizes, and the idle step changes nothing. -/
theorem everyStepKeepsQueuesFit : Obligations.EveryStepKeepsQueuesFit := by
  intro s t fit h
  unfold step at h
  split at h
  · cases h; exact fit
  · exact exec_fits h fit

end Sys2Proof.Machine.Proofs

namespace Sys2Proof.Machine.Proofs

open Sys2Proof Sys2Proof.Machine Sys2Proof.Machine.Laws

/-! ### PURGE (R111) -/

theorem purged_waiting {s : State} {cmd : QueuedCommand} {w : WaitState}
    (hx : s.proc.executing = some { cmd, phase := .waiting w }) :
    s.purged = waitEnded { s with proc := { s.proc with queue := [] } } cmd w .purged := by
  have settled : s.settleHandedWait = s := by simp only [State.settleHandedWait, hx]
  simp only [State.purged, settled, State.breakWait, hx]
  rfl

/-- A command that executes on: it is no WAIT. -/
theorem purged_goesOn {s : State} (settled : s.settleHandedWait = s) (waits : NotWaiting s) :
    s.purged = { s with proc := { s.proc with queue := [] } } := by
  rw [State.purged, settled, State.breakWait]
  split
  · rename_i cmd w hx
    exact absurd hx (waits cmd w)
  · rfl

theorem settleHandedWait_other {s : State} (h : ∀ cmd, ¬Handed s 0x21 cmd) : s.settleHandedWait = s := by
  unfold State.settleHandedWait
  split
  · rename_i cmd hx
    exact if_neg fun code => h cmd ⟨hx, code⟩
  · rfl

/-! ### PORT RESET (R113, R153, R168, R199) -/

theorem exec_portReset {s : State} (h : s.run.runState ≠ .reset) {value : Word} (reset : value.getLsbD 1 = true) :
    exec (.portReset value) s = .next s.portReset := by
  simp only [exec, execPortReset, served_of_run h, if_true, State.controlWrite, reset]

theorem portReset_staging (s : State) (i : Fin 7) : s.portReset.proc.staging[i] = 0 :=
  Vector.getElem_replicate i.isLt

/-- No source is enabled after a PORT RESET, so none requests (R157, R168). -/
theorem portReset_noticeAsserted (s : State) : s.portReset.noticeAsserted = false := by
  have requests : s.portReset.requests = 0 := BitVec.and_zero
  have mode : s.portReset.notice.mode = .summary := rfl
  rw [State.noticeAsserted, mode, requests]
  exact Bool.and_false _

theorem portReset_op {s : State} {state : EngineState} (h : s.engine.op = state) :
    s.portReset.engine.op = state.disowned := by
  subst h
  rfl

/-! ### An operation that a PORT RESET has abandoned (R45, R113) -/

/-- The state in which the operation of the command still has its requester. -/
def stillOwned (s : State) (cmd : QueuedCommand) : State :=
  { s with engine := { s.engine with op := .busy (.command cmd true) } }

/-- What a row completes for a command that still executes, but for the Command Processor and the tally. -/
def besideRequester (s u : State) : State := { u with proc := s.proc, points := { u.points with tally := s.points.tally } }

/-- Completing an abandoned operation leaves what the row leaves for a command that still executes, and then a WAIT that
executes by then is re-tested. -/
structure CompletesUnanswered (c : Instr) (s : State) (cmd : QueuedCommand) (u : State) : Prop where
  owned : exec c (stillOwned s cmd) = .next u
  abandoned : exec c s = .next (besideRequester s u).retestWait

theorem RequesterKept.besideRequester_post {s t : State} (h : RequesterKept s.freeEngine t) (cmd : QueuedCommand)
    (a : Answer) : besideRequester s (t.post cmd a) = t := by
  have proc : s.proc = t.proc := h.proc.symm
  have tally : s.points.tally = t.points.tally := h.tally.symm
  rw [besideRequester, proc, tally]
  rfl

/-- The row of a command that the engine serves. -/
theorem completeCommand_unanswered {effect : Vector Word 7 → State → State × Answer} (beside : EffectBeside effect)
    {c : Instr} {s : State} {cmd : QueuedCommand} (hop : s.engine.op = .busy (.command cmd false))
    (owned : exec c (stillOwned s cmd) = .next ((stillOwned s cmd).completeCommand cmd.code effect))
    (abandoned : exec c s = .next (s.completeCommand cmd.code effect)) : ∃ u, CompletesUnanswered c s cmd u := by
  refine ⟨_, owned, ?_⟩
  rw [abandoned, completeCommand_abandoned s cmd effect hop, completeCommand_owned _ cmd effect rfl]
  exact congrArg (fun t : State => Host.Outcome.next t.retestWait)
    ((beside cmd.params s.freeEngine).besideRequester_post cmd _).symm

/-- The detach of an abandoned UNBIND leaves the tally, which is a later one's (R72). -/
theorem unbindDetach_unanswered {s : State} {cmd : QueuedCommand} (hop : s.engine.op = .busy (.command cmd false))
    (code : cmd.code = 0x11) : ∃ u, CompletesUnanswered .unbindDetach s cmd u := by
  have abandoned : exec .unbindDetach s = .next (s.completeCommand cmd.code unbindEffect) := by
    simp only [exec, execUnbindDetach, State.detachOwned, hop, code, Bool.false_and, Bool.false_eq_true, if_false]
  refine ⟨_, exec_unbindDetach (s := stillOwned s cmd) (t := (unbindEffect cmd.params s.freeEngine).1)
    (a := (unbindEffect cmd.params s.freeEngine).2) ⟨rfl, code⟩ rfl, ?_⟩
  rw [abandoned, completeCommand_abandoned s cmd unbindEffect hop]
  exact congrArg (fun t : State => Host.Outcome.next t.retestWait)
    ((unbindEffect_beside cmd.params s.freeEngine).besideRequester_post cmd (unbindEffect cmd.params s.freeEngine).2).symm

theorem bind_unanswered {s : State} {cmd : QueuedCommand} (hop : s.engine.op = .busy (.command cmd false))
    (code : cmd.code = 0x10) : ∃ u, CompletesUnanswered .bind s cmd u := by
  have row (u : State) (owned : Bool) (h : u.engine.op = .busy (.command cmd owned)) :
      exec .bind u = .next (u.completeCommand cmd.code bindEffect) := by
    simp only [exec, execBind, h, code, if_true]
  exact completeCommand_unanswered bindEffect_beside hop (row _ true rfl) (row s false hop)

/-- The rows of the sixteen commands that the engine serves. -/
theorem servedCommand_unanswered {c : Instr} {code : Byte}
    (hc : (c, code) ∈ [(.openAccount, 0x01), (.closeAccount, 0x02), (.credit, 0x03), (.debit, 0x04), (.transfer, 0x05),
      (.query, 0x06), (.querySlot, 0x07), (.scan, 0x08), (.amend, 0x09), (.suspend, 0x0A), (.resume, 0x0B), (.repair, 0x0C),
      (.discard, 0x0D), (.nextAttention, 0x0E), (.bind, 0x10), (.unbindDetach, (0x11 : Byte))])
    {s : State} {cmd : QueuedCommand} (hop : s.engine.op = .busy (.command cmd false)) (hcode : cmd.code = code) :
    ∃ u, CompletesUnanswered c s cmd u := by
  have account {effect} (beside : EffectBeside effect)
      (row : ∀ u, exec c u = .next (u.completeCommand cmd.code effect)) : ∃ u, CompletesUnanswered c s cmd u :=
    completeCommand_unanswered beside hop (row _) (row s)
  subst hcode
  simp only [List.mem_cons, Prod.mk.injEq, List.not_mem_nil, or_false] at hc
  rcases hc with ⟨rfl, hc⟩ | ⟨rfl, hc⟩ | ⟨rfl, hc⟩ | ⟨rfl, hc⟩ | ⟨rfl, hc⟩ | ⟨rfl, hc⟩ | ⟨rfl, hc⟩ | ⟨rfl, hc⟩ | ⟨rfl, hc⟩ |
    ⟨rfl, hc⟩ | ⟨rfl, hc⟩ | ⟨rfl, hc⟩ | ⟨rfl, hc⟩ | ⟨rfl, hc⟩ | ⟨rfl, hc⟩ | ⟨rfl, hc⟩
  · exact account openEffect_beside fun _ => by rw [hc]; rfl
  · exact account closeEffect_beside fun _ => by rw [hc]; rfl
  · exact account creditEffect_beside fun _ => by rw [hc]; rfl
  · exact account debitEffect_beside fun _ => by rw [hc]; rfl
  · exact account transferEffect_beside fun _ => by rw [hc]; rfl
  · exact account (beside_of_state queryEffect_state) fun _ => by rw [hc]; rfl
  · exact account (beside_of_state querySlotEffect_state) fun _ => by rw [hc]; rfl
  · exact account (beside_of_state scanEffect_state) fun _ => by rw [hc]; rfl
  · exact account amendEffect_beside fun _ => by rw [hc]; rfl
  · exact account (statusEffect_beside .suspended) fun _ => by rw [hc]; rfl
  · exact account (statusEffect_beside .active) fun _ => by rw [hc]; rfl
  · exact account repairEffect_beside fun _ => by rw [hc]; rfl
  · exact account discardEffect_beside fun _ => by rw [hc]; rfl
  · exact account nextAttentionEffect_beside fun _ => by rw [hc]; rfl
  · exact bind_unanswered hop hc
  · exact unbindDetach_unanswered hop hc

/-- Settles O22: PURGE by what executes, the blocks after a PORT RESET, and the operations that it has abandoned. -/
theorem purgeAndPortResetEmptyQueues : Obligations.PurgeAndPortResetEmptyQueues := by
  refine ⟨fun s value hr purge reset => ⟨fun cmd w hx => ?_, fun idle => ?_, fun cmd phase hx code waits => ?_⟩,
    fun s value hr reset => ⟨s.portReset, exec_portReset hr reset, rfl, rfl, rfl, rfl, rfl, rfl, rfl, rfl, rfl, rfl, rfl,
      rfl, rfl, portReset_staging s, rfl, rfl, rfl, rfl, rfl, rfl, rfl, rfl, rfl, rfl, portReset_noticeAsserted s, rfl, rfl,
      rfl, rfl, rfl, rfl, rfl, rfl, rfl, rfl, rfl, rfl, rfl, fun _ => rfl, rfl, portReset_op, fun _ _ => portReset_op,
      fun _ _ => portReset_op, fun _ _ _ _ => portReset_op, fun _ => portReset_op, fun _ _ => portReset_op⟩,
    fun c code hc s cmd hop hcode => ?_⟩
  · rw [exec_purge hr purge reset, purged_waiting hx]
    rfl
  · rw [exec_purge hr purge reset, purged_goesOn (settleHandedWait_other fun cmd hd => ?_) (fun cmd w hx => ?_)]
    · cases idle.symm.trans hd.1
    · cases idle.symm.trans hx
  · rw [exec_purge hr purge reset, purged_goesOn (settleHandedWait_other fun other hd => ?_) (fun other w hw => ?_)]
    · cases hx.symm.trans hd.1
      exact code hd.2
    · cases hx.symm.trans hw
      exact waits w rfl
  · obtain ⟨u, owned, abandoned⟩ := servedCommand_unanswered hc hop hcode
    refine ⟨u, owned, fun waits => ?_, fun waiting w hx => ⟨fun met => ?_, fun unmet => ?_⟩⟩
    · exact abandoned.trans (congrArg _ (retestWait_of_notWaiting waits))
    · exact abandoned.trans (congrArg _ ((retestWait_waiting (s := besideRequester s u) hx).trans (if_pos met)))
    · exact abandoned.trans (congrArg _ ((retestWait_waiting (s := besideRequester s u) hx).trans (if_neg unmet)))

end Sys2Proof.Machine.Proofs

namespace Sys2Proof.Machine.Proofs

open Sys2Proof Sys2Proof.Machine Sys2Proof.Machine.Laws

/-! ### The codes that are no command codes (R101, R203) -/

theorem mem_commandCodes_iff (n : Nat) :
    n ∈ commandCodes ↔ ¬(n ∈ [0x00, 0x0F, 0x17, 0x1B, 0x1E, 0x1F] ∨ 0x23 ≤ n) := by
  simp only [commandCodes, List.mem_cons, List.not_mem_nil, or_false]
  omega

theorem isAccountCommand_known {n : Nat} (h : isAccountCommand n = true) : n ∈ commandCodes := by
  simp only [isAccountCommand, Bool.and_eq_true, decide_eq_true_eq] at h
  simp only [commandCodes, List.mem_cons, List.not_mem_nil, or_false]
  omega

/-- No engine operation is requested for an unknown code. -/
theorem startPhase_unknown (s : State) {cmd : QueuedCommand} (unknown : cmd.code.toNat ∉ commandCodes) :
    s.startPhase cmd = .handed := by
  have account : ¬isAccountCommand cmd.code.toNat = true := fun h => unknown (isAccountCommand_known h)
  have bind : cmd.code ≠ 0x10 := fun h => unknown (by rw [h]; decide)
  rw [State.startPhase, if_neg account, if_neg fun h => bind h.1]

theorem exec_badCommand {s : State} {cmd : QueuedCommand} (hx : s.proc.executing = some { cmd, phase := .handed }) :
    exec .badCommand s =
      .next (if cmd.code.toNat ∈ commandCodes then s else replied s (plainResult cmd .badCommand)) := by
  simp only [exec, execBadCommand, hx]
  rfl

/-- Settles O21: the start and the answer of an unknown code, and BAD_COMMAND at a known one. -/
theorem unknownCodeIsBadCommand : Obligations.UnknownCodeIsBadCommand := by
  refine ⟨fun s cmd rest unknown hq run idle room => ?_, fun s cmd unknown hx => ?_, fun s cmd known hx => ?_⟩
  · have notKnown : cmd.code.toNat ∉ commandCodes := fun known => (mem_commandCodes_iff _).mp known unknown
    rw [exec_commandStart hq, if_pos ((canStart_iff s).mpr ⟨run, idle, room⟩), startPhase_unknown s notKnown]
  · rw [exec_badCommand hx, if_neg fun known => (mem_commandCodes_iff _).mp known unknown]
  · rw [exec_badCommand hx, if_pos ((mem_commandCodes_iff _).mpr known)]

/-! ### The RESULT source (R105) -/

theorem readyFlags_result (s : State) : s.readyFlags.getLsbD 22 = !s.proc.results.isEmpty := by
  have value : s.readyFlags = BitVec.ofNat 23 (ofFlags (readyList s)) := rfl
  rw [value, BitVec.getLsbD_ofNat, testBit_ofFlags]
  rfl

theorem readyFlags_result_of_nil {s : State} (h : s.proc.results = []) : s.readyFlags.getLsbD 22 = false := by
  rw [readyFlags_result, h]
  rfl

theorem readyFlags_result_iff (s : State) : s.readyFlags.getLsbD 22 = true ↔ 0 < s.proc.results.length := by
  rw [readyFlags_result, List.length_pos_iff, Bool.not_eq_true', List.isEmpty_eq_false_iff]

theorem replied_results (s : State) (r : Result) : (replied s r).proc.results = s.proc.results ++ [r] := rfl

theorem popped_results {s : State} {r : Result} {rest : List Result} (h : s.proc.results = r :: rest) :
    s.popped.proc.results = rest := by
  simp only [State.popped, h]

/-- Settles O49: the source is the count's sign, so each row is asked only what it does to the results held. -/
theorem resultSourceFollowsCount : Obligations.ResultSourceFollowsCount := by
  refine ⟨readyFlags_result_iff, fun s r => (readyFlags_result_iff _).mpr ?_, fun s value r hr held => ?_,
    fun s value hr reset => ?_, fun s => ?_, fun s value => ?_⟩
  · rw [replied_results, List.length_append]
    exact Nat.lt_add_left _ Nat.one_pos
  · exact ⟨_, exec_pop hr value, readyFlags_result_of_nil (popped_results held)⟩
  · exact ⟨_, exec_portReset hr reset, readyFlags_result_of_nil rfl⟩
  · exact ⟨_, rfl, readyFlags_result_of_nil rfl⟩
  · refine ⟨_, rfl, ?_⟩
    rw [readyFlags_result, readyFlags_result]
    split <;> rfl

end Sys2Proof.Machine.Proofs

namespace Sys2Proof.Machine.Proofs

open Sys2Proof Sys2Proof.Machine Sys2Proof.Machine.Laws

/-! ### The operation of an account command about one slot (R114) -/

theorem withAccount_found {s : State} {number : Nat} {slot : Fin 64} (f : Fin 64 → State × Answer)
    (h : s.lookup number = some slot) : s.withAccount number f = f slot := by
  simp only [State.withAccount, h]

section Completed

variable {effect : Vector Word 7 → State → State × Answer} {c : Instr} {s : State} {code : Byte} {cmd : QueuedCommand}
  {a : Answer}

/-- An account command whose effect is known: the state it leaves, and its result. -/
theorem exec_of_effect {t : State} (g : Granted s code cmd) (hc : exec c s = .next (s.completeCommand code effect))
    (h : effect cmd.params s.freeEngine = (t, a)) : exec c s = .next (replied t (resultOf cmd a)) := by
  rw [hc, completeCommand_replied g, h]

/-- An account command whose effect changes nothing. -/
theorem exec_of_unchanged (g : Granted s code cmd) (hc : exec c s = .next (s.completeCommand code effect))
    (h : effect cmd.params s.freeEngine = (s.freeEngine, a)) : exec c s = .next (answered s (resultOf cmd a)) := by
  rw [hc, completeCommand_unchanged g h]

end Completed

/-- What an operation about one slot leaves as it was. -/
structure SlotOperation (s t : State) (slot : Fin 64) : Prop where
  op : t.engine.op = s.engine.op
  proc : t.proc = s.proc
  frame : CommandFrame s t
  slots : SlotsKept s t slot
  commit : CommitKept s t (pageOf slot)
  points : PointsKept s t slot

/-- The operation of a command, on the freed engine, with the result it posts. -/
theorem SlotOperation.accountStep {s t : State} {slot : Fin 64} (h : SlotOperation s.freeEngine t slot) (r : Result) :
    AccountStep s (replied t r) slot r := by
  have posted : Posted s (replied t r) r := by
    rw [Posted, replied, h.proc]
    rfl
  exact ⟨h.op, posted, h.frame, h.slots, h.commit, h.points⟩

/-! ### A page is reported after updates that have left the Commit Engine alone (R173) -/

theorem report_commitKept_of {s t : State} (h : t.commit = s.commit) (page : Fin 9) (urgent : Bool) :
    CommitKept s (t.report page urgent) page := by
  have kept := report_commitKept t page urgent
  rwa [CommitKept, CommitFrame, h] at kept

theorem report_urgent_of {s t : State} (h : t.commit = s.commit) (page : Fin 9) :
    ReportedUrgent s (t.report page true) page := by
  have reported := report_urgent (s := t) (urgent := true) page rfl
  rwa [ReportedUrgent, RecordedUrgent, h] at reported

/-! ### A record is written (R11, R36, R37, R41) -/

theorem relevelled_of_level {a : Account} (h : a.level = levelOf a.balance a.low a.ec) : a.relevelled = a := by
  rw [Account.relevelled, ← h]

/-- A slot's record has been written with its level recomputed, and the slot's page is reported urgent. -/
structure RecordWritten (s t : State) (slot : Fin 64) (a : Account) (before : Level) : Prop
    extends SlotOperation s t slot where
  record : t.slot slot = a.relevelled
  directory : t.engine.directory = s.engine.directory
  attention : t.engine.attention = attentionAfter slot before a.relevelled.level false s.engine.attention
  reported : ReportedUrgent s t (pageOf slot)

/-- What OPEN, AMEND, SUSPEND, RESUME and REPAIR do to a slot. -/
def writeRecord (s : State) (slot : Fin 64) (a : Account) (before : Level) : State :=
  (s.changeAccount slot a before {}).report (pageOf slot) true

theorem writeRecord_written (s : State) (slot : Fin 64) (a : Account) (before : Level) :
    RecordWritten s (writeRecord s slot a before) slot a before where
  op := changeAccount_op ..
  proc := changeAccount_proc ..
  frame := by simp [writeRecord, CommandFrame]
  slots i hi := (changeAccount_slot ..).trans (if_neg hi.symm)
  commit := report_commitKept_of (changeAccount_commit ..) _ _
  points := changeAccount_points_kept ..
  record := (changeAccount_slot ..).trans (if_pos rfl)
  directory := changeAccount_directory ..
  attention := changeAccount_attentionAfter s slot a before false
  reported := report_urgent_of (changeAccount_commit ..) _

/-- The points of a slot whose status changes are told (R37). -/
theorem writeRecord_point_of_status (s : State) {slot : Fin 64} {a : Account} (before : Level)
    (status : a.status ≠ (s.slot slot).status) (bound : 0 < a.boundCount) {p : Fin 16}
    (hp : (s.point p).binding = some slot) :
    (writeRecord s slot a before).point p = (s.point p).notified s.points.deferral a.status a.relevelled.level :=
  (changeAccount_point ..).trans (if_pos ⟨.inr status, bound, hp⟩)

/-- No point is told of a slot that no point is bound to. -/
theorem writeRecord_points_of_unbound (s : State) (slot : Fin 64) {a : Account} (before : Level)
    (h : a.boundCount = 0) : (writeRecord s slot a before).points = s.points := by
  have unbound : ¬0 < a.relevelled.boundCount := by
    rw [Account.relevelled, h]
    exact Nat.lt_irrefl 0
  rw [writeRecord, report_points, State.changeAccount, if_neg fun told => unbound told.2, addReasons_points, setSlot_points]

theorem writeRecord_told (s : State) {slot : Fin 64} {a : Account} (before : Level)
    (count : a.boundCount = (s.slot slot).boundCount) : PointsTold s (writeRecord s slot a before) slot :=
  changeAccount_told s slot before {} count

/-! ### A slot is freed (R8) -/

theorem slot_freeSlot (s : State) (slot : Fin 64) : (s.freeSlot slot).slot slot = Account.free :=
  slot_setSlot_same (s.removeAttention slot) slot Account.free

theorem freeSlot_operation (s : State) (slot : Fin 64) : SlotOperation s (s.freeSlot slot) slot where
  op := rfl
  proc := rfl
  frame := ⟨rfl, rfl, rfl, rfl, rfl, rfl, rfl, rfl, rfl⟩
  slots _ hi := slot_setSlot_other (s.removeAttention slot) Account.free hi.symm
  commit := report_commitKept_of rfl _ _
  points := ⟨fun _ _ => rfl, rfl, rfl⟩

theorem freeSlot_reported (s : State) (slot : Fin 64) : ReportedUrgent s (s.freeSlot slot) (pageOf slot) :=
  report_urgent_of rfl _

/-! ### CLOSE (R118) -/

section Close

variable {f : Vector Word 7} {s : State} {number : Nat} {slot : Fin 64}

theorem closeEffect_bound (hn : digits8 f[0] = some number) (hl : s.lookup number = some slot)
    (h : 0 < (s.slot slot).boundCount) : closeEffect f s = (s, recordAnswer .bound slot (s.slot slot)) := by
  simp only [closeEffect, hn, withAccount_found _ hl, if_pos h]

theorem closeEffect_unbound (hn : digits8 f[0] = some number) (hl : s.lookup number = some slot)
    (h : (s.slot slot).boundCount = 0) :
    closeEffect f s = ((s.removeDirectory slot).freeSlot slot, fullAnswer slot (s.slot slot)) := by
  simp only [closeEffect, hn, withAccount_found _ hl, h, Nat.lt_irrefl, if_false]

end Close

/-- Settles O26: BOUND changes nothing; otherwise the slot is freed beside its directory entry. -/
theorem closeFreesUnboundSlot : Obligations.CloseFreesUnboundSlot := by
  intro s cmd number slot g hn hl
  refine ⟨fun bound => ?_, fun unbound => ?_⟩
  · have refused := closeEffect_bound (s := s.freeEngine) hn hl bound
    exact (exec_of_unchanged (c := .closeAccount) g rfl refused :)
  · have closed := closeEffect_unbound (s := s.freeEngine) hn hl unbound
    have kept : SlotOperation s.freeEngine ((s.freeEngine.removeDirectory slot).freeSlot slot) slot := by
      obtain ⟨op, proc, frame, slots, commit, points⟩ := freeSlot_operation (s.freeEngine.removeDirectory slot) slot
      exact ⟨op, proc, frame, slots, commit, points⟩
    exact ⟨_, exec_of_effect (c := .closeAccount) g rfl closed, kept.accountStep _, slot_freeSlot .., rfl, rfl,
      freeSlot_reported (s.freeEngine.removeDirectory slot) slot, rfl⟩

/-! ### SUSPEND and RESUME (R128, R129, R7) -/

section Status

variable {f : Vector Word 7} {s : State} {number : Nat} {slot : Fin 64} {status : Status}

theorem statusEffect_same (hn : digits8 f[0] = some number) (hl : s.lookup number = some slot)
    (h : (s.slot slot).status = status) :
    statusEffect status f s = (s, recordAnswer .wrongState slot (s.slot slot)) := by
  simp only [statusEffect, hn, withAccount_found _ hl, if_pos h]

theorem statusEffect_changed (hn : digits8 f[0] = some number) (hl : s.lookup number = some slot)
    (h : (s.slot slot).status ≠ status) :
    statusEffect status f s =
      (writeRecord s slot { s.slot slot with status } (s.slot slot).level,
        fullAnswer slot { s.slot slot with status }.relevelled) := by
  rw [← (writeRecord_written s slot _ _).record]
  simp only [statusEffect, hn, withAccount_found _ hl, if_neg h]
  rfl

end Status

/-- SUSPEND and RESUME answer by the status of the slot. -/
theorem statusCommand_answers {c : Instr} {code : Byte} {status : Status} {s : State} {cmd : QueuedCommand}
    {number : Nat} {slot : Fin 64} (g : Granted s code cmd)
    (hc : exec c s = .next (s.completeCommand code (statusEffect status))) (hn : digits8 cmd.params[0] = some number)
    (hl : s.lookup number = some slot) :
    ((s.slot slot).status = status →
      exec c s = .next (answered s (recordResult cmd .wrongState slot (s.slot slot)))) ∧
    ((s.slot slot).status ≠ status →
      exec c s = .next (replied (writeRecord s.freeEngine slot { s.slot slot with status } (s.slot slot).level)
        (fullResult cmd slot { s.slot slot with status }.relevelled))) :=
  ⟨fun same => exec_of_unchanged g hc (statusEffect_same (s := s.freeEngine) hn hl same),
    fun changed => exec_of_effect g hc (statusEffect_changed (s := s.freeEngine) hn hl changed)⟩

/-- Settles O31: the refusal, and the record written with the new status at the level it had. -/
theorem suspendAndResumeSetStatus : Obligations.SuspendAndResumeSetStatus := by
  intro c code status hc s cmd number slot g hn hl
  have runs : exec c s = .next (s.completeCommand code (statusEffect status)) := by
    simp only [List.mem_cons, Prod.mk.injEq, List.not_mem_nil, or_false] at hc
    rcases hc with ⟨rfl, rfl, rfl⟩ | ⟨rfl, rfl, rfl⟩ <;> rfl
  obtain ⟨refused, changed⟩ := statusCommand_answers g runs hn hl
  refine ⟨refused, fun other level => ?_⟩
  have kept : { s.slot slot with status }.relevelled = { s.slot slot with status } := relevelled_of_level level
  have written := writeRecord_written s.freeEngine slot { s.slot slot with status } (s.slot slot).level
  rw [kept] at changed
  refine ⟨_, changed other, written.accountStep _, written.record.trans kept, written.directory, ?_, written.reported,
    fun bound p hp => ?_⟩
  · have attention := written.attention
    rw [kept, attentionAfter_self] at attention
    exact attention
  · have told := writeRecord_point_of_status s.freeEngine (s.slot slot).level (a := { s.slot slot with status }) other.symm
      bound hp
    rw [kept] at told
    exact told

end Sys2Proof.Machine.Proofs

namespace Sys2Proof.Machine.Proofs

open Sys2Proof Sys2Proof.Machine Sys2Proof.Machine.Laws

/-! ### The staged fields of AMEND (R126, R203) -/

theorem selected_eq_some_iff {α : Type} (chosen : Bool) (field y : Option α) :
    selected chosen field = some y ↔ if chosen = true then y ≠ none ∧ y = field else y = none := by
  cases chosen
  · simp [selected, eq_comm]
  · cases field <;> cases y <;> simp [selected, eq_comm]

theorem amendFields_eq_some_iff (f : Vector Word 7) (x : AmendFields) :
    amendFields f = some x ↔
      digits8 f[0] = some x.number ∧ lowByte f[1] < 8 ∧
        selected (f[1].getLsbD 0) (tariffIndex (lowByte f[2])) = some x.tariff ∧
        selected (f[1].getLsbD 1) (digits8 f[3]) = some x.ec ∧ selected (f[1].getLsbD 2) (digits8 f[4]) = some x.low := by
  have bit (i : Nat) (h : i < 8) := testBit_lowByte f[1] h
  simp only [amendFields, Option.bind_eq_bind, Option.bind_eq_some_iff, bit 0 (by omega), bit 1 (by omega),
    bit 2 (by omega), Option.ite_none_right_eq_some, Option.some.injEq]
  constructor
  · rintro ⟨number, hn, tariff, ht, ec, he, low, hl, range, rfl⟩
    exact ⟨hn, range, ht, he, hl⟩
  · rintro ⟨hn, range, ht, he, hl⟩
    exact ⟨x.number, hn, x.tariff, ht, x.ec, he, x.low, hl, range, rfl⟩

/-! ### AMEND (R126, R127) -/

section Amend

variable {f : Vector Word 7} {s : State} {x : AmendFields} {slot : Fin 64}

theorem amendEffect_same (hx : amendFields f = some x) (hl : s.lookup x.number = some slot)
    (h : x.amended (s.slot slot) = s.slot slot) : amendEffect f s = (s, fullAnswer slot (s.slot slot)) := by
  simp only [amendEffect, hx, withAccount_found _ hl, if_pos h]

theorem amendEffect_changed (hx : amendFields f = some x) (hl : s.lookup x.number = some slot)
    (h : x.amended (s.slot slot) ≠ s.slot slot) :
    amendEffect f s =
      (writeRecord s slot (x.amended (s.slot slot)) (s.slot slot).level,
        fullAnswer slot (x.amended (s.slot slot)).relevelled) := by
  rw [← (writeRecord_written s slot _ _).record]
  simp only [amendEffect, hx, withAccount_found _ hl, if_neg h]
  rfl

end Amend

/-- Settles O30: the selected fields one by one, and the record written when one of them changes. -/
theorem amendWritesSelectedFields : Obligations.AmendWritesSelectedFields := by
  refine ⟨fun f x => ?_, fun s cmd x slot g hx hl => ⟨fun same => ?_, fun changed => ?_⟩⟩
  · rw [amendFields_eq_some_iff, selected_eq_some_iff, selected_eq_some_iff, selected_eq_some_iff]
    rfl
  · have unchanged := amendEffect_same (s := s.freeEngine) hx hl same
    exact (exec_of_unchanged (c := .amend) g rfl unchanged :)
  · have amended := amendEffect_changed (s := s.freeEngine) hx hl changed
    have written := writeRecord_written s.freeEngine slot (x.amended (s.slot slot)) (s.slot slot).level
    have told := writeRecord_told s.freeEngine (s.slot slot).level (a := x.amended (s.slot slot)) (slot := slot) rfl
    exact ⟨_, exec_of_effect (c := .amend) g rfl amended, written.accountStep _, written.record, written.directory,
      written.reported, written.attention, told⟩

/-! ### The lowest FREE slot (R13) -/

theorem lowestFree_eq_some {s : State} {slot : Fin 64} (free : (s.slot slot).status = .free)
    (lowest : ∀ i, i < slot → (s.slot i).status ≠ .free) : s.lowestFree = some slot := by
  refine List.find?_eq_some_iff_getElem.mpr ⟨by simp [free], slot.val, by simp, by simp, fun j hj => ?_⟩
  simpa only [List.getElem_finRange, Fin.cast_mk, Bool.not_eq_true', beq_eq_false_iff_ne] using
    lowest ⟨j, by omega⟩ hj

theorem lowestFree_eq_none {s : State} (h : ∀ i, (s.slot i).status ≠ .free) : s.lowestFree = none :=
  List.find?_eq_none.mpr fun i _ => by simpa using h i

/-! ### OPEN (R117, R6) -/

theorem openFields_eq_some {f : Vector Word 7} {o : OpenFields} (hn : digits8 f[0] = some o.number)
    (ht : tariffIndex (lowByte f[1]) = some o.tariff) (he : digits8 f[2] = some o.ec) (hl : digits8 f[3] = some o.low)
    (ha : amountPair f[4] f[5] = some o.amount) (nonzero : o.number ≠ 0) : openFields f = some o := by
  simp only [openFields, hn, ht, he, hl, ha, Option.bind_eq_bind, Option.bind_some, if_neg nonzero]

section Open

variable {f : Vector Word 7} {s : State} {o : OpenFields} {slot : Fin 64}

theorem openEffect_duplicate (ho : openFields f = some o) (held : s.lookup o.number = some slot) :
    openEffect f s = (s, recordAnswer .duplicate slot (s.slot slot)) := by
  simp only [openEffect, ho, held]

theorem openEffect_full (ho : openFields f = some o) (fresh : s.lookup o.number = none)
    (full : s.lowestFree = none) : openEffect f s = (s, numberAnswer .tableFull o.number) := by
  simp only [openEffect, ho, fresh, full]

theorem openEffect_opened (ho : openFields f = some o) (fresh : s.lookup o.number = none)
    (lowest : s.lowestFree = some slot) :
    openEffect f s =
      (writeRecord (s.insertDirectory o.number slot) slot o.account .normal,
        fullAnswer slot o.account.relevelled) := by
  rw [← (writeRecord_written (s.insertDirectory o.number slot) slot _ _).record]
  simp only [openEffect, ho, fresh, lowest]
  rfl

end Open

/-- The record of a slot is written beside a new directory entry, which no other part of the operation sees (R17). -/
theorem insertDirectory_operation {s t : State} {number : Nat} {slot : Fin 64}
    (h : SlotOperation (s.insertDirectory number slot) t slot) : SlotOperation s t slot :=
  ⟨h.op, h.proc, h.frame, h.slots, h.commit, h.points⟩

/-- An opening amount above L is NORMAL and brings no reason; any other is LOW and brings LOW (R11, R21). -/
theorem openAttention (slot : Fin 64) (amount low ec : Nat) (entries : List AttentionEntry) :
    (low < amount → attentionAfter slot .normal (levelOf amount low ec) false entries = entries) ∧
      (amount ≤ low →
        attentionAfter slot .normal (levelOf amount low ec) false entries = joinReasons slot { low := true } entries) := by
  obtain ⟨normal, low, -, -⟩ := levelOf_iff amount low ec
  refine ⟨fun above => ?_, fun within => ?_⟩
  · rw [normal.mpr (by omega), attentionAfter_self]
    rfl
  · rw [low.mpr (by omega)]
    rfl

/-- Settles O25: the record in the lowest FREE slot beside its directory entry, and the refusals in their order. -/
theorem openTakesLowestFreeSlot : Obligations.OpenTakesLowestFreeSlot := by
  refine ⟨fun s cmd number tariff ec low amount slot g hn ht he hl ha nonzero fresh free lowest => ?_,
    fun s cmd number tariff ec low amount g hn ht he hl ha => ⟨fun zero => ?_, fun nonzero slot held => ?_,
      fun nonzero fresh full => ?_⟩⟩
  · have fields := openFields_eq_some (o := { number, tariff, ec, low, amount }) hn ht he hl ha nonzero
    have opened := openEffect_opened (s := s.freeEngine) fields fresh (lowestFree_eq_some free lowest)
    have written := writeRecord_written (s.freeEngine.insertDirectory number slot) slot
      (OpenFields.account { number, tariff, ec, low, amount }) .normal
    have kept := (insertDirectory_operation written.toSlotOperation).accountStep
    obtain ⟨above, within⟩ := openAttention slot amount low ec s.engine.attention
    exact ⟨_, exec_of_effect (c := .openAccount) g rfl opened, kept _, written.record, written.directory,
      written.reported, fun h => written.attention.trans (above h), fun h => written.attention.trans (within h),
      writeRecord_points_of_unbound _ slot .normal rfl⟩
  · have bad : openEffect cmd.params s.freeEngine = (s.freeEngine, badField) := by
      simp only [openEffect, openFields_eq_none (.inr (.inl (zero ▸ hn)))]
    exact badField_answered g rfl bad
  · have fields := openFields_eq_some (o := { number, tariff, ec, low, amount }) hn ht he hl ha nonzero
    have refused := openEffect_duplicate (s := s.freeEngine) fields held
    exact (exec_of_unchanged (c := .openAccount) g rfl refused :)
  · have fields := openFields_eq_some (o := { number, tariff, ec, low, amount }) hn ht he hl ha nonzero
    have refused := openEffect_full (s := s.freeEngine) fields fresh (lowestFree_eq_none full)
    exact (exec_of_unchanged (c := .openAccount) g rfl refused :)

end Sys2Proof.Machine.Proofs

namespace Sys2Proof.Machine.Proofs

open Sys2Proof Sys2Proof.Machine Sys2Proof.Machine.Laws

/-! ### The tests of CREDIT and DEBIT (R32, R33) -/

/-- The least balance that a debit may leave (R33). -/
def debitFloor (a : Account) (force : Bool) : Int := if force then -9999999999 else -(a.ec : Int)

theorem creditOverflows_eq (a : Account) (amount : Nat) :
    creditOverflows a amount = decide (9999999999 < a.balance + amount) := rfl

theorem debitRefusal_eq (a : Account) (amount : Nat) (force : Bool) :
    debitRefusal a amount force =
      if a.balance - amount < debitFloor a force then some (if force then .overflow else .insufficient) else none := by
  cases force <;> rfl

theorem forceField_eq_some_iff (w : Word) (force : Bool) : forceField w = some force ↔ bits w 0 8 = force.toNat := by
  unfold forceField lowByte
  cases force <;> split_ifs <;> simp <;> omega

/-! ### A command that stores a balance (R119, R120) -/

theorem BalanceStored.slotOperation {s t : State} {slot : Fin 64} {balance : Int} {clamped urgent : Bool}
    (h : BalanceStored s t slot balance clamped urgent) : SlotOperation s t slot :=
  ⟨h.op, h.proc, h.frame, h.slots, h.commit, h.points⟩

/-- The balance that the slot has is stored without a trace (R30, R32). -/
theorem storeBalance_of_eq {s : State} {slot : Fin 64} {balance : Int} (h : balance = (s.slot slot).balance) (u : Bool) :
    s.storeBalance slot balance {} u = s :=
  h ▸ storeBalance_same s slot u

/-- What CREDIT and DEBIT do when the new balance passes its test. -/
def balanceAnswer (s : State) (slot : Fin 64) (balance : Int) : State × Answer :=
  let t := s.storeBalance slot balance {} true
  (t, recordAnswer .done slot (t.slot slot))

theorem balanceAnswer_same {s : State} {slot : Fin 64} {balance : Int} (h : balance = (s.slot slot).balance) :
    balanceAnswer s slot balance = (s, recordAnswer .done slot (s.slot slot)) := by
  simp only [balanceAnswer, storeBalance_of_eq h]

/-- A new balance is stored, and the record is answered with it. -/
theorem balanceAnswer_new {s : State} {slot : Fin 64} {balance : Int} (h : balance ≠ (s.slot slot).balance) :
    ∃ t, balanceAnswer s slot balance = (t, recordAnswer .done slot (withBalance (s.slot slot) balance)) ∧
      BalanceStored s t slot balance false true := by
  have stored := storeBalance_stored s slot balance false true
  refine ⟨_, ?_, stored⟩
  rw [← stored.stored h]
  rfl

section Balance

variable {f : Vector Word 7} {s : State} {number amount : Nat} {slot : Fin 64}

theorem creditEffect_overflow (hn : digits8 f[0] = some number) (ha : amountPair f[1] f[2] = some amount)
    (hl : s.lookup number = some slot) (h : 9999999999 < (s.slot slot).balance + amount) :
    creditEffect f s = (s, recordAnswer .overflow slot (s.slot slot)) := by
  simp only [creditEffect, hn, ha, withAccount_found _ hl, creditOverflows_eq, decide_eq_true h, if_true]

theorem creditEffect_stored (hn : digits8 f[0] = some number) (ha : amountPair f[1] f[2] = some amount)
    (hl : s.lookup number = some slot) (h : (s.slot slot).balance + amount ≤ 9999999999) :
    creditEffect f s = balanceAnswer s slot ((s.slot slot).balance + amount) := by
  simp only [creditEffect, hn, ha, withAccount_found _ hl, creditOverflows_eq, decide_eq_false (not_lt.mpr h),
    Bool.false_eq_true, if_false]
  rfl

variable {force : Bool}

theorem debitFields_eq_some (hn : digits8 f[0] = some number) (ha : amountPair f[1] f[2] = some amount)
    (hf : forceField f[3] = some force) : debitFields f = some (number, amount, force) := by
  simp only [debitFields, hn, ha, hf, Option.bind_eq_bind, Option.bind_some]

theorem debitEffect_refused (hx : debitFields f = some (number, amount, force)) (hl : s.lookup number = some slot)
    (h : (s.slot slot).balance - amount < debitFloor (s.slot slot) force) :
    debitEffect f s = (s, recordAnswer (if force then .overflow else .insufficient) slot (s.slot slot)) := by
  simp only [debitEffect, hx, withAccount_found _ hl, debitRefusal_eq, if_pos h]

theorem debitEffect_stored (hx : debitFields f = some (number, amount, force)) (hl : s.lookup number = some slot)
    (h : debitFloor (s.slot slot) force ≤ (s.slot slot).balance - amount) :
    debitEffect f s = balanceAnswer s slot ((s.slot slot).balance - amount) := by
  simp only [debitEffect, hx, withAccount_found _ hl, debitRefusal_eq, if_neg (not_lt.mpr h)]
  rfl

end Balance

/-! ### RESTORED (R21) -/

theorem attentionAfter_restored (slot : Fin 64) {after : Level} (h : after ≠ .exhausted) (entries : List AttentionEntry) :
    attentionAfter slot .exhausted after false entries = joinReasons slot { restored := true } entries := by
  cases after with
  | exhausted => exact absurd rfl h
  | normal => rfl
  | low => rfl
  | emergency => rfl

/-- The slot's entry has the reason that has joined it. -/
theorem joinReasons_restored (slot : Fin 64) (entries : List AttentionEntry) :
    ∃ e ∈ joinReasons slot { restored := true } entries, e.slot = slot ∧ e.reasons.restored = true := by
  induction entries with
  | nil => exact ⟨_, List.mem_cons_self, rfl, rfl⟩
  | cons e rest ih =>
    rw [joinReasons]
    split
    · rename_i same
      exact ⟨_, List.mem_cons_self, same, by simp [Reasons.union]⟩
    · obtain ⟨found, mem, facts⟩ := ih
      exact ⟨found, List.mem_cons_of_mem _ mem, facts⟩

/-! ### CREDIT and DEBIT -/

/-- A command whose effect stores a new balance and answers with the record. -/
theorem exec_newBalance {effect : Vector Word 7 → State → State × Answer} {c : Instr} {s : State} {code : Byte}
    {cmd : QueuedCommand} {slot : Fin 64} {balance : Int} (g : Granted s code cmd)
    (hc : exec c s = .next (s.completeCommand code effect))
    (h : effect cmd.params s.freeEngine = balanceAnswer s.freeEngine slot balance)
    (new : balance ≠ (s.slot slot).balance) :
    let a := withBalance (s.slot slot) balance
    ∃ t, exec c s = .next t ∧ AccountStep s t slot (recordResult cmd .done slot a) ∧ t.slot slot = a ∧
      t.engine.directory = s.engine.directory ∧ ReportedUrgent s t (pageOf slot) ∧ PointsTold s t slot ∧
      t.engine.attention = attentionAfter slot (s.slot slot).level a.level false s.engine.attention := by
  obtain ⟨t, answer, stored⟩ := balanceAnswer_new (s := s.freeEngine) new
  have record := stored.stored new
  have attention := stored.attention
  rw [record] at attention
  exact ⟨_, exec_of_effect g hc (h.trans answer), stored.slotOperation.accountStep _, record, stored.directory,
    stored.reportedUrgent new rfl, stored.told, attention⟩

/-- Settles O27: for CREDIT and for DEBIT the refusal, the amount 0, and the balance stored. -/
theorem creditAndDebitMoveBalance : Obligations.CreditAndDebitMoveBalance := by
  refine ⟨fun s cmd number amount slot g hn ha hl =>
      ⟨fun exceeds => ?_, fun zero within => ?_, fun nonzero within => ?_⟩,
    fun s cmd number amount force slot g hn ha hf hl => ?_⟩
  · have refused := creditEffect_overflow (s := s.freeEngine) hn ha hl exceeds
    exact (exec_of_unchanged (c := .credit) g rfl refused :)
  · subst zero
    have same : (s.slot slot).balance + (0 : Nat) = (s.slot slot).balance := by omega
    have stored := creditEffect_stored (s := s.freeEngine) hn ha hl (same.trans_le within)
    exact (exec_of_unchanged (c := .credit) g rfl (stored.trans (balanceAnswer_same same)) :)
  · have stored := creditEffect_stored (s := s.freeEngine) hn ha hl within
    have new : (s.slot slot).balance + amount ≠ (s.slot slot).balance := by omega
    obtain ⟨t, ht, step, record, directory, reported, told, attention⟩ := exec_newBalance (c := .credit) g rfl stored new
    refine ⟨t, ht, step, record, directory, reported, told, attention, fun exhausted better => ?_⟩
    rw [exhausted] at attention
    rw [attention.trans (attentionAfter_restored slot better s.engine.attention)]
    exact joinReasons_restored slot s.engine.attention
  · have fields := debitFields_eq_some hn ha hf
    refine ⟨fun short => ?_, fun zero within => ?_, fun nonzero within => ?_⟩
    · have refused := debitEffect_refused (s := s.freeEngine) fields hl short
      exact (exec_of_unchanged (c := .debit) g rfl refused :)
    · subst zero
      have same : (s.slot slot).balance - (0 : Nat) = (s.slot slot).balance := by omega
      have stored := debitEffect_stored (s := s.freeEngine) fields hl (within.trans_eq same.symm)
      exact (exec_of_unchanged (c := .debit) g rfl (stored.trans (balanceAnswer_same same)) :)
    · have stored := debitEffect_stored (s := s.freeEngine) fields hl within
      have new : (s.slot slot).balance - amount ≠ (s.slot slot).balance := by omega
      exact exec_newBalance (c := .debit) g rfl stored new

end Sys2Proof.Machine.Proofs

namespace Sys2Proof.Machine.Proofs

open Sys2Proof Sys2Proof.Machine Sys2Proof.Machine.Laws

/-! ### Two reports in their order (R173, R175; log entry 17) -/

/-- A page whose record is urgent, or that stands in the list, joins it no second time. -/
theorem eligibleAfterUrgent_again (record : Option DirtyRecord) (page : Fin 9) (pages : List (Fin 9)) :
    eligibleAfterUrgent record page (eligibleAfterUrgent record page pages) = eligibleAfterUrgent record page pages := by
  by_cases h : record.map DirtyRecord.urgent = some true ∨ page ∈ pages
  · simp only [eligibleAfterUrgent, if_pos h]
  · simp only [eligibleAfterUrgent, if_neg h, List.mem_append, List.mem_singleton, or_true, if_true]

theorem eligibleAfterUrgent_urgent (age : Nat) (page : Fin 9) (pages : List (Fin 9)) :
    eligibleAfterUrgent (some { urgent := true, age }) page pages = pages :=
  if_pos (.inl rfl)

/-- An urgent report after another, of the same page or of a different one. -/
theorem reportedUrgent_inOrder {s t u : State} {first second : Fin 9} (one : ReportedUrgent s t first)
    (kept : CommitKept s t first) (two : ReportedUrgent t u second) (keptTwo : CommitKept t u second) :
    ReportedUrgentInOrder s u first second := by
  obtain ⟨record, eligible⟩ := one
  obtain ⟨recordTwo, eligibleTwo⟩ := two
  rw [RecordedUrgent] at record recordTwo
  by_cases h : second = first
  · subst h
    rw [record] at recordTwo eligibleTwo
    rw [eligibleAfterUrgent_urgent] at eligibleTwo
    refine ⟨recordTwo, recordTwo, ?_⟩
    rw [eligibleTwo, eligible, eligibleAfterUrgent_again]
  · rw [kept.1 second h] at recordTwo eligibleTwo
    exact ⟨(keptTwo.1 first (Ne.symm h)).trans record, recordTwo, eligible ▸ eligibleTwo⟩

theorem commandFrame_trans {s t u : State} (one : CommandFrame s t) (two : CommandFrame t u) : CommandFrame s u := by
  obtain ⟨run, timer, port, notice, nv, spi, readData, freeCount, pending⟩ := one
  obtain ⟨run', timer', port', notice', nv', spi', readData', freeCount', pending'⟩ := two
  exact ⟨run'.trans run, timer'.trans timer, port'.trans port, notice'.trans notice, nv'.trans nv, spi'.trans spi,
    readData'.trans readData, freeCount'.trans freeCount, pending'.trans pending⟩

theorem commitFrame_trans {s t u : State} (one : CommitFrame s t) (two : CommitFrame t u) : CommitFrame s u := by
  rw [CommitFrame] at one two ⊢
  rw [two, one]

/-! ### An amount moves from one slot to another (R34, R22) -/

theorem toldPoint_binding (s t : State) (slot : Fin 64) (p : Fin 16) :
    (toldPoint s t slot p).binding = (s.point p).binding := by
  unfold toldPoint
  split
  · exact notified_binding ..
  · rfl

theorem toldPoint_congr {s s' t t' : State} {slot : Fin 64} {p : Fin 16} (before : s'.slot slot = s.slot slot)
    (after : t'.slot slot = t.slot slot) (point : s'.point p = s.point p)
    (deferral : s'.points.deferral = s.points.deferral) : toldPoint s' t' slot p = toldPoint s t slot p := by
  simp only [toldPoint, before, after, point, deferral]

/-- New balances have been stored at two slots, the source first. -/
structure BothStored (s u : State) (src dst : Fin 64) (srcBalance dstBalance : Int) : Prop where
  op : u.engine.op = s.engine.op
  proc : u.proc = s.proc
  frame : CommandFrame s u
  source : u.slot src = withBalance (s.slot src) srcBalance
  destination : u.slot dst = withBalance (s.slot dst) dstBalance
  slots : ∀ i, i ≠ src → i ≠ dst → u.slot i = s.slot i
  directory : u.engine.directory = s.engine.directory
  attention : u.engine.attention = attentionAfter dst (s.slot dst).level (u.slot dst).level false
    (attentionAfter src (s.slot src).level (u.slot src).level false s.engine.attention)
  reported : ReportedUrgentInOrder s u (pageOf src) (pageOf dst)
  toldSource : PointsTold s u src
  toldDestination : PointsTold s u dst
  dirty : ∀ q, q ≠ pageOf src → q ≠ pageOf dst → u.commit.dirty[q] = s.commit.dirty[q]
  commit : CommitFrame s u
  deferral : u.points.deferral = s.points.deferral
  tally : u.points.tally = s.points.tally
  points : ∀ p, (s.point p).binding ≠ some src → (s.point p).binding ≠ some dst → u.point p = s.point p

section Both

variable {s t u : State} {src dst : Fin 64} {srcBalance dstBalance : Int}

/-- The points of the source are not touched by the second balance. -/
theorem BalanceStored.toldSource (one : BalanceStored s t src srcBalance false true)
    (two : BalanceStored t u dst dstBalance false true) (different : src ≠ dst) : PointsTold s u src := by
  intro bound p hp
  have told : t.point p = toldPoint s t src p := one.told bound p hp
  have elsewhere : (t.point p).binding ≠ some dst := by
    rw [told, toldPoint_binding, hp]
    exact fun same => different (Option.some.inj same)
  rw [two.points.1 p elsewhere, told]
  exact toldPoint_congr rfl (two.slots src different).symm rfl rfl

/-- The points of the destination are as they were when the second balance is stored. -/
theorem BalanceStored.toldDestination (one : BalanceStored s t src srcBalance false true)
    (two : BalanceStored t u dst dstBalance false true) (different : src ≠ dst) : PointsTold s u dst := by
  intro bound p hp
  have kept : t.slot dst = s.slot dst := one.slots dst different.symm
  have point : t.point p = s.point p := one.points.1 p fun other => different (Option.some.inj (other.symm.trans hp))
  rw [two.told (kept.symm ▸ bound) p (point.symm ▸ hp)]
  exact toldPoint_congr kept rfl point one.points.2.1

theorem BalanceStored.both (one : BalanceStored s t src srcBalance false true)
    (two : BalanceStored t u dst dstBalance false true) (different : src ≠ dst)
    (srcNew : srcBalance ≠ (s.slot src).balance) (dstNew : dstBalance ≠ (s.slot dst).balance) :
    BothStored s u src dst srcBalance dstBalance := by
  have srcAfter : u.slot src = t.slot src := two.slots src different
  have dstBefore : t.slot dst = s.slot dst := one.slots dst different.symm
  rw [← dstBefore] at dstNew
  exact {
    op := two.op.trans one.op
    proc := two.proc.trans one.proc
    frame := commandFrame_trans one.frame two.frame
    source := srcAfter.trans (one.stored srcNew)
    destination := dstBefore ▸ two.stored dstNew
    slots := fun i hs hd => (two.slots i hd).trans (one.slots i hs)
    directory := two.directory.trans one.directory
    attention := by rw [two.attention, one.attention, dstBefore, srcAfter]
    reported := reportedUrgent_inOrder (one.reportedUrgent srcNew rfl) one.commit (two.reportedUrgent dstNew rfl)
      two.commit
    toldSource := one.toldSource two different
    toldDestination := one.toldDestination two different
    dirty := fun q hs hd => (two.commit.1 q hd).trans (one.commit.1 q hs)
    commit := commitFrame_trans one.commit.2 two.commit.2
    deferral := two.points.2.1.trans one.points.2.1
    tally := two.points.2.2.trans one.points.2.2
    points := fun p hs hd => by
      have first : t.point p = s.point p := one.points.1 p hs
      exact (two.points.1 p (first.symm ▸ hd)).trans first }

end Both

theorem moveAmount_stored {s : State} {src dst : Fin 64} {amount : Nat} (different : src ≠ dst) (nonzero : amount ≠ 0) :
    BothStored s (s.moveAmount src dst amount) src dst ((s.slot src).balance - amount) ((s.slot dst).balance + amount) := by
  have one := storeBalance_stored s src ((s.slot src).balance - amount) false true
  have two := storeBalance_stored (s.storeBalance src ((s.slot src).balance - amount) {} true) dst
    ((s.slot dst).balance + amount) false true
  have moved : s.moveAmount src dst amount =
      (s.storeBalance src ((s.slot src).balance - amount) {} true).storeBalance dst ((s.slot dst).balance + amount) {}
        true := by
    rw [← one.slots dst different.symm]
    rfl
  exact moved ▸ one.both two different (by omega) (by omega)

theorem moveAmount_zero (s : State) (src dst : Fin 64) : s.moveAmount src dst 0 = s := by
  have taken : s.storeBalance src ((s.slot src).balance - (0 : Nat)) {} true = s := storeBalance_of_eq (by omega) true
  rw [State.moveAmount, taken]
  exact storeBalance_of_eq (by omega) true

/-! ### TRANSFER (R121) -/

theorem transferFields_eq_some_iff (f : Vector Word 7) (x : TransferFields) :
    transferFields f = some x ↔
      digits8 f[0] = some x.source ∧ digits8 f[1] = some x.destination ∧ amountPair f[2] f[3] = some x.amount ∧
        bits f[4] 0 8 = x.force.toNat := by
  simp only [← forceField_eq_some_iff, transferFields, Option.bind_eq_bind, Option.bind_eq_some_iff, Option.some.injEq]
  constructor
  · rintro ⟨source, hs, destination, hd, amount, ha, force, hf, rfl⟩
    exact ⟨hs, hd, ha, hf⟩
  · rintro ⟨hs, hd, ha, hf⟩
    exact ⟨x.source, hs, x.destination, hd, x.amount, ha, x.force, hf, rfl⟩

section Transfer

variable {s : State} {src dst : Fin 64} {x : TransferFields}

theorem transferBetween_same (h : src = dst) :
    s.transferBetween src dst x = (s, recordAnswer .sameAccount src (s.slot src)) := by
  rw [State.transferBetween, if_pos h]

/-- The source would fall below its floor. -/
theorem transferBetween_short (different : src ≠ dst)
    (h : (s.slot src).balance - x.amount < debitFloor (s.slot src) x.force) :
    s.transferBetween src dst x =
      (s, if x.force then { recordAnswer .overflow src (s.slot src) with extraA := 1 }
        else recordAnswer .insufficient src (s.slot src)) := by
  rw [State.transferBetween, if_neg different, debitRefusal_eq, if_pos h]
  cases x.force <;> rfl

theorem transferBetween_overflow (different : src ≠ dst)
    (h : debitFloor (s.slot src) x.force ≤ (s.slot src).balance - x.amount)
    (exceeds : 9999999999 < (s.slot dst).balance + x.amount) :
    s.transferBetween src dst x = (s, { recordAnswer .overflow src (s.slot src) with extraA := 2 }) := by
  simp only [State.transferBetween, if_neg different, debitRefusal_eq, if_neg (not_lt.mpr h), creditOverflows_eq,
    decide_eq_true exceeds, if_true]

/-- The answer of a TRANSFER that is done, from the state it has left. -/
def transferAnswer (t : State) (src dst : Fin 64) : Answer :=
  { recordAnswer .done src (t.slot src) with
    extraA := destinationField dst (t.slot dst), extraB := moneyLow (t.slot dst).balance }

theorem transferBetween_moved (different : src ≠ dst)
    (h : debitFloor (s.slot src) x.force ≤ (s.slot src).balance - x.amount)
    (fits : (s.slot dst).balance + x.amount ≤ 9999999999) :
    s.transferBetween src dst x =
      (s.moveAmount src dst x.amount, transferAnswer (s.moveAmount src dst x.amount) src dst) := by
  simp only [State.transferBetween, if_neg different, debitRefusal_eq, if_neg (not_lt.mpr h), creditOverflows_eq,
    decide_eq_false (not_lt.mpr fits), Bool.false_eq_true, if_false]
  rfl

variable {f : Vector Word 7}

theorem transferEffect_noSource (hx : transferFields f = some x) (hs : s.lookup x.source = none) :
    transferEffect f s = (s, { numberAnswer .notFound x.source with extraA := 1 }) := by
  simp only [transferEffect, hx, hs]

theorem transferEffect_noDestination (hx : transferFields f = some x) (hs : s.lookup x.source = some src)
    (hd : s.lookup x.destination = none) :
    transferEffect f s = (s, { numberAnswer .notFound x.destination with extraA := 2 }) := by
  simp only [transferEffect, hx, hs, hd]

theorem transferEffect_found (hx : transferFields f = some x) (hs : s.lookup x.source = some src)
    (hd : s.lookup x.destination = some dst) : transferEffect f s = s.transferBetween src dst x := by
  simp only [transferEffect, hx, hs, hd]

end Transfer

/-- A TRANSFER that passes its tests, whose amount is not 0. -/
theorem exec_transfer_moved {s : State} {cmd : QueuedCommand} {x : TransferFields} {src dst : Fin 64}
    (g : Granted s 0x05 cmd) (hx : transferFields cmd.params = some x) (hs : s.lookup x.source = some src)
    (hd : s.lookup x.destination = some dst) (different : src ≠ dst)
    (passes : debitFloor (s.slot src) x.force ≤ (s.slot src).balance - x.amount)
    (fits : (s.slot dst).balance + x.amount ≤ 9999999999) :
    exec .transfer s =
      .next (replied (s.freeEngine.moveAmount src dst x.amount)
        (resultOf cmd (transferAnswer (s.freeEngine.moveAmount src dst x.amount) src dst))) :=
  exec_of_effect (c := .transfer) g rfl
    ((transferEffect_found (s := s.freeEngine) hx hs hd).trans (transferBetween_moved different passes fits))

/-- Settles O28: the amount moved, the amount 0, the staged fields, and the refusals in their order. -/
theorem transferMovesAmount : Obligations.TransferMovesAmount := by
  refine ⟨fun s cmd x src dst g hx hs hd different nonzero passes fits => ?_,
    fun s cmd x src dst g hx hs hd different zero passes fits => ?_, transferFields_eq_some_iff,
    fun s cmd g => ⟨fun bad => ?_, fun x hx => ⟨fun absent => ?_, fun src hs => ⟨fun absent => ?_, fun dst hd =>
      ⟨fun same => ?_, fun different plain short => ?_, fun different forced short => ?_,
        fun different passes exceeds => ?_⟩⟩⟩⟩⟩
  · have moved := moveAmount_stored (s := s.freeEngine) different nonzero
    have posted := congrArg (fun proc : CommandProcessor => { proc with
      executing := none
      results := proc.results ++ [resultOf cmd (transferAnswer (s.freeEngine.moveAmount src dst x.amount) src dst)] })
      moved.proc
    have conserved : (s.slot src).balance - x.amount + ((s.slot dst).balance + x.amount) =
        (s.slot src).balance + (s.slot dst).balance := by omega
    refine ⟨_, _, exec_transfer_moved g hx hs hd different passes fits, moved.op, posted, moved.frame, moved.source,
      moved.destination, ?_, moved.slots, moved.directory, moved.attention, moved.reported, moved.toldSource,
      moved.toldDestination, moved.dirty, moved.commit, moved.deferral, moved.tally, moved.points, rfl⟩
    exact (congrArg₂ (fun a b : Account => a.balance + b.balance) moved.source moved.destination).trans conserved
  · have floor : debitFloor (s.slot src) x.force ≤ (s.slot src).balance - x.amount := by
      rw [zero, Int.natCast_zero, Int.sub_zero]
      exact passes
    rw [exec_transfer_moved g hx hs hd different floor (by omega), zero, moveAmount_zero]
    rfl
  · have refused : transferEffect cmd.params s.freeEngine = (s.freeEngine, badField) := by
      simp only [transferEffect, bad]
    exact badField_answered g rfl refused
  · have refused := transferEffect_noSource (s := s.freeEngine) hx absent
    exact (exec_of_unchanged (c := .transfer) g rfl refused :)
  · have refused := transferEffect_noDestination (s := s.freeEngine) hx hs absent
    exact (exec_of_unchanged (c := .transfer) g rfl refused :)
  all_goals have found := transferEffect_found (s := s.freeEngine) hx hs hd
  · have refused := transferBetween_same (s := s.freeEngine) (x := x) same
    exact (exec_of_unchanged (c := .transfer) g rfl (found.trans refused) :)
  · have refused := transferBetween_short (s := s.freeEngine) (x := x) different (by rw [plain]; exact short)
    rw [plain] at refused
    exact (exec_of_unchanged (c := .transfer) g rfl (found.trans refused) :)
  · have refused := transferBetween_short (s := s.freeEngine) (x := x) different (by rw [forced]; exact short)
    rw [forced] at refused
    exact (exec_of_unchanged (c := .transfer) g rfl (found.trans refused) :)
  · have refused := transferBetween_overflow (s := s.freeEngine) different passes exceeds
    exact (exec_of_unchanged (c := .transfer) g rfl (found.trans refused) :)

end Sys2Proof.Machine.Proofs

namespace Sys2Proof.Machine.Proofs

open Sys2Proof Sys2Proof.Machine Sys2Proof.Machine.Laws

/-! ### QUERY and QUERY_SLOT (R122, R123) -/

theorem queryEffect_found {f : Vector Word 7} {s : State} {number : Nat} {slot : Fin 64}
    (hn : digits8 f[0] = some number) (hl : s.lookup number = some slot) :
    queryEffect f s = (s, fullAnswer slot (s.slot slot)) := by
  simp only [queryEffect, hn, withAccount_found _ hl]

theorem lowByte_eq (w : Word) : lowByte w = w.toNat % 256 := by
  rw [lowByte, bits, pow_zero, Nat.div_one]
  rfl

theorem slotField_eq_some_iff (w : Word) (slot : Fin 64) : slotField w = some slot ↔ w.toNat % 256 = slot.val := by
  rw [slotField, ← lowByte_eq]
  split
  · simp [Fin.ext_iff]
  · simp only [reduceCtorEq, false_iff]
    omega

/-! ### The staged fields and the tests of SCAN (R124, R203) -/

theorem scanFields_eq_some_iff (f : Vector Word 7) (x : ScanFields) :
    scanFields f = some x ↔
      x.start = bits f[0] 0 8 ∧ x.mask = bits f[1] 0 8 ∧ digits8 f[2] = some x.pattern ∧ x.statuses = bits f[3] 0 8 ∧
        x.levels = bits f[4] 0 8 ∧ x.statuses < 4 ∧ x.levels < 16 := by
  simp only [scanFields, Option.bind_eq_bind, Option.bind_eq_some_iff, Option.ite_none_right_eq_some,
    Option.some.injEq]
  constructor
  · rintro ⟨pattern, hp, ⟨statuses, levels⟩, rfl⟩
    exact ⟨rfl, rfl, hp, rfl, rfl, statuses, levels⟩
  · obtain ⟨start, mask, pattern, statuses, levels⟩ := x
    rintro ⟨rfl, rfl, hp, rfl, rfl, statuses, levels⟩
    exact ⟨pattern, hp, ⟨statuses, levels⟩, rfl⟩

theorem digitsMatch_iff (mask pattern number : Nat) :
    digitsMatch mask pattern number = true ↔
      ∀ j, j < 8 → mask.testBit j = true → number / 10 ^ j % 10 = pattern / 10 ^ j % 10 := by
  simp only [digitsMatch, List.all_eq_true, List.mem_range, Bool.or_eq_true, Bool.not_eq_true', beq_iff_eq,
    ← Bool.not_eq_true, ← imp_iff_not_or]

theorem statusAllowed_iff (filter : Nat) (status : Status) :
    statusAllowed filter status = true ↔
      status = .active ∧ filter.testBit 0 = true ∨ status = .suspended ∧ filter.testBit 1 = true := by
  cases status <;> simp [statusAllowed]

theorem scanMatches_iff (s : State) (x : ScanFields) (e : DirectoryEntry) :
    s.scanMatches x e = true ↔
      (∀ j, j < 8 → x.mask.testBit j = true → e.number / 10 ^ j % 10 = x.pattern / 10 ^ j % 10) ∧
        ((s.slot e.slot).status = .active ∧ x.statuses.testBit 0 = true ∨
          (s.slot e.slot).status = .suspended ∧ x.statuses.testBit 1 = true) ∧
        x.levels.testBit (s.slot e.slot).level.code = true := by
  rw [State.scanMatches, Bool.and_eq_true, Bool.and_eq_true, digitsMatch_iff, statusAllowed_iff, and_assoc]

/-! ### The first entry that passes (R19) -/

theorem firstMatch_eq_some {test : DirectoryEntry → Bool} {list : List DirectoryEntry} {k : Nat} (hk : k < list.length)
    (passes : test list[k] = true) (before : ∀ (j : Nat) (h : j < k), test list[j] = false) (start : Nat) :
    firstMatch test start list = some (start + k, list[k]) := by
  induction list generalizing k start with
  | nil => exact absurd hk (Nat.not_lt_zero k)
  | cons e rest ih =>
    cases k with
    | zero => exact if_pos passes
    | succ k =>
      have fails : ¬test e = true := Bool.not_eq_true _ ▸ before 0 (Nat.succ_pos k)
      rw [firstMatch, if_neg fails,
        ih (Nat.lt_of_succ_lt_succ hk) passes (fun j h => before (j + 1) (Nat.succ_lt_succ h)), List.getElem_cons_succ,
        Nat.add_right_comm, Nat.add_assoc]

theorem firstMatch_eq_none {test : DirectoryEntry → Bool} {list : List DirectoryEntry} (h : ∀ e ∈ list, test e = false)
    (start : Nat) : firstMatch test start list = none := by
  induction list generalizing start with
  | nil => rfl
  | cons e rest ih =>
    obtain ⟨fails, others⟩ := List.forall_mem_cons.mp h
    rw [firstMatch, if_neg (by simp [fails]), ih others]

/-- The search from a start position of a list finds the first entry at or beyond it. -/
theorem firstMatch_drop_eq_some {test : DirectoryEntry → Bool} {list : List DirectoryEntry} {start pos : Nat}
    (h : pos < list.length) (reached : start ≤ pos) (passes : test list[pos] = true)
    (before : ∀ (q : Nat) (hq : q < pos), start ≤ q → test list[q] = false) :
    firstMatch test start (list.drop start) = some (pos, list[pos]) := by
  obtain ⟨k, rfl⟩ := Nat.exists_eq_add_of_le reached
  have hk : k < (list.drop start).length := by
    rw [List.length_drop]
    omega
  rw [firstMatch_eq_some hk (by rwa [List.getElem_drop]) (fun j hj => ?_), List.getElem_drop]
  rw [List.getElem_drop]
  exact before (start + j) (by omega) (by omega)

theorem firstMatch_drop_eq_none {test : DirectoryEntry → Bool} {list : List DirectoryEntry} {start : Nat}
    (h : ∀ (pos : Nat) (_ : pos < list.length), start ≤ pos → test list[pos] = false) :
    firstMatch test start (list.drop start) = none := by
  refine firstMatch_eq_none (fun e he => ?_) start
  obtain ⟨k, hk, rfl⟩ := List.getElem_of_mem he
  rw [List.getElem_drop]
  exact h (start + k) (by rw [List.length_drop] at hk; omega) (Nat.le_add_right ..)

/-! ### SCAN and NEXT_ATTENTION (R124, R125, R134) -/

section Scan

variable {f : Vector Word 7} {s : State} {x : ScanFields}

theorem scanEffect_found (hx : scanFields f = some x) {pos : Nat} {e : DirectoryEntry}
    (h : firstMatch (s.scanMatches x) x.start (s.engine.directory.drop x.start) = some (pos, e)) :
    scanEffect f s =
      (s, { recordAnswer .done e.slot (s.slot e.slot) with
        extraA := BitVec.ofNat 32 pos, extraB := BitVec.ofNat 32 s.engine.directory.length }) := by
  simp only [scanEffect, hx, h]

theorem scanEffect_empty (hx : scanFields f = some x)
    (h : firstMatch (s.scanMatches x) x.start (s.engine.directory.drop x.start) = none) :
    scanEffect f s = (s, { status := .empty, extraB := BitVec.ofNat 32 s.engine.directory.length }) := by
  simp only [scanEffect, hx, h]

end Scan

theorem nextAttentionEffect_nil {s : State} (h : s.engine.attention = []) (f : Vector Word 7) :
    nextAttentionEffect f s = (s, { status := .empty }) := by
  simp only [nextAttentionEffect, h]

theorem nextAttentionEffect_cons {s : State} {e : AttentionEntry} {rest : List AttentionEntry}
    (h : s.engine.attention = e :: rest) (f : Vector Word 7) :
    nextAttentionEffect f s =
      ({ s with engine := { s.engine with attention := rest } },
        { recordAnswer .done e.slot (s.slot e.slot) with extraA := BitVec.ofNat 32 e.reasons.code }) := by
  simp only [nextAttentionEffect, h]

/-- Settles O29: the two queries, SCAN's fields, its tests and its search, and the head of the attention list. -/
theorem readingCommandsAnswer : Obligations.ReadingCommandsAnswer := by
  refine ⟨⟨fun s cmd number slot g hn hl => ?_, fun s cmd g => ⟨fun slot hslot => ?_, fun above => ?_⟩⟩,
    scanFields_eq_some_iff, scanMatches_iff,
    fun s cmd x g hx => ⟨fun pos h reached passes before => ?_, fun fails => ?_⟩,
    fun s cmd g => ⟨fun empty => ?_, fun e rest entries => ?_⟩⟩
  · have found := queryEffect_found (s := s.freeEngine) hn hl
    exact (exec_of_unchanged (c := .query) g rfl found :)
  · have found : querySlotEffect cmd.params s.freeEngine = (s.freeEngine, fullAnswer slot (s.slot slot)) := by
      simp only [querySlotEffect, (slotField_eq_some_iff _ slot).mpr hslot]
      rfl
    exact (exec_of_unchanged (c := .querySlot) g rfl found :)
  · have refused : querySlotEffect cmd.params s.freeEngine = (s.freeEngine, badField) := by
      rw [← lowByte_eq] at above
      simp only [querySlotEffect, (slotField_eq_none_iff _).mpr above]
    exact badField_answered g rfl refused
  · have found := scanEffect_found (s := s.freeEngine) hx (firstMatch_drop_eq_some h reached passes before)
    exact (exec_of_unchanged (c := .scan) g rfl found :)
  · have empty := scanEffect_empty (s := s.freeEngine) hx (firstMatch_drop_eq_none fails)
    exact (exec_of_unchanged (c := .scan) g rfl empty :)
  · have nothing := nextAttentionEffect_nil (s := s.freeEngine) empty cmd.params
    exact (exec_of_unchanged (c := .nextAttention) g rfl nothing :)
  · have taken := nextAttentionEffect_cons (s := s.freeEngine) entries cmd.params
    exact (exec_of_effect (c := .nextAttention) g rfl taken :)

end Sys2Proof.Machine.Proofs

namespace Sys2Proof.Machine.Proofs

open Sys2Proof Sys2Proof.Machine Sys2Proof.Machine.Laws

/-! ### The staged fields of REPAIR (R130, R203) -/

theorem balancePair_eq_some_iff (high low : Word) (balance : Int) :
    balancePair high low = some balance ↔
      ∃ magnitude : Nat, amountPair high low = some magnitude ∧
        balance = if bits high 8 8 = 0 then (magnitude : Int) else -magnitude := by
  unfold balancePair signed
  cases amountPair high low <;> simp [eq_comm]

theorem repairStatus_eq_some_iff (code : Nat) (status : Status) :
    repairStatus code = some status ↔ code = 1 ∧ status = .active ∨ code = 2 ∧ status = .suspended := by
  unfold repairStatus
  split_ifs with one two
  · simp [one, eq_comm]
  · simp [two, eq_comm]
  · simp [one, two]

theorem repairFields_eq_some_iff (f : Vector Word 7) (x : RepairFields) :
    repairFields f = some x ↔
      slotField f[0] = some x.slot ∧ digits8 f[1] = some x.number ∧ x.number ≠ 0 ∧
        balancePair f[2] f[3] = some x.balance ∧ digits8 f[4] = some x.ec ∧ digits8 f[5] = some x.low ∧
        tariffIndex (lowByte f[6]) = some x.tariff ∧ repairStatus (bits f[6] 8 8) = some x.status := by
  simp only [repairFields, Option.bind_eq_bind, Option.bind_eq_some_iff, Option.ite_none_left_eq_some,
    Option.some.injEq]
  constructor
  · rintro ⟨slot, hs, number, hn, balance, hb, ec, he, low, hl, tariff, ht, status, hst, nonzero, rfl⟩
    exact ⟨hs, hn, nonzero, hb, he, hl, ht, hst⟩
  · rintro ⟨hs, hn, nonzero, hb, he, hl, ht, hst⟩
    exact ⟨x.slot, hs, x.number, hn, x.balance, hb, x.ec, he, x.low, hl, x.tariff, ht, x.status, hst, nonzero, rfl⟩

/-- A repaired slot is no longer QUARANTINED (R130). -/
theorem repairFields_status {f : Vector Word 7} {x : RepairFields} (h : repairFields f = some x) :
    x.status ≠ .quarantined := by
  obtain ⟨-, -, -, -, -, -, -, status⟩ := (repairFields_eq_some_iff f x).mp h
  rcases (repairStatus_eq_some_iff _ _).mp status with ⟨-, h⟩ | ⟨-, h⟩ <;> simp [h]

/-! ### REPAIR (R130, R131, R132) -/

section Repair

variable {f : Vector Word 7} {s : State} {x : RepairFields}

theorem repairEffect_wrongState (hx : repairFields f = some x) (h : (s.slot x.slot).status ≠ .quarantined) :
    repairEffect f s = (s, recordAnswer .wrongState x.slot (s.slot x.slot)) := by
  simp only [repairEffect, hx, if_pos h]

theorem repairEffect_duplicate {holder : Fin 64} (hx : repairFields f = some x)
    (h : (s.slot x.slot).status = .quarantined) (held : s.lookup x.number = some holder) :
    repairEffect f s = (s, recordAnswer .duplicate holder (s.slot holder)) := by
  simp only [repairEffect, hx, if_neg (not_not.mpr h), held]

theorem repairEffect_repaired (hx : repairFields f = some x) (h : (s.slot x.slot).status = .quarantined)
    (fresh : s.lookup x.number = none) :
    repairEffect f s =
      (writeRecord (s.insertDirectory x.number x.slot) x.slot (x.repaired (s.slot x.slot)) (s.slot x.slot).level,
        fullAnswer x.slot (x.repaired (s.slot x.slot)).relevelled) := by
  rw [← (writeRecord_written (s.insertDirectory x.number x.slot) x.slot _ _).record]
  simp only [repairEffect, hx, if_neg (not_not.mpr h), fresh]
  rfl

end Repair

/-! ### DISCARD (R133, R71, R8) -/

/-- The state after a DISCARD of a slot, but for its result. -/
def discarded (s : State) (slot : Fin 64) : State := ((s.detachAll slot).freeSlot slot).report settingsPage true

section Discard

variable {f : Vector Word 7} {s : State} {slot : Fin 64}

theorem discardEffect_wrongState (hs : slotField f[0] = some slot) (h : (s.slot slot).status ≠ .quarantined) :
    discardEffect f s = (s, recordAnswer .wrongState slot (s.slot slot)) := by
  simp only [discardEffect, hs, if_pos h]

theorem discardEffect_discarded (hs : slotField f[0] = some slot) (h : (s.slot slot).status = .quarantined) :
    discardEffect f s =
      (discarded s slot,
        { recordAnswer .done slot (s.slot slot) with
          extraA := BitVec.ofNat 32 (s.pendingUnits slot), extraB := BitVec.ofNat 32 (s.boundPoints slot).length }) := by
  simp only [discardEffect, hs, if_neg (not_not.mpr h)]
  rfl

end Discard

theorem discarded_point (s : State) (slot : Fin 64) (p : Fin 16) :
    (discarded s slot).point p = if (s.point p).binding = some slot then (s.point p).detached else s.point p :=
  point_mapPoints ..

theorem discarded_slotsKept (s : State) (slot : Fin 64) : SlotsKept s (discarded s slot) slot :=
  fun _ hi => slot_setSlot_other ((s.detachAll slot).removeAttention slot) Account.free hi.symm

theorem discarded_pointsKept (s : State) (slot : Fin 64) : PointsKept s (discarded s slot) slot :=
  ⟨fun p hp => (discarded_point s slot p).trans (if_neg hp), rfl, rfl⟩

/-- The slot's page is reported before the settings page (log entry 17). -/
theorem discarded_reported (s : State) (slot : Fin 64) :
    ReportedUrgentInOrder s (discarded s slot) (pageOf slot) settingsPage :=
  reportedUrgent_inOrder (freeSlot_reported (s.detachAll slot) slot) (freeSlot_operation (s.detachAll slot) slot).commit
    (report_urgent_of rfl settingsPage) (report_commitKept_of rfl settingsPage true)

theorem discarded_commit (s : State) (slot : Fin 64) :
    (∀ q, q ≠ pageOf slot → q ≠ settingsPage → (discarded s slot).commit.dirty[q] = s.commit.dirty[q]) ∧
      CommitFrame s (discarded s slot) := by
  obtain ⟨freed, -⟩ := (freeSlot_operation (s.detachAll slot) slot).commit
  obtain ⟨reported, -⟩ := report_commitKept ((s.detachAll slot).freeSlot slot) settingsPage true
  exact ⟨fun q hs h8 => (reported q h8).trans (freed q hs), rfl⟩

theorem boundPoints_length (s : State) (slot : Fin 64) :
    (s.boundPoints slot).length = (List.finRange 16).countP fun p => (s.point p).binding == some slot :=
  List.countP_eq_length_filter.symm

theorem pendingUnits_eq (s : State) (slot : Fin 64) :
    s.pendingUnits slot =
      ((List.finRange 16).map fun p => if (s.point p).binding = some slot then (s.point p).pending else 0).sum := by
  rw [List.sum_map_ite]
  simp [State.pendingUnits, State.boundPoints, beq_eq_decide]

/-- A DISCARD of a QUARANTINED slot. -/
theorem exec_discard_discarded {s : State} {cmd : QueuedCommand} {slot : Fin 64} (g : Granted s 0x0D cmd)
    (hs : slotField cmd.params[0] = some slot) (h : (s.slot slot).status = .quarantined) :
    exec .discard s =
      .next (replied (discarded s.freeEngine slot) { recordResult cmd .done slot (s.slot slot) with
        extraA := BitVec.ofNat 32 (((List.finRange 16).map fun p =>
          if (s.point p).binding = some slot then (s.point p).pending else 0).sum),
        extraB := BitVec.ofNat 32 ((List.finRange 16).countP fun p => (s.point p).binding == some slot) }) := by
  have effect := discardEffect_discarded (s := s.freeEngine) hs h
  rw [pendingUnits_eq, boundPoints_length] at effect
  exact exec_of_effect (c := .discard) g rfl effect

/-- Settles O32: REPAIR's fields, its refusals and the record it writes; DISCARD's refusal and the slot it frees. -/
theorem repairAndDiscardEndQuarantine : Obligations.RepairAndDiscardEndQuarantine := by
  refine ⟨fun f x => ?_,
    fun s cmd x g hx => ⟨fun other => ?_, fun quarantined => ⟨fun holder held => ?_, fun fresh => ?_⟩⟩,
    fun s cmd slot g hs => ⟨fun other => ?_, fun quarantined => ?_⟩⟩
  · rw [repairFields_eq_some_iff, balancePair_eq_some_iff, repairStatus_eq_some_iff]
    rfl
  · have refused := repairEffect_wrongState (s := s.freeEngine) hx other
    exact (exec_of_unchanged (c := .repair) g rfl refused :)
  · have refused := repairEffect_duplicate (s := s.freeEngine) hx quarantined held
    exact (exec_of_unchanged (c := .repair) g rfl refused :)
  · have repaired := repairEffect_repaired (s := s.freeEngine) hx quarantined fresh
    have written := writeRecord_written (s.freeEngine.insertDirectory x.number x.slot) x.slot
      (x.repaired (s.slot x.slot)) (s.slot x.slot).level
    have kept := (insertDirectory_operation written.toSlotOperation).accountStep
    have changed : x.status ≠ (s.slot x.slot).status := quarantined ▸ repairFields_status hx
    exact ⟨_, exec_of_effect (c := .repair) g rfl repaired, kept _, written.record, written.directory, written.reported,
      written.attention, fun bound p hp => writeRecord_point_of_status (s.freeEngine.insertDirectory x.number x.slot)
        (s.slot x.slot).level (a := x.repaired (s.slot x.slot)) changed bound hp⟩
  · have refused := discardEffect_wrongState (s := s.freeEngine) hs other
    exact (exec_of_unchanged (c := .discard) g rfl refused :)
  · obtain ⟨others, commit⟩ := discarded_commit s.freeEngine slot
    exact ⟨_, exec_discard_discarded g hs quarantined, rfl, ⟨rfl, rfl, rfl, rfl, rfl, rfl, rfl, rfl, rfl⟩,
      discarded_slotsKept s.freeEngine slot, discarded_pointsKept s.freeEngine slot, slot_freeSlot .., rfl, rfl,
      fun p hp => (discarded_point s.freeEngine slot p).trans (if_pos hp), discarded_reported s.freeEngine slot, others,
      commit, rfl⟩

end Sys2Proof.Machine.Proofs

namespace Sys2Proof.Machine.Proofs

open Sys2Proof Sys2Proof.Machine Sys2Proof.Machine.Laws

/-! ### The port at a bus condition and at a byte, command by command (R135) -/

theorem exec_busStart {s : State} (hw : NotWaiting s) : exec .busStart s = .next { s with port := s.port.atStart } :=
  congrArg _ (exec_setPort_retest hw _)

theorem exec_busStop {s : State} (hw : NotWaiting s) : exec .busStop s = .next { s with port := s.port.atStop } :=
  congrArg _ (exec_setPort_retest hw _)

theorem exec_busTimeout {s : State} (hw : NotWaiting s) :
    exec .busTimeout s = .next { s with port := s.port.atTimeout } :=
  congrArg _ (exec_setPort_retest hw _)

theorem exec_addressByte (s : State) (byte : Byte) :
    exec (.addressByte byte) s = .next { s with port := s.addressByte byte } := rfl

theorem exec_kindByte (s : State) (byte : Byte) :
    exec (.kindByte byte) s = .next { s with port := s.port.kindByte byte } := rfl

theorem exec_frameByte (s : State) (byte : Byte) :
    exec (.frameByte byte) s = .next { s with port := s.port.frameByte byte } := rfl

theorem exec_discardByte (s : State) (byte : Byte) :
    exec (.discardByte byte) s = .next { s with port := s.port.discardByte } := rfl

/-! ### Start, stop and bus timeout (R139, R144, R151) -/

/-- A write or a read is in progress: the states whose timer runs (R151). -/
abbrev Engaged (port : TopUpPort) : Prop :=
  port.state = .addressedWrite ∨ port.state = .receive ∨ port.state = .discard ∨ port.state = .sending

/-- The timeout ends a write or a read in progress, and nothing else (R151). -/
theorem atTimeout_eq (port : TopUpPort) : port.atTimeout = if Engaged port then port.toIdle else port := by
  unfold TopUpPort.atTimeout
  split <;> simp [Engaged, *]

/-- Outside APPLY, a start does what the timeout does, and the port awaits an address byte (R135, R139). -/
theorem atStart_eq (port : TopUpPort) :
    port.atStart = if port.state = .applying then port else port.atTimeout.awaiting := by
  unfold TopUpPort.atStart TopUpPort.atTimeout
  cases port.state <;> simp

/-- A stop ends a read, or a write of which no byte has come, in IDLE, and an incomplete frame with BAD_FRAME (R144). -/
theorem atStop_eq (port : TopUpPort) :
    port.atStop =
      if port.state = .addressedWrite ∨ port.state = .sending then port.toIdle
      else if port.state = .receive ∨ port.state = .discard then port.holding (zeroReply .badFrame)
      else port := by
  unfold TopUpPort.atStop
  cases port.state <;> simp

/-- A port that has gone to IDLE holds neither line (R151). -/
theorem toIdle_releases {t : State} {port : TopUpPort} (h : t.port = port.toIdle) :
    t.clockHeld = false ∧ t.acknowledgeDrive = .released ∧ ∀ place, t.tsdaDrive place = .released := by
  simp [State.clockHeld, State.acknowledgeDrive, State.tsdaDrive, h, TopUpPort.toIdle]

/-- Settles O42: a start, a stop and the bus timeout by port state. -/
theorem busConditionsByPortState : Obligations.BusConditionsByPortState := by
  intro s hw idle engaged
  refine ⟨?_, ⟨_, exec_busTimeout hw, ?_, fun h => toIdle_releases (port := s.port) ?_⟩, ?_⟩
  · rw [exec_busStart hw, atStart_eq, atTimeout_eq]
    rfl
  · rw [atTimeout_eq]
    rfl
  · exact (atTimeout_eq s.port).trans (if_pos h)
  · rw [exec_busStop hw, atStop_eq]
    rfl

end Sys2Proof.Machine.Proofs

namespace Sys2Proof.Machine.Proofs

open Sys2Proof Sys2Proof.Machine Sys2Proof.Machine.Laws

/-! ### The address byte (R135, R140, R148, R149) -/

theorem admits_iff (s : State) (byte : Byte) :
    s.admits byte = true ↔
      s.port.awaitsAddress = true ∧ s.port.enabled = true ∧ s.run.runState = .run ∧
        byte.toNat / 2 = s.port.address.toNat := by
  simp only [State.admits, Bool.and_eq_true, beq_iff_eq, and_assoc]

/-- A byte that meets an IDLE or a REPLY_READY port is tested as an address byte (R136). -/
theorem addressByte_waiting {s : State} (h : s.port.state = .idle ∨ s.port.state = .replyReady) (byte : Byte) :
    s.addressByte byte = if s.admits byte then s.port.addressed byte else s.port.ignoring := by
  unfold State.addressByte
  rcases h with h | h <;> rw [h]

theorem addressByte_admitted {s : State} {byte : Byte} (h : s.port.state = .idle ∨ s.port.state = .replyReady)
    (ha : s.admits byte = true) : s.addressByte byte = s.port.addressed byte :=
  (addressByte_waiting h byte).trans (if_pos ha)

theorem addressByte_ignored {s : State} {byte : Byte} (h : s.port.state = .idle ∨ s.port.state = .replyReady)
    (ha : ¬s.admits byte = true) : s.addressByte byte = s.port.ignoring :=
  (addressByte_waiting h byte).trans (if_neg ha)

/-- The direction bit 0: a write begins, and any reply is discarded (R140, R149). -/
theorem addressed_write (port : TopUpPort) {byte : Byte} (h : byte.getLsbD 0 = false) :
    port.addressed byte =
      { port with state := .addressedWrite, awaitsAddress := false, receive := [], reply := [], sent := 0, acked := true } := by
  rw [TopUpPort.addressed, if_neg (Bool.eq_false_iff.mp h)]

/-- The direction bit 1: a read begins, of the reply held, or of NO_REPLY in IDLE (R140, R148). -/
theorem addressed_read (port : TopUpPort) {byte : Byte} (h : byte.getLsbD 0 = true) :
    port.addressed byte =
      { port with
        state := .sending, awaitsAddress := false, sent := 0, acked := true,
        reply := if port.state = .idle then zeroReply .noReply else port.reply } :=
  if_pos h

/-! ### The kind byte, and bytes that the port refuses (R140, R141, R143) -/

/-- A byte that no address byte has opened is not the port's (log entry 20). -/
theorem otherByte_waiting {port : TopUpPort} (h : port.state = .idle ∨ port.state = .replyReady) :
    port.otherByte = port.ignoring := by
  unfold TopUpPort.otherByte
  rcases h with h | h <;> rw [h]

theorem kindByte_known {port : TopUpPort} {byte : Byte} (h : port.state = .addressedWrite)
    (hk : byte = 0x54 ∨ byte = 0x51) :
    port.kindByte byte = { port with state := .receive, receive := [byte], acked := true } := by
  rw [TopUpPort.kindByte, if_pos h, if_pos hk]

theorem kindByte_unknown {port : TopUpPort} {byte : Byte} (h : port.state = .addressedWrite)
    (hk : ¬(byte = 0x54 ∨ byte = 0x51)) : port.kindByte byte = { port with state := .discard, acked := false } := by
  rw [TopUpPort.kindByte, if_pos h, if_neg hk]

theorem kindByte_elsewhere {port : TopUpPort} (h : port.state ≠ .addressedWrite) (byte : Byte) :
    port.kindByte byte = port.otherByte := if_neg h

theorem frameByte_elsewhere {port : TopUpPort} (h : port.state ≠ .receive) (byte : Byte) :
    port.frameByte byte = port.otherByte := if_neg h

theorem discardByte_refused {port : TopUpPort} (h : port.state = .discard) :
    port.discardByte = { port with acked := false } := if_pos h

theorem discardByte_elsewhere {port : TopUpPort} (h : port.state ≠ .discard) :
    port.discardByte = port.otherByte := if_neg h

/-- Settles O43: the address byte, the kind byte and the bytes that the port leaves unacknowledged. -/
theorem addressAndKindBytesByState : Obligations.AddressAndKindBytesByState := by
  refine ⟨fun s => rfl, fun s byte => ?_⟩
  intro waiting admitted ignored
  have admits : s.admits byte = true ↔ admitted := admits_iff s byte
  refine ⟨fun hw refused => ?_, fun hw ha write => ?_, fun idle ha read => ?_, fun ready ha read => ?_,
    fun h known => ?_, fun h not54 not51 => ?_, fun h => ?_, fun hw => ?_⟩
  · rw [exec_addressByte, addressByte_ignored hw (mt admits.mp refused)]
    rfl
  · rw [exec_addressByte, addressByte_admitted hw (admits.mpr ha), addressed_write s.port write]
  · rw [exec_addressByte, addressByte_admitted (.inl idle) (admits.mpr ha), addressed_read s.port read, if_pos idle]
    rfl
  · rw [exec_addressByte, addressByte_admitted (.inr ready) (admits.mpr ha), addressed_read s.port read,
      if_neg (by simp [ready])]
  · rw [exec_kindByte, kindByte_known h known]
  · rw [exec_kindByte, kindByte_unknown h (not_or.mpr ⟨not54, not51⟩)]
  · rw [exec_discardByte, discardByte_refused h]
  · have outside {state : PortState} (hi : state ≠ .idle) (hr : state ≠ .replyReady) : s.port.state ≠ state :=
      fun h => hw.elim (fun idle => hi (h.symm.trans idle)) fun ready => hr (h.symm.trans ready)
    rw [exec_kindByte, exec_frameByte, exec_discardByte, kindByte_elsewhere (outside nofun nofun),
      frameByte_elsewhere (outside nofun nofun), discardByte_elsewhere (outside nofun nofun), otherByte_waiting hw]
    exact ⟨rfl, rfl, rfl⟩

end Sys2Proof.Machine.Proofs

namespace Sys2Proof.Machine.Proofs

open Sys2Proof Sys2Proof.Machine Sys2Proof.Machine.Laws

/-! ### Packed digits, byte by byte (R27, R206) -/

/-- The field before the last byte of a packed field, and the two digits of that byte. -/
theorem appendByte_digits (w : Nat) (b : Byte) :
    (w * 256 + b.toNat) / 16 / 16 = w ∧ (w * 256 + b.toNat) / 16 % 16 = b.toNat / 16 ∧
      (w * 256 + b.toNat) % 16 = b.toNat % 16 := by
  have isByte : b.toNat < 256 := b.isLt
  omega

/-- A byte of two digits after a packed field makes its value one hundredfold and adds the number of the pair. -/
theorem bcdValue_pair {digits w v : Nat} {b : Byte} (h : bcdValue digits w = some v) (hb : DigitPair b) :
    bcdValue (digits + 2) (w * 256 + b.toNat) = some (v * 100 + pairValue b) := by
  obtain ⟨high, low⟩ := hb
  obtain ⟨front, first, second⟩ := appendByte_digits w b
  simp only [bcdValue, front, first, second, h, if_pos high, if_pos low, pairValue, Option.some.injEq]
  omega

/-- A bad digit in the byte, or in the field before it, leaves no value. -/
theorem bcdValue_bad {digits w : Nat} {b : Byte} (h : bcdValue digits w = none ∨ ¬DigitPair b) :
    bcdValue (digits + 2) (w * 256 + b.toNat) = none := by
  obtain ⟨front, first, second⟩ := appendByte_digits w b
  rw [Option.eq_none_iff_forall_ne_some]
  intro v value
  obtain ⟨⟨good, high⟩, low⟩ : (DigitsGood digits w ∧ b.toNat / 16 ≤ 9) ∧ b.toNat % 16 ≤ 9 := by
    simpa only [digitsGood_succ, front, first, second] using ((bcdValue_eq_some_iff ..).mp value).1
  rcases h with novalue | bad
  · simpa [novalue] using (bcdValue_isSome_iff ..).mpr good
  · exact bad ⟨high, low⟩

theorem bcdValue_foldl_pairs {digits w v : Nat} (bytes : List Byte) (h : bcdValue digits w = some v)
    (hb : ∀ b ∈ bytes, DigitPair b) :
    bcdValue (digits + 2 * bytes.length) (bytes.foldl (fun v b => v * 256 + b.toNat) w) =
      some (bytes.foldl (fun v b => v * 100 + pairValue b) v) := by
  induction bytes generalizing digits w v with
  | nil => exact h
  | cons b rest ih =>
    obtain ⟨pair, pairs⟩ := List.forall_mem_cons.mp hb
    rw [show digits + 2 * (b :: rest).length = digits + 2 + 2 * rest.length by rw [List.length_cons]; omega]
    exact ih (bcdValue_pair h pair) pairs

theorem bcdValue_foldl_bad {digits w : Nat} (bytes : List Byte)
    (h : bcdValue digits w = none ∨ ∃ b ∈ bytes, ¬DigitPair b) :
    bcdValue (digits + 2 * bytes.length) (bytes.foldl (fun v b => v * 256 + b.toNat) w) = none := by
  induction bytes generalizing digits w with
  | nil => simpa using h
  | cons b rest ih =>
    rw [List.exists_mem_cons_iff, ← or_assoc] at h
    rw [show digits + 2 * (b :: rest).length = digits + 2 + 2 * rest.length by rw [List.length_cons]; omega]
    exact ih (h.imp_left bcdValue_bad)

/-- Bytes of two digits each carry the number their pairs make, the more significant first (R206). -/
theorem bcdValue_bytes_pairs {bytes : List Byte} (h : ∀ b ∈ bytes, DigitPair b) :
    bcdValue (2 * bytes.length) (bytesValue bytes) = some (bytes.foldl (fun v b => v * 100 + pairValue b) 0) := by
  simpa only [zero_add, bytesValue] using bcdValue_foldl_pairs (digits := 0) (w := 0) bytes rfl h

theorem bcdValue_bytes_bad {bytes : List Byte} (h : ∃ b ∈ bytes, ¬DigitPair b) :
    bcdValue (2 * bytes.length) (bytesValue bytes) = none := by
  simpa only [zero_add, bytesValue] using bcdValue_foldl_bad (digits := 0) (w := 0) bytes (.inr h)

/-- The number of a frame is packed in its second to fifth bytes (R206). -/
theorem frameNumber_cons (kind n₁ n₂ n₃ n₄ : Byte) (rest : List Byte) :
    frameNumber (kind :: n₁ :: n₂ :: n₃ :: n₄ :: rest) =
      bcdValue (2 * [n₁, n₂, n₃, n₄].length) (bytesValue [n₁, n₂, n₃, n₄]) := rfl

/-- The amount of a TOPUP is packed in its sixth to tenth bytes (R206). -/
theorem frameAmount_cons (kind n₁ n₂ n₃ n₄ a₁ a₂ a₃ a₄ a₅ : Byte) (rest : List Byte) :
    frameAmount (kind :: n₁ :: n₂ :: n₃ :: n₄ :: a₁ :: a₂ :: a₃ :: a₄ :: a₅ :: rest) =
      bcdValue (2 * [a₁, a₂, a₃, a₄, a₅].length) (bytesValue [a₁, a₂, a₃, a₄, a₅]) := rfl

/-! ### A byte of a frame (R142, R145) -/

theorem frameByte_more {port : TopUpPort} {byte : Byte} (h : port.state = .receive)
    (more : (port.receive ++ [byte]).length < frameLength (port.receive ++ [byte])) :
    port.frameByte byte = { port with receive := port.receive ++ [byte], acked := true } := by
  rw [TopUpPort.frameByte, if_pos h, if_pos more]

theorem frameByte_refused {port : TopUpPort} {byte : Byte} {status : ReplyStatus} (h : port.state = .receive)
    (last : frameLength (port.receive ++ [byte]) ≤ (port.receive ++ [byte]).length)
    (refused : validate port.maximum (port.receive ++ [byte]) = .refused status) :
    port.frameByte byte = { port.holding (zeroReply status) with acked := true } := by
  rw [TopUpPort.frameByte, if_pos h, if_neg (by omega), TopUpPort.enterApply, refused]

theorem frameByte_applied {port : TopUpPort} {byte : Byte} {request : ApplyRequest} (h : port.state = .receive)
    (last : frameLength (port.receive ++ [byte]) ≤ (port.receive ++ [byte]).length)
    (passed : validate port.maximum (port.receive ++ [byte]) = .apply request) :
    port.frameByte byte =
      { port with
        state := .applying, receive := port.receive ++ [byte], acked := true, request := some request } := by
  rw [TopUpPort.frameByte, if_pos h, if_neg (by omega), TopUpPort.enterApply, passed]

/-! ### The tests of a complete frame, in their order (R145) -/

section Validate

variable {maximum : Nat} {frame : List Byte}

theorem validate_badSum (h : byteSum frame ≠ 0) : validate maximum frame = .refused .badFrame := if_pos h

theorem validate_topup (hs : byteSum frame = 0) (hk : frame.head? = some 0x54) :
    validate maximum frame = validateTopup maximum frame := by
  rw [validate, if_neg (not_not.mpr hs), if_pos hk]

theorem validate_badNumber (h : frameNumber frame = none) : validate maximum frame = .refused .badFrame := by
  unfold validate validateTopup
  rw [h]
  split_ifs <;> rfl

theorem validate_badAmount (hk : frame.head? = some 0x54) (h : frameAmount frame = none) :
    validate maximum frame = .refused .badFrame := by
  by_cases hs : byteSum frame = 0
  · rw [validate_topup hs hk, validateTopup, h]
    cases frameNumber frame <;> rfl
  · exact validate_badSum hs

theorem validate_enquire {number : Nat} (hs : byteSum frame = 0) (hk : frame.head? ≠ some 0x54)
    (hn : frameNumber frame = some number) :
    validate maximum frame = .apply { kind := .enquire, number, amount := 0 } := by
  rw [validate, if_neg (not_not.mpr hs), if_neg hk, hn]

/-- The tests of a TOPUP's amount, once its digits are good. -/
theorem validate_topup_amount {number amount : Nat} (hs : byteSum frame = 0) (hk : frame.head? = some 0x54)
    (hn : frameNumber frame = some number) (ha : frameAmount frame = some amount) :
    validate maximum frame =
      if amount = 0 then .refused .badFrame
      else if maximum < amount then .refused .overLimit
      else .apply { kind := .topup, number, amount } := by
  rw [validate_topup hs hk, validateTopup, hn, ha]

end Validate

/-- Settles O44: the bytes of a frame, the tests of a complete one, and the digits its bytes carry. -/
theorem frameBytesBuildAndValidate : Obligations.FrameBytesBuildAndValidate := by
  refine ⟨fun s => beq_iff_eq, fun kind n₁ n₂ n₃ n₄ rest => ⟨fun good => ?_, bcdValue_bytes_bad⟩,
    fun kind n₁ n₂ n₃ n₄ a₁ a₂ a₃ a₄ a₅ rest => ⟨fun good => ?_, bcdValue_bytes_bad⟩, fun s byte receiving => ?_⟩
  · simpa [frameNumber_cons] using bcdValue_bytes_pairs good
  · simpa [frameAmount_cons] using bcdValue_bytes_pairs good
  · intro frame topup length refused applied
    refine ⟨fun more => ?_, fun last => ?_⟩
    · rw [exec_frameByte, frameByte_more receiving more]
    have refuses {status : ReplyStatus} (h : validate s.port.maximum frame = .refused status) :
        exec (.frameByte byte) s = refused status := by
      rw [exec_frameByte, frameByte_refused receiving last h]
      rfl
    have applies {request : ApplyRequest} (h : validate s.port.maximum frame = .apply request) :
        exec (.frameByte byte) s = applied request := by
      rw [exec_frameByte, frameByte_applied receiving last h]
    refine ⟨fun hs => refuses (validate_badSum hs), fun hn => refuses (validate_badNumber hn),
      fun hk ha => refuses (validate_badAmount hk ha), fun number hs hn =>
      ⟨fun hk => applies (validate_enquire hs hk hn), fun amount hk ha => ?_⟩⟩
    have tests := validate_topup_amount (maximum := s.port.maximum) hs hk hn ha
    refine ⟨fun zero => refuses ?_, fun positive above => refuses ?_, fun positive within => applies ?_⟩
    · rw [tests, if_pos zero]
    · rw [tests, if_neg positive, if_pos above]
    · rw [tests, if_neg positive, if_neg (by omega)]

end Sys2Proof.Machine.Proofs

namespace Sys2Proof.Machine.Proofs

open Sys2Proof Sys2Proof.Machine Sys2Proof.Machine.Laws

/-! ### Requests and NOTICE_N (R157, R159, R161, R162) -/

/-- The source requests and, in VECTORED, outranks the top of the active stack if there is one (R159, R161, R162). -/
def Qualifies (s : State) (rank : Fin 23) : Prop :=
  s.requests.getLsbD rank.val = true ∧ (s.notice.mode = .vectored → ∀ top ∈ s.notice.stack.head?, rank < top)

/-- The test that `State.qualifying` searches by. -/
def qualifyingTest (s : State) (rank : Fin 23) : Bool :=
  s.requests.getLsbD rank.val &&
    match s.notice.mode, s.notice.stack with
    | .vectored, top :: _ => rank.val < top.val
    | _, _ => true

theorem qualifying_eq_find (s : State) : s.qualifying = (List.finRange 23).find? (qualifyingTest s) := rfl

theorem qualifyingTest_iff (s : State) (rank : Fin 23) : qualifyingTest s rank = true ↔ Qualifies s rank := by
  unfold qualifyingTest Qualifies
  rw [Bool.and_eq_true]
  refine and_congr_right fun _ => ?_
  cases s.notice.mode with
  | summary => simp
  | vectored => cases s.notice.stack <;> simp

/-- The highest rank is the lowest number (R154). -/
theorem qualifying_eq_some_iff (s : State) (rank : Fin 23) :
    s.qualifying = some rank ↔ Qualifies s rank ∧ ∀ r, r < rank → ¬Qualifies s r := by
  rw [qualifying_eq_find, ← Fin.find?_eq_find?_finRange, Fin.find?_eq_some_iff]
  simp only [← Bool.not_eq_true, qualifyingTest_iff]

theorem qualifying_eq_none_iff (s : State) : s.qualifying = none ↔ ∀ rank, ¬Qualifies s rank := by
  rw [qualifying_eq_find, List.find?_eq_none]
  simp only [List.mem_finRange, forall_const, qualifyingTest_iff]

theorem qualifying_isSome_iff (s : State) : s.qualifying.isSome = true ↔ ∃ rank, Qualifies s rank := by
  rw [Option.isSome_iff_ne_none, ne_eq, qualifying_eq_none_iff, not_forall_not]

theorem requests_getLsbD (s : State) (i : Nat) :
    s.requests.getLsbD i = (s.readyFlags.getLsbD i && s.notice.enables.getLsbD i) := BitVec.getLsbD_and

theorem requests_ne_zero_iff (s : State) : s.requests ≠ 0 ↔ ∃ rank : Fin 23, s.requests.getLsbD rank.val = true := by
  have zero (i : Nat) : (0 : BitVec 23).getLsbD i = false := BitVec.getLsbD_zero
  constructor
  · intro nonzero
    by_contra quiet
    refine nonzero (BitVec.eq_of_getLsbD_eq fun i hi => ?_)
    rw [zero, ← Bool.not_eq_true]
    exact fun on => quiet ⟨⟨i, hi⟩, on⟩
  · rintro ⟨rank, on⟩ h
    rw [h, zero] at on
    cases on

theorem noticeAsserted_summary {s : State} (h : s.run.runState ≠ .reset) (mode : s.notice.mode = .summary) :
    s.noticeAsserted = true ↔ ∃ rank : Fin 23, s.requests.getLsbD rank.val = true := by
  rw [State.noticeAsserted, served_of_run h, mode, Bool.true_and, bne_iff_ne, requests_ne_zero_iff]

theorem noticeAsserted_vectored {s : State} (h : s.run.runState ≠ .reset) (mode : s.notice.mode = .vectored) :
    s.noticeAsserted = true ↔ ∃ rank, Qualifies s rank := by
  rw [State.noticeAsserted, served_of_run h, mode, Bool.true_and, qualifying_isSome_iff]

/-! ### The rows of the Notice Controller outside RESET (R155 to R164) -/

section Served

variable {s : State} (h : s.run.runState ≠ .reset)
include h

theorem exec_noticeReadyWrite (value : Word) :
    exec (.noticeReadyWrite value) s = .next (s.writeNoticeReady value) := by
  simp only [exec, execNoticeReadyWrite, served_of_run h, if_true]

theorem exec_noticeEnableWrite (value : Word) :
    exec (.noticeEnableWrite value) s = .next (s.writeNoticeEnable value) := by
  simp only [exec, execNoticeEnableWrite, served_of_run h, if_true]

theorem exec_noticeModeWrite (value : Word) : exec (.noticeModeWrite value) s = .next (s.writeNoticeMode value) := by
  simp only [exec, execNoticeModeWrite, served_of_run h, if_true]

theorem exec_noticeDone (value : Word) : exec (.noticeDone value) s = .next s.writeNoticeDone := by
  simp only [exec, execNoticeDone, served_of_run h, if_true]

theorem exec_errorsWrite (value : Word) : exec (.errorsWrite value) s = .next (s.writeErrors value) := by
  simp only [exec, execErrorsWrite, served_of_run h, if_true]

/-- A read of NOTICE_TAKE takes the rank found, and pushes it in VECTORED (R159, R162, R200). -/
theorem exec_noticeTake :
    exec .noticeTake s = .next { s.pushTaken with readData := BitVec.ofNat 32 s.takenRank } := by
  simp only [exec, execNoticeTake, served_of_run h, if_true]
  rfl

end Served

theorem writeNoticeEnable_eq (s : State) (value : Word) :
    s.writeNoticeEnable value = { s with notice := { s.notice with enables := value.extractLsb' 0 23 } } := by
  have places : value.truncate 23 = value.extractLsb' 0 23 := BitVec.setWidth_eq_extractLsb' (by decide)
  rw [State.writeNoticeEnable, places]

/-- The table of R158: a write of VECTORED in VECTORED keeps the stack, every other write empties it. -/
theorem writeNoticeMode_eq (s : State) (value : Word) :
    s.writeNoticeMode value = { s with
      notice :=
        if value.getLsbD 0 = true then
          if s.notice.mode = .vectored then s.notice else { s.notice with mode := .vectored, stack := [] }
        else { s.notice with mode := .summary, stack := [] } } := by
  unfold State.writeNoticeMode
  split
  · cases mode : s.notice.mode <;> rfl
  · rfl

theorem writeNoticeDone_summary {s : State} (mode : s.notice.mode = .summary) : s.writeNoticeDone = s := by
  rw [State.writeNoticeDone, mode]

theorem writeNoticeDone_vectored {s : State} (mode : s.notice.mode = .vectored) :
    s.writeNoticeDone = { s with notice := { s.notice with stack := s.notice.stack.tail } } := by
  rw [State.writeNoticeDone, mode]

/-- After a write to NOTICE_DONE, NOTICE_N follows the entry beneath the old top (R163). -/
theorem noticeAsserted_writeNoticeDone {s : State} (h : s.run.runState ≠ .reset) (mode : s.notice.mode = .vectored) :
    s.writeNoticeDone.noticeAsserted = true ↔
      ∃ rank : Fin 23, s.requests.getLsbD rank.val = true ∧ ∀ top ∈ s.notice.stack.tail.head?, rank < top := by
  rw [writeNoticeDone_vectored mode,
    noticeAsserted_vectored (s := { s with notice := { s.notice with stack := s.notice.stack.tail } }) h mode]
  exact exists_congr fun rank => and_congr_right fun _ => forall_prop_of_true mode

/-- In an ordered stack the top outranks the entry beneath (R160). -/
theorem top_outranks {s : State} (ordered : StackOrdered s) {top : Fin 23} {rest : List (Fin 23)}
    (stack : s.notice.stack = top :: rest) : ∀ below ∈ rest, top < below := by
  obtain ⟨descending, -⟩ := ordered
  rw [stack] at descending
  exact fun below => List.rel_of_pairwise_cons descending

theorem pushTaken_some {s : State} {rank : Fin 23} (h : s.qualifying = some rank) :
    s.pushTaken = { s with
      notice := if s.notice.mode = .vectored then { s.notice with stack := rank :: s.notice.stack } else s.notice } := by
  rw [State.pushTaken, h]
  cases mode : s.notice.mode <;> rfl

theorem pushTaken_none {s : State} (h : s.qualifying = none) : s.pushTaken = s := by
  rw [State.pushTaken, h]
  cases s.notice.mode <;> rfl

/-- A read of NOTICE_TAKE with a qualifying source, and with none. -/
theorem exec_noticeTake_some {s : State} (h : s.run.runState ≠ .reset) {rank : Fin 23} (hq : s.qualifying = some rank) :
    exec .noticeTake s = .next { s with
      readData := BitVec.ofNat 32 rank.val
      notice := if s.notice.mode = .vectored then { s.notice with stack := rank :: s.notice.stack } else s.notice } := by
  rw [exec_noticeTake h, pushTaken_some hq, State.takenRank, hq]

theorem exec_noticeTake_none {s : State} (h : s.run.runState ≠ .reset) (hq : s.qualifying = none) :
    exec .noticeTake s = .next { s with readData := 0xFF } := by
  rw [exec_noticeTake h, pushTaken_none hq, State.takenRank, hq]
  rfl

/-- Settles O46: one equation for each write, the rank that a read of NOTICE_TAKE finds, and NOTICE_N in SUMMARY. -/
theorem noticeAccessesActByMode : Obligations.NoticeAccessesActByMode := by
  intro s value hr
  refine ⟨exec_noticeReadyWrite hr value, ?_, ?_, exec_errorsWrite hr value,
    ⟨fun rank requests outranks highest => ?_, fun idle => ?_⟩, fun rank => requests_getLsbD s rank.val,
    fun mode => ⟨?_, noticeAsserted_summary hr mode⟩⟩
  · rw [exec_noticeEnableWrite hr, writeNoticeEnable_eq]
  · rw [exec_noticeModeWrite hr, writeNoticeMode_eq]
  · have found : s.qualifying = some rank :=
      (qualifying_eq_some_iff s rank).mpr ⟨⟨requests, outranks⟩, fun r above q => highest r above q.1 q.2⟩
    exact exec_noticeTake_some hr found
  · exact exec_noticeTake_none hr ((qualifying_eq_none_iff s).mpr fun r q => idle r q.1 q.2)
  · rw [exec_noticeDone hr, writeNoticeDone_summary mode]

/-- Settles O47: the top is removed, and NOTICE_N is asserted by the sources that outrank the entry beneath. -/
theorem doneWriteRemovesTop : Obligations.DoneWriteRemovesTop := by
  intro s value hr mode
  refine ⟨⟨s.writeNoticeDone, exec_noticeDone hr value, writeNoticeDone_vectored mode,
    noticeAsserted_writeNoticeDone hr mode, fun top rest stack ordered requests => ?_⟩, fun empty => ?_, ?_⟩
  · refine (noticeAsserted_writeNoticeDone hr mode).mpr ⟨top, requests, fun below beneath => ?_⟩
    rw [stack] at beneath
    exact top_outranks ordered stack below (List.mem_of_mem_head? beneath)
  · rw [exec_noticeDone hr, writeNoticeDone_vectored mode, empty, List.tail_nil, ← empty]
  · exact (exec_unassignedRead hr 0x1A).trans (congrArg _ (readRegister_assigned rfl (by decide)))

end Sys2Proof.Machine.Proofs

namespace Sys2Proof.Machine.Proofs

open Sys2Proof Sys2Proof.Machine Sys2Proof.Machine.Laws

/-! ### What a step can do to the active stack (R158 to R163) -/

/-- Mode and active stack are as they were. -/
structure StackKept (s t : State) : Prop where
  mode : t.notice.mode = s.notice.mode
  stack : t.notice.stack = s.notice.stack

namespace StackKept

variable {s t u : State}

theorem refl (s : State) : StackKept s s := ⟨rfl, rfl⟩

theorem trans (h : StackKept s t) (h' : StackKept t u) : StackKept s u :=
  ⟨h'.mode.trans h.mode, h'.stack.trans h.stack⟩

theorem of_notice (h : t.notice = s.notice) : StackKept s t := ⟨by rw [h], by rw [h]⟩

/-- A row that leaves the stack alone, when it is due and when it is not. -/
theorem ite {c : Prop} [Decidable c] (h : StackKept s t) : StackKept s (if c then t else s) := by
  split
  · exact h
  · exact .refl s

end StackKept

/-- What one step can do to mode and stack. -/
inductive StackMoved (s t : State) : Prop
  | kept (kept : StackKept s t)
  /-- The stack is emptied: RESET, LOADING_START, PORT RESET, or a change of mode (R158, R167, R168). -/
  | cleared (stack : t.notice.stack = [])
  /-- A read of NOTICE_TAKE pushes the rank that it found (R162). -/
  | pushed (rank : Fin 23) (found : s.qualifying = some rank) (was : s.notice.mode = .vectored)
      (mode : t.notice.mode = s.notice.mode) (stack : t.notice.stack = rank :: s.notice.stack)
  /-- A write to NOTICE_DONE removes the top (R163). -/
  | popped (mode : t.notice.mode = s.notice.mode) (stack : t.notice.stack = s.notice.stack.tail)

/-- What follows a move and leaves the stack alone is part of the move. -/
theorem StackMoved.trans_kept {s t u : State} (h : StackMoved s t) (k : StackKept t u) : StackMoved s u := by
  cases h with
  | kept kept => exact .kept (kept.trans k)
  | cleared stack => exact .cleared (k.stack.trans stack)
  | pushed rank found was mode stack => exact .pushed rank found was (k.mode.trans mode) (k.stack.trans stack)
  | popped mode stack => exact .popped (k.mode.trans mode) (k.stack.trans stack)

/-- A rank that qualifies outranks the whole of an ordered stack (R160, R162). -/
theorem qualifying_outranks {s : State} (ordered : StackOrdered s) {rank : Fin 23} (found : s.qualifying = some rank)
    (mode : s.notice.mode = .vectored) : ∀ below ∈ s.notice.stack, rank < below := by
  obtain ⟨⟨-, outranks⟩, -⟩ := (qualifying_eq_some_iff s rank).mp found
  intro below mem
  cases stack : s.notice.stack with
  | nil => simp [stack] at mem
  | cons top rest =>
    have above : rank < top := outranks mode top (by simp [stack])
    rw [stack, List.mem_cons] at mem
    rcases mem with rfl | beneath
    · exact above
    · exact above.trans (top_outranks ordered stack below beneath)

/-- An emptied stack is ordered in either mode; a push goes on top of what it outranks, and in VECTORED; a removal leaves the
entries beneath. -/
theorem StackMoved.ordered {s t : State} (h : StackMoved s t) (ordered : StackOrdered s) : StackOrdered t := by
  have ⟨descending, summary⟩ := ordered
  cases h with
  | kept kept => exact ⟨kept.stack ▸ descending, fun m => kept.stack.trans (summary (kept.mode.symm.trans m))⟩
  | cleared stack => exact ⟨stack ▸ List.Pairwise.nil, fun _ => stack⟩
  | pushed rank found was mode stack =>
    refine ⟨?_, fun m => ?_⟩
    · rw [stack]
      exact List.Pairwise.cons (qualifying_outranks ordered found was) descending
    · cases was.symm.trans (mode.symm.trans m)
  | popped mode stack =>
    refine ⟨stack ▸ descending.tail, fun m => ?_⟩
    rw [stack, summary (mode.symm.trans m), List.tail_nil]

/-- The next state's mode and stack have moved as a step may move them. -/
def MovesStack (s : State) : Host.Outcome State Fault Refusal → Prop
  | .next t => StackMoved s t
  | .fault _ => True
  | .refused _ => True

/-- A register access is served, or changes nothing. -/
theorem served_stack {s u : State} (h : StackMoved s u) : MovesStack s (.next (if s.served then u else s)) := by
  unfold MovesStack
  dsimp only
  split
  · exact h
  · exact .kept (.refl s)

end Sys2Proof.Machine.Proofs

namespace Sys2Proof.Machine.Proofs

open Sys2Proof Sys2Proof.Machine Sys2Proof.Machine.Laws

/-! ### The effects of engine operations leave the Notice Controller alone, but for TOPUP (R147) -/

/-- The effect of a command, which answers its fields, leaves the Notice Controller as it is. -/
def EffectSilent (effect : Vector Word 7 → State → State × Answer) : Prop := ∀ f s, (effect f s).1.notice = s.notice

theorem silent_of_state {effect : Vector Word 7 → State → State × Answer} (h : ∀ f s, (effect f s).1 = s) :
    EffectSilent effect := fun f s => by rw [h]

theorem withAccount_notice {s : State} (number : Nat) (f : Fin 64 → State × Answer)
    (h : ∀ slot, (f slot).1.notice = s.notice) : (s.withAccount number f).1.notice = s.notice := by
  rcases withAccount_cases s number f with hw | ⟨slot, -, hw⟩ <;> rw [hw]
  exact h slot

theorem withPoint_notice {s : State} (field : Word) (f : Fin 16 → State × Answer)
    (h : ∀ p, (f p).1.notice = s.notice) : (s.withPoint field f).1.notice = s.notice := by
  rcases withPoint_cases s field f with hs | ⟨p, hs⟩ <;> rw [hs]
  exact h p

theorem withBoundPoint_notice {s : State} (field : Word) (f : Fin 16 → State × Answer)
    (h : ∀ p, (f p).1.notice = s.notice) : (s.withBoundPoint field f).1.notice = s.notice := by
  rcases withBoundPoint_cases s field f with hs | ⟨p, -, hs⟩ <;> rw [hs]
  exact h p

/-- A number enters the directory, and its slot takes a record (R117, R131). -/
theorem enterAccount_notice (s : State) (number : Nat) (slot : Fin 64) (a : Account) (before : Level) (page : Fin 9) :
    (((s.insertDirectory number slot).changeAccount slot a before {}).report page true).notice = s.notice := by
  rw [report_notice, changeAccount_notice, insertDirectory_notice]

/-- A record is written, and its page reported (R7, R127). -/
theorem writtenAccount_notice (s : State) (slot : Fin 64) (a : Account) (before : Level) (page : Fin 9) :
    ((s.changeAccount slot a before {}).report page true).notice = s.notice := by
  rw [report_notice, changeAccount_notice]

theorem openEffect_silent : EffectSilent openEffect := fun f s => by
  unfold openEffect
  split
  · rfl
  split
  · rfl
  split
  · rfl
  · exact enterAccount_notice ..

theorem closeEffect_silent : EffectSilent closeEffect := fun f s => by
  unfold closeEffect
  split
  · rfl
  · refine withAccount_notice _ _ fun slot => ?_
    split
    · rfl
    · rw [freeSlot_notice, removeDirectory_notice]

theorem creditEffect_silent : EffectSilent creditEffect := fun f s => by
  unfold creditEffect
  split
  · refine withAccount_notice _ _ fun slot => ?_
    split
    · rfl
    · exact storeBalance_notice ..
  · rfl

theorem debitEffect_silent : EffectSilent debitEffect := fun f s => by
  unfold debitEffect
  split
  · rfl
  · refine withAccount_notice _ _ fun slot => ?_
    split
    · rfl
    · exact storeBalance_notice ..

theorem transferBetween_notice (s : State) (src dst : Fin 64) (x : TransferFields) :
    (s.transferBetween src dst x).1.notice = s.notice := by
  unfold State.transferBetween
  split
  · rfl
  split
  · rfl
  · rfl
  split
  · rfl
  · exact (storeBalance_notice ..).trans (storeBalance_notice ..)

theorem transferEffect_silent : EffectSilent transferEffect := fun f s => by
  unfold transferEffect
  split
  · rfl
  split
  · rfl
  · rfl
  · exact transferBetween_notice ..

theorem amendEffect_silent : EffectSilent amendEffect := fun f s => by
  unfold amendEffect
  split
  · rfl
  · refine withAccount_notice _ _ fun slot => ?_
    dsimp only
    split
    · rfl
    · exact writtenAccount_notice ..

theorem statusEffect_silent (status : Status) : EffectSilent (statusEffect status) := fun f s => by
  unfold statusEffect
  split
  · rfl
  · refine withAccount_notice _ _ fun slot => ?_
    split
    · rfl
    · exact writtenAccount_notice ..

theorem repairEffect_silent : EffectSilent repairEffect := fun f s => by
  unfold repairEffect
  split
  · rfl
  dsimp only
  split
  · rfl
  split
  · rfl
  · exact enterAccount_notice ..

theorem discardEffect_silent : EffectSilent discardEffect := fun f s => by
  unfold discardEffect
  split
  · rfl
  dsimp only
  split
  · rfl
  · rw [report_notice, freeSlot_notice, detachAll_notice]

theorem nextAttentionEffect_silent : EffectSilent nextAttentionEffect := fun f s => by
  unfold nextAttentionEffect
  split <;> rfl

theorem bindEffect_silent : EffectSilent bindEffect := fun f s =>
  withPoint_notice _ _ fun p => by
    split
    · rfl
    split
    · rfl
    split <;> rfl

theorem unbindEffect_silent : EffectSilent unbindEffect := fun f s =>
  withBoundPoint_notice _ _ fun p => by split <;> rfl

/-- An accepted TOPUP sets its ready flag and nothing else of the Notice Controller (R147). -/
theorem applyRequest_stackKept (s : State) (r : ApplyRequest) : StackKept s (s.applyRequest r).1 := by
  unfold State.applyRequest
  split
  · exact .refl s
  split
  · exact .refl s
  split
  · exact .refl s
  split
  · exact .refl s
  · exact StackKept.trans (.of_notice (storeBalance_notice ..)) ⟨rfl, rfl⟩

/-! ### The effects of commands that their blocks answer (R100) -/

theorem bindRefusal_silent : EffectSilent bindRefusal := fun _ _ => withPoint_notice _ _ fun _ => rfl

theorem configureEffect_silent : EffectSilent configureEffect := fun _ _ =>
  withPoint_notice _ _ fun _ => by split <;> rfl

theorem holdEffect_silent : EffectSilent holdEffect := fun _ _ => withBoundPoint_notice _ _ fun _ => rfl

theorem releaseEffect_silent : EffectSilent releaseEffect := fun _ _ => withBoundPoint_notice _ _ fun _ => rfl

theorem queryPointEffect_silent : EffectSilent queryPointEffect := fun _ _ => withPoint_notice _ _ fun _ => rfl

theorem setDeferEffect_silent : EffectSilent setDeferEffect := fun f s => by
  unfold setDeferEffect State.setDeferral
  split
  · rfl
  split
  · rfl
  split <;> rfl

theorem setTariffEffect_silent : EffectSilent setTariffEffect := fun f s => by
  unfold setTariffEffect
  split <;> rfl

theorem setBandEffect_silent : EffectSilent setBandEffect := fun f s => by
  unfold setBandEffect
  split <;> rfl

theorem setPeriodEffect_silent : EffectSilent setPeriodEffect := fun f s => by
  unfold setPeriodEffect
  split <;> rfl

theorem setTopupEffect_silent : EffectSilent setTopupEffect := fun f s => by
  unfold setTopupEffect
  split <;> rfl

theorem setIntervalEffect_silent : EffectSilent setIntervalEffect := fun f s => by
  unfold setIntervalEffect
  split <;> rfl

end Sys2Proof.Machine.Proofs

namespace Sys2Proof.Machine.Proofs

open Sys2Proof Sys2Proof.Machine Sys2Proof.Machine.Laws

/-! ### Commands and WAITs at the stack (chapter 5) -/

/-- The completion of a command's operation leaves the stack alone when its effect does (R102, R114). -/
theorem completeCommand_stackKept (s : State) (code : Byte) {effect : Vector Word 7 → State → State × Answer}
    (silent : EffectSilent effect) : StackKept s (s.completeCommand code effect) := by
  unfold State.completeCommand
  split
  · rename_i cmd owned _
    refine .ite (.of_notice ?_)
    have effected := silent cmd.params s.freeEngine
    rw [retestWait_notice]
    cases owned <;> exact effected
  · exact .refl s

theorem takeCommand_stackKept {s : State} (code : Byte) {effect : Vector Word 7 → State → State × Answer}
    (h : ∀ f, StackKept s (effect f s).1) : StackKept s (s.takeCommand code effect) := by
  unfold State.takeCommand
  split
  · exact .ite ((h _).trans (.of_notice (post_notice ..)))
  · exact .refl s

theorem startWait_notice (s : State) (cmd : QueuedCommand) : (s.startWait cmd).notice = s.notice := by
  unfold State.startWait
  dsimp only
  split
  · rfl
  · rw [retestWait_notice]

theorem settleHandedWait_notice (s : State) : s.settleHandedWait.notice = s.notice := by
  unfold State.settleHandedWait
  split
  · split
    · exact startWait_notice ..
    · rfl
  · rfl

theorem submitted_stackKept (s : State) (value : Word) : StackKept s (s.submitted value) := by
  unfold State.submitted
  split <;> exact ⟨rfl, rfl⟩

theorem popped_stackKept (s : State) : StackKept s s.popped := by
  unfold State.popped
  split <;> exact ⟨rfl, rfl⟩

theorem purged_notice (s : State) : s.purged.notice = s.notice :=
  (breakWait_notice ..).trans (settleHandedWait_notice s)

theorem controlWrite_moved_stack (s : State) (value : Word) : StackMoved s (s.controlWrite value) := by
  unfold State.controlWrite
  split
  · exact .cleared rfl
  · exact .kept (.ite (.of_notice (purged_notice s)))

theorem commandStart_stack (s : State) : MovesStack s (exec .commandStart s) := by
  refine .kept ?_
  split
  · exact .ite ⟨rfl, rfl⟩
  · exact .refl s

theorem badCommand_stack (s : State) : MovesStack s (exec .badCommand s) := by
  refine .kept ?_
  split
  · split <;> exact ⟨rfl, rfl⟩
  · exact .refl s

theorem bind_stack (s : State) : MovesStack s (exec .bind s) := by
  have refused : StackKept s (s.takeCommand 0x10 bindRefusal) :=
    takeCommand_stackKept _ fun f => .of_notice (bindRefusal_silent f s)
  refine .kept ?_
  split
  · split
    · exact completeCommand_stackKept s _ bindEffect_silent
    · exact refused
  · exact refused

theorem unbind_stack (s : State) : MovesStack s (exec .unbind s) := by
  refine .kept ?_
  split
  · split
    · split
      · exact ⟨rfl, rfl⟩
      · split <;> exact ⟨rfl, rfl⟩
    · exact .refl s
  · exact .refl s

theorem unbindDetach_stack (s : State) : MovesStack s (exec .unbindDetach s) := by
  obtain ⟨mode, stack⟩ := completeCommand_stackKept s 0x11 unbindEffect_silent
  refine .kept ?_
  dsimp only
  split <;> exact ⟨mode, stack⟩

/-! ### The engine's own rows (chapter 2) -/

theorem grant_notice (s : State) : s.grant.notice = s.notice := by
  unfold State.grant
  split
  · rfl
  split
  · unfold State.startCharge
    split <;> rfl
  split
  · rfl
  split
  · rfl
  split <;> rfl

theorem charge_stack (s : State) : MovesStack s (exec .charge s) := by
  refine .kept ?_
  split
  · exact .of_notice (by simp)
  · exact .refl s

theorem standing_stack (s : State) : MovesStack s (exec .standing s) := by
  refine .kept ?_
  split
  · refine .of_notice ?_
    rw [retestWait_notice, advanceSweep_notice]
    split
    · rw [takeCharge_notice, freeEngine_notice]
    · rfl
  · exact .refl s

theorem applyFrame_stack (s : State) : MovesStack s (exec .applyFrame s) := by
  refine .kept ?_
  split
  · rename_i request owned _
    have freed : StackKept s s.freeEngine := ⟨rfl, rfl⟩
    refine freed.trans ((applyRequest_stackKept s.freeEngine request).trans (.of_notice ?_))
    rw [retestWait_notice, answerKiosk_eq]
  · exact .refl s

theorem gather_stack (s : State) : MovesStack s (exec .gather s) := by
  refine .kept ?_
  split
  · split
    · exact .of_notice (retestWait_notice _)
    · exact .refl s
  · exact .refl s

end Sys2Proof.Machine.Proofs

namespace Sys2Proof.Machine.Proofs

open Sys2Proof Sys2Proof.Machine Sys2Proof.Machine.Laws

/-! ### The Run Controller and load at the stack (chapters 9 and 10) -/

theorem enterHoldupBlocks_stackKept (s : State) : StackKept s s.enterHoldupBlocks := by
  constructor <;> simp [State.enterHoldupBlocks]

/-- The entry sets POWER ready, and nothing else of the Notice Controller (R194). -/
theorem enterHoldup_stackKept (s : State) (conditionFirst : Bool) : StackKept s (s.enterHoldup conditionFirst) := by
  have settled : StackKept s s.settleHandedWait := .of_notice (settleHandedWait_notice s)
  unfold State.enterHoldup
  dsimp only
  split
  · refine settled.trans ((enterHoldupBlocks_stackKept _).trans (.of_notice ?_))
    rw [breakWait_notice, retestWait_notice]
  · exact settled.trans (.trans (.of_notice (breakWait_notice ..)) (enterHoldupBlocks_stackKept _))

theorem entryToHoldup_stack (conditionFirst : Bool) (s : State) : MovesStack s (exec (.entryToHoldup conditionFirst) s) := by
  have warned : StackKept s { s with run := { s.run with pfwAsserted := true } } := ⟨rfl, rfl⟩
  refine .kept ?_
  dsimp only
  split
  · exact warned.trans (enterHoldup_stackKept ..)
  · exact warned

theorem resumeSweep_notice (s : State) : s.resumeSweep.notice = s.notice := by
  unfold State.resumeSweep
  split
  · rfl
  · rfl
  · split <;> rfl

theorem returnToRun_stack (s : State) : MovesStack s (exec .returnToRun s) := by
  refine .kept ?_
  dsimp only
  split
  · exact .of_notice (resumeSweep_notice _)
  · exact ⟨rfl, rfl⟩

theorem loadingStart_stack (s : State) : MovesStack s (exec .loadingStart s) := by
  unfold MovesStack
  simp only [exec, execLoadingStart]
  split
  · exact .cleared rfl
  · exact .kept (.refl s)

theorem applySettingsPage_stackKept (s : State) : StackKept s s.applySettingsPage := by
  unfold State.applySettingsPage
  split
  · exact ⟨rfl, rfl⟩
  · split <;> exact ⟨rfl, rfl⟩
  · exact ⟨rfl, rfl⟩
  · exact ⟨rfl, rfl⟩

theorem loadSettingsPage_stack (s : State) : MovesStack s (exec .loadSettingsPage s) := by
  obtain ⟨mode, stack⟩ := applySettingsPage_stackKept s
  exact .kept (.ite ⟨mode, stack⟩)

theorem quarantineDamaged_stackKept (s : State) (slot : Fin 64) (a : Account) :
    StackKept s (s.quarantine slot a).setLoadDamage :=
  StackKept.trans (.of_notice (quarantine_notice s slot a)) ⟨rfl, rfl⟩

theorem loadAccount_stackKept (s : State) (slot : Fin 64) (stored : StoredAccount) (status : Status) :
    StackKept s (s.loadAccount slot stored status) := by
  unfold State.loadAccount
  dsimp only
  split
  · exact ⟨rfl, rfl⟩
  · exact quarantineDamaged_stackKept ..

theorem loadSlot_stackKept (s : State) (slot : Fin 64) (stored : StoredAccount) :
    StackKept s (s.loadSlot slot stored) := by
  unfold State.loadSlot
  split
  · exact ⟨rfl, rfl⟩
  split
  · exact loadAccount_stackKept ..
  split
  · exact loadAccount_stackKept ..
  split
  · exact .of_notice (quarantine_notice ..)
  · exact quarantineDamaged_stackKept ..

theorem foldl_stackKept {f : State → Fin 8 → State} (h : ∀ s j, StackKept s (f s j)) (js : List (Fin 8)) (s : State) :
    StackKept s (js.foldl f s) := by
  induction js generalizing s with
  | nil => exact .refl s
  | cons j js ih => exact (h s j).trans (ih _)

theorem quarantinePage_stackKept (s : State) (page : Fin 8) : StackKept s (s.quarantinePage page) :=
  foldl_stackKept (fun u _ => quarantineDamaged_stackKept u ..) _ s

theorem applyAccountPage_stackKept (s : State) (page : Fin 8) : StackKept s (s.applyAccountPage page) := by
  unfold State.applyAccountPage
  split
  · exact foldl_stackKept (fun u _ => .of_notice (setSlot_notice u ..)) _ s
  · exact foldl_stackKept (fun u _ => loadSlot_stackKept u ..) _ s
  · exact quarantinePage_stackKept s page
  · exact StackKept.trans (t := s.markDamaged page.castSucc) ⟨rfl, rfl⟩ (quarantinePage_stackKept _ page)

theorem reconcile_notice (s : State) (page : Fin 8) : (s.reconcile page).notice = s.notice := by
  have counted : ((s.mapPoints (s.reconciled page)).countBindings page).notice = s.notice := by
    simp only [State.countBindings, mapPoints_notice]
  rcases reconcile_cases s page with h | h
  · rw [h, report_notice, counted]
  · rw [h, counted]

theorem endLoading_stackKept (s : State) : StackKept s s.endLoading := by
  have loaded : StackKept s { s with timer.remaining := s.timer.periodLength, run.loadPage := 0 } := ⟨rfl, rfl⟩
  unfold State.endLoading
  dsimp only
  split
  · exact loaded.trans (enterHoldup_stackKept ..)
  · exact ⟨rfl, rfl⟩

theorem loadAccountPage_stack (s : State) : MovesStack s (exec .loadAccountPage s) := by
  refine .kept ?_
  split
  · rename_i page _ _
    have taken : StackKept s ((s.applyAccountPage page).reconcile page) :=
      (applyAccountPage_stackKept s page).trans (.of_notice (reconcile_notice ..))
    dsimp only
    split
    · exact taken.trans (endLoading_stackKept _)
    · exact taken.trans ⟨rfl, rfl⟩
  · exact .refl s

/-! ### Ticks (sections 3.5, 4.2, 5.6) -/

/-- A boundary sets SWEEP_LATE at most (R89). -/
theorem takeBoundary_stackKept (s : State) : StackKept s s.takeBoundary := by
  obtain ⟨proc, taken⟩ := takeBoundary_blocks s
  rw [taken]
  constructor <;> simp only [boundaryTaken, boundaryNotice] <;> split <;> rfl

theorem tickPeriod_stackKept (s : State) : StackKept s s.tickPeriod := by
  unfold State.tickPeriod
  split
  · exact takeBoundary_stackKept s
  · exact ⟨rfl, rfl⟩

theorem tickWait_notice (s : State) : s.tickWait.notice = s.notice := by
  unfold State.tickWait
  split
  · split
    · rfl
    · split <;> rfl
  · rfl

theorem tick_stack (conditionFirst : Bool) (s : State) : MovesStack s (exec (.tick conditionFirst) s) := by
  have waited (u : State) : StackKept u u.tickWait := .of_notice (tickWait_notice u)
  refine .kept ?_
  split
  · refine StackKept.trans (t := s.tickPoints.tickCommit) ⟨rfl, rfl⟩ ?_
    dsimp only
    split
    · exact (tickPeriod_stackKept _).trans (waited _)
    · exact (waited _).trans (tickPeriod_stackKept _)
  · exact .ite ⟨rfl, rfl⟩

theorem routinePageEligible_stack (page : Fin 9) (s : State) : MovesStack s (exec (.routinePageEligible page) s) := by
  refine .kept ?_
  split
  · exact .ite ⟨rfl, rfl⟩
  · exact .refl s

theorem waitTimeout_stack (s : State) : MovesStack s (exec .waitTimeout s) := by
  refine .kept ?_
  split
  · exact .ite ⟨rfl, rfl⟩
  · exact .refl s

/-! ### The Commit Engine (chapter 9) -/

theorem commit_stack (s : State) : MovesStack s (exec .commit s) := by
  refine .kept ?_
  split
  · refine .ite ?_
    unfold State.takeCommit
    dsimp only
    split <;> exact ⟨rfl, rfl⟩
  · exact .refl s

theorem commitStart_stack (s : State) : MovesStack s (exec .commitStart s) := by
  refine .kept ?_
  split
  · refine .ite ?_
    split <;> exact ⟨rfl, rfl⟩
  · exact .refl s

theorem eraseComplete_stack (s : State) : MovesStack s (exec .eraseComplete s) := by
  refine .kept ?_
  split <;> exact ⟨rfl, rfl⟩

theorem programComplete_stack (written : Bool) (s : State) : MovesStack s (exec (.programComplete written) s) := by
  refine .kept ?_
  split <;> exact ⟨rfl, rfl⟩

/-- The end of a COMMIT sets COMMIT ready, and nothing else of the Notice Controller (R184). -/
theorem settleWanted_stackKept (s : State) (page : Fin 9) (succeeded : Bool) :
    StackKept s (s.settleWanted page succeeded) := by
  unfold State.settleWanted State.finishCommit
  split
  · exact .refl s
  dsimp only
  split
  · split <;> exact ⟨rfl, rfl⟩
  · exact ⟨rfl, rfl⟩

theorem commitFailed_stackKept (s : State) (page : Fin 9) : StackKept s (s.commitFailed page) := by
  constructor <;> simp [State.commitFailed]

theorem verifyComplete_stack (s : State) : MovesStack s (exec .verifyComplete s) := by
  have settled (u : State) (page : Fin 9) (succeeded : Bool) (h : StackKept s u) :
      StackKept s (u.settleWanted page succeeded).retestWait :=
    h.trans ((settleWanted_stackKept u page succeeded).trans (.of_notice (retestWait_notice _)))
  refine .kept ?_
  split
  · split
    · exact settled _ _ _ ⟨rfl, rfl⟩
    split
    · exact settled _ _ _ (commitFailed_stackKept ..)
    · exact ⟨rfl, rfl⟩
  · exact .refl s

/-! ### The Top-up Port, notices and the register port (chapters 7, 8 and 11) -/

/-- The port moves, and a WAIT tests its conditions. -/
theorem setPort_retest_stack (s : State) (port : TopUpPort) : MovesStack s (.next (s.setPort port).retestWait) :=
  .kept (.of_notice (retestWait_notice _))

theorem collision_stack (bit : Fin 8) (s : State) : MovesStack s (exec (.collision bit) s) :=
  .kept (.ite (.of_notice (retestWait_notice _)))

theorem writeNoticeMode_moved (s : State) (value : Word) : StackMoved s (s.writeNoticeMode value) := by
  unfold State.writeNoticeMode
  split
  · split
    · exact .kept (.refl s)
    · exact .cleared rfl
  · exact .cleared rfl

theorem writeNoticeDone_moved (s : State) : StackMoved s s.writeNoticeDone := by
  cases mode : s.notice.mode with
  | summary => rw [writeNoticeDone_summary mode]; exact .kept (.refl s)
  | vectored => rw [writeNoticeDone_vectored mode]; exact .popped rfl rfl

theorem pushTaken_moved (s : State) : StackMoved s s.pushTaken := by
  unfold State.pushTaken
  split
  · rename_i rank mode found
    exact .pushed rank found mode rfl rfl
  · exact .kept (.refl s)

/-- The offset of NOTICE_TAKE pushes; any other read leaves the stack alone (R200). -/
theorem readEffect_moved (s : State) (offset : BitVec 7) : StackMoved s (s.readEffect offset) := by
  unfold State.readEffect
  split
  · exact pushTaken_moved s
  · split
    · exact .kept (.refl s)
    · exact .kept ⟨rfl, rfl⟩

theorem readRegister_moved (s : State) (offset : BitVec 7) : StackMoved s (s.readRegister offset) :=
  (readEffect_moved s offset).trans_kept ⟨rfl, rfl⟩

theorem writeRegister_moved_stack (s : State) (offset : Nat) (value : Word) :
    StackMoved s (s.writeRegister offset value) := by
  unfold State.writeRegister
  split
  · exact .kept ⟨rfl, rfl⟩
  · exact .kept ⟨rfl, rfl⟩
  · split
    · exact controlWrite_moved_stack ..
    · exact .kept ⟨rfl, rfl⟩
    · exact .kept (submitted_stackKept ..)
    · exact .kept (popped_stackKept s)
    · exact .kept ⟨rfl, rfl⟩
    · exact .kept ⟨rfl, rfl⟩
    · exact writeNoticeMode_moved ..
    · exact writeNoticeDone_moved s
    · exact .kept ⟨rfl, rfl⟩

end Sys2Proof.Machine.Proofs

namespace Sys2Proof.Machine.Proofs

open Sys2Proof Sys2Proof.Machine Sys2Proof.Machine.Laws

/-! ### Every command -/

/-- What the meaning of a command can do to mode and stack. -/
theorem exec_stack (c : Instr) (s : State) : MovesStack s (exec c s) := by
  have engineServed {code effect} (silent : EffectSilent effect) : MovesStack s (.next (s.completeCommand code effect)) :=
    .kept (completeCommand_stackKept s code silent)
  have taken {code effect} (silent : EffectSilent effect) : MovesStack s (.next (s.takeCommand code effect)) :=
    .kept (takeCommand_stackKept code fun f => .of_notice (silent f s))
  have ported (port : TopUpPort) : MovesStack s (.next (s.setPort port)) := .kept ⟨rfl, rfl⟩
  cases c with
  | reset => exact .cleared rfl
  | loadingStart => exact loadingStart_stack s
  | loadSettingsPage => exact loadSettingsPage_stack s
  | loadAccountPage => exact loadAccountPage_stack s
  | entryToHoldup conditionFirst => exact entryToHoldup_stack conditionFirst s
  | entryToSafe => exact .kept (.ite ⟨rfl, rfl⟩)
  | returnToRun => exact returnToRun_stack s
  | tick conditionFirst => exact tick_stack conditionFirst s
  | periodBoundary => exact .kept (.ite (takeBoundary_stackKept s))
  | graceExpiry p => exact .kept (.ite ⟨rfl, rfl⟩)
  | routinePageEligible page => exact routinePageEligible_stack page s
  | waitTimeout => exact waitTimeout_stack s
  | meterLineChange p => exact .kept ⟨rfl, rfl⟩
  | debounceComplete p => exact .kept (.ite ⟨rfl, rfl⟩)
  | engineGrant => exact .kept (.ite (.of_notice (grant_notice s)))
  | charge => exact charge_stack s
  | standing => exact standing_stack s
  | applyFrame => exact applyFrame_stack s
  | gather => exact gather_stack s
  | submit value => exact served_stack (.kept (submitted_stackKept s value))
  | commandStart => exact commandStart_stack s
  | badCommand => exact badCommand_stack s
  | pop value => exact served_stack (.kept (popped_stackKept s))
  | purge value => exact served_stack (controlWrite_moved_stack s value)
  | portReset value => exact served_stack (controlWrite_moved_stack s value)
  | wait => exact .kept (.of_notice (settleHandedWait_notice s))
  | mark => exact .kept (takeCommand_stackKept 0x22 fun _ => ⟨rfl, rfl⟩)
  | openAccount => exact engineServed openEffect_silent
  | closeAccount => exact engineServed closeEffect_silent
  | credit => exact engineServed creditEffect_silent
  | debit => exact engineServed debitEffect_silent
  | transfer => exact engineServed transferEffect_silent
  | query => exact engineServed (silent_of_state queryEffect_state)
  | querySlot => exact engineServed (silent_of_state querySlotEffect_state)
  | scan => exact engineServed (silent_of_state scanEffect_state)
  | amend => exact engineServed amendEffect_silent
  | suspend => exact engineServed (statusEffect_silent .suspended)
  | resume => exact engineServed (statusEffect_silent .active)
  | repair => exact engineServed repairEffect_silent
  | discard => exact engineServed discardEffect_silent
  | nextAttention => exact engineServed nextAttentionEffect_silent
  | bind => exact bind_stack s
  | unbind => exact unbind_stack s
  | unbindDetach => exact unbindDetach_stack s
  | configurePoint => exact taken configureEffect_silent
  | hold => exact taken holdEffect_silent
  | release => exact taken releaseEffect_silent
  | queryPoint => exact taken queryPointEffect_silent
  | setDefer => exact taken setDeferEffect_silent
  | setTariff => exact taken setTariffEffect_silent
  | setBand => exact taken setBandEffect_silent
  | setPeriod => exact taken setPeriodEffect_silent
  | setTopup => exact taken setTopupEffect_silent
  | setInterval => exact taken setIntervalEffect_silent
  | commit => exact commit_stack s
  | commitStart => exact commitStart_stack s
  | eraseComplete => exact eraseComplete_stack s
  | programComplete written => exact programComplete_stack written s
  | verifyComplete => exact verifyComplete_stack s
  | busStart => exact setPort_retest_stack s _
  | busStop => exact setPort_retest_stack s _
  | addressByte byte => exact ported _
  | kindByte byte => exact ported _
  | frameByte byte => exact ported _
  | discardByte byte => exact ported _
  | replyByte acknowledged => exact setPort_retest_stack s _
  | collision bit => exact collision_stack bit s
  | busTimeout => exact setPort_retest_stack s _
  | noticeReadyWrite value => exact served_stack (u := s.writeNoticeReady value) (.kept ⟨rfl, rfl⟩)
  | noticeEnableWrite value => exact served_stack (u := s.writeNoticeEnable value) (.kept ⟨rfl, rfl⟩)
  | noticeModeWrite value => exact served_stack (writeNoticeMode_moved s value)
  | noticeTake => exact served_stack (readRegister_moved s 0x19)
  | noticeDone value => exact served_stack (writeNoticeDone_moved s)
  | errorsWrite value => exact served_stack (u := s.writeErrors value) (.kept ⟨rfl, rfl⟩)
  | pointFlagsWrite p value => exact served_stack (u := s.writePointFlags p value) (.kept ⟨rfl, rfl⟩)
  | unassignedRead offset => exact served_stack (readRegister_moved s offset)
  | registerWrite offset value => exact served_stack (writeRegister_moved_stack s offset.toNat value)

/-- Settles O54: the meaning of each command moves mode and stack as `StackMoved` says, and every such move keeps the stack
ordered; the idle step changes nothing. -/
theorem everyStepKeepsStackOrdered : Obligations.EveryStepKeepsStackOrdered := by
  intro s t ordered h
  unfold step at h
  split at h
  · cases h; exact ordered
  · rename_i c rest _
    have moved := exec_stack c { s with pending := rest }
    rw [h] at moved
    exact StackMoved.ordered moved ordered

end Sys2Proof.Machine.Proofs

namespace Sys2Proof.Machine.Proofs

open Sys2Proof Sys2Proof.Machine Sys2Proof.Machine.Laws

/-! ### Pages that join the eligible list (R173, R176, R182) -/

theorem mem_joinedAscending (pages : List (Fin 9)) (joins : Fin 9 → Bool) (page : Fin 9) :
    page ∈ joinedAscending pages joins ↔ page ∈ pages ∨ joins page = true := by
  by_cases there : page ∈ pages <;> simp [joinedAscending, there]

theorem nodup_joinedAscending {pages : List (Fin 9)} (h : pages.Nodup) (joins : Fin 9 → Bool) :
    (joinedAscending pages joins).Nodup := by
  refine List.nodup_append'.mpr ⟨h, (List.nodup_finRange 9).filter _, fun page there joined => ?_⟩
  simp [there] at joined

theorem report_eligible (s : State) (page : Fin 9) (urgent : Bool) :
    (s.report page urgent).commit.eligible =
      if reportJoins (urgent || s.warned) s.commit.dirty[page] then joinEligible page s.commit.eligible
      else s.commit.eligible := rfl

theorem mem_report_eligible (s : State) (page q : Fin 9) (urgent : Bool) :
    q ∈ (s.report page urgent).commit.eligible ↔
      q ∈ s.commit.eligible ∨ q = page ∧ reportJoins (urgent || s.warned) s.commit.dirty[page] = true := by
  rw [report_eligible]
  split
  · rename_i joins
    rw [mem_joinEligible, or_comm, and_iff_left joins]
  · rename_i stays
    rw [iff_self_or]
    exact fun c => absurd c.2 stays

/-- A record that a report leaves urgent was urgent, or its page comes due with the report (R173). -/
theorem reportJoins_of_urgent {u : Bool} {record : Option DirtyRecord} (h : (reportedRecord u record).urgent = true) :
    reportJoins u record = true ∨ ∃ r, record = some r ∧ r.urgent = true := by
  cases record with
  | none => exact .inl h
  | some r =>
    cases was : r.urgent with
    | true => exact .inr ⟨r, rfl, was⟩
    | false => exact .inl (by simpa [reportJoins, reportedRecord, was] using h)

/-- Every record is urgent after R176, with the age it had. -/
theorem makeAllUrgent_dirty (s : State) (page : Fin 9) :
    s.makeAllUrgent.commit.dirty[page] = s.commit.dirty[page].map fun r => { urgent := true, age := r.age } := by
  simp [State.makeAllUrgent]

theorem aged_keeps_urgent (r : DirtyRecord) : r.aged.urgent = r.urgent := by
  unfold DirtyRecord.aged
  split <;> rfl

theorem fixSnapshot_dirty (s : State) (page q : Fin 9) (contents : PageContents) :
    (s.fixSnapshot page contents).commit.dirty[q] = if page = q then none else s.commit.dirty[q] := by
  simp only [State.fixSnapshot, Fin.getElem_fin, Vector.getElem_set, Fin.ext_iff]

/-! ### The eligible list within the dirty set (R173, R175, R176) -/

/-- Dirty set and eligible list are as they were, and the power warning has not come. -/
theorem eligibleDirty_congr {s t : State} (h : EligibleDirty s) (dirty : t.commit.dirty = s.commit.dirty)
    (eligible : t.commit.eligible = s.commit.eligible) (warned : t.warned = true → s.warned = true) :
    EligibleDirty t := by
  obtain ⟨nodup, within, urgent⟩ := h
  rw [← eligible] at nodup
  rw [← eligible, ← dirty] at within
  rw [← eligible, ← dirty] at urgent
  exact ⟨nodup, within, fun page r hr => ⟨(urgent page r hr).1, fun hw => (urgent page r hr).2 (warned hw)⟩⟩

theorem report_eligibleDirty {s : State} (h : EligibleDirty s) (page : Fin 9) (urgent : Bool) :
    EligibleDirty (s.report page urgent) := by
  obtain ⟨nodup, within, records⟩ := h
  refine ⟨?_, fun q hq => ?_, fun q r hr => ?_⟩
  · rw [report_eligible]
    split
    · exact nodup_joinEligible page _ nodup
    · exact nodup
  · rw [dirty_report]
    split
    · rfl
    · rename_i other
      exact within q (((mem_report_eligible ..).mp hq).resolve_right fun c => other c.1.symm)
  · rw [mem_report_eligible]
    rw [dirty_report] at hr
    split at hr
    · rename_i same
      subst same
      cases hr
      refine ⟨fun now => ?_, fun warned => ?_⟩
      · rcases reportJoins_of_urgent now with joins | ⟨r, was, urgent⟩
        · exact .inr ⟨rfl, joins⟩
        · exact .inl ((records page r was).1 urgent)
      · rw [show s.warned = true from warned, Bool.or_true, reportedRecord_urgent]
    · exact ⟨fun u => .inl ((records q r hr).1 u), (records q r hr).2⟩

/-- All dirty pages become urgent and join: whatever was urgent before, and in every run state. -/
theorem makeAllUrgent_eligibleDirty {s t : State} (h : EligibleDirty s) (commit : t.commit = s.commit) :
    EligibleDirty t.makeAllUrgent := by
  obtain ⟨nodup, within, -⟩ := h
  rw [← commit] at nodup within
  refine ⟨?_, fun page hp => ?_, fun page r hr => ?_⟩
  · rw [makeAllUrgent_eligible]
    exact nodup_joinedAscending nodup _
  · rw [makeAllUrgent_eligible, mem_joinedAscending] at hp
    rw [makeAllUrgent_dirty, Option.isSome_map]
    exact hp.elim (within page) id
  · rw [makeAllUrgent_dirty, Option.map_eq_some_iff] at hr
    obtain ⟨old, was, rfl⟩ := hr
    rw [makeAllUrgent_eligible, mem_joinedAscending]
    exact ⟨fun _ => .inr (by rw [was]; rfl), fun _ => rfl⟩

/-- Dirty pages join the list, and no page leaves it (R174, R182). -/
theorem eligibleDirty_joined {s t : State} (h : EligibleDirty s) (dirty : t.commit.dirty = s.commit.dirty)
    (warned : t.warned = true → s.warned = true) (nodup : t.commit.eligible.Nodup)
    (stay : ∀ page ∈ s.commit.eligible, page ∈ t.commit.eligible)
    (join : ∀ page ∈ t.commit.eligible, page ∈ s.commit.eligible ∨ (s.commit.dirty[page]).isSome = true) :
    EligibleDirty t := by
  obtain ⟨-, within, records⟩ := h
  refine ⟨nodup, fun page hp => ?_, fun page r hr => ?_⟩
  · simp only [dirty]
    exact (join page hp).elim (within page) id
  · simp only [dirty] at hr
    exact ⟨fun u => stay page ((records page r hr).1 u), fun hw => (records page r hr).2 (warned hw)⟩

/-- The copied page leaves list and set together (R178). -/
theorem fixSnapshot_eligibleDirty {s : State} (h : EligibleDirty s) (page : Fin 9) (contents : PageContents) :
    EligibleDirty (s.fixSnapshot page contents) := by
  obtain ⟨nodup, within, records⟩ := h
  have members (q : Fin 9) : q ∈ (s.fixSnapshot page contents).commit.eligible ↔ q ∈ s.commit.eligible ∧ q ≠ page := by
    simp [State.fixSnapshot]
  refine ⟨nodup.filter _, fun q hq => ?_, fun q r hr => ?_⟩
  · obtain ⟨there, other⟩ := (members q).mp hq
    rw [fixSnapshot_dirty, if_neg other.symm]
    exact within q there
  · rw [fixSnapshot_dirty] at hr
    split at hr
    · cases hr
    · rename_i other
      exact ⟨fun u => (members q).mpr ⟨(records q r hr).1 u, Ne.symm other⟩, (records q r hr).2⟩

/-- A page that comes due is dirty and not in the list; whatever the free order, each joins once (R174; log entry 5). -/
theorem tickCommit_eligibleDirty {s : State} (h : EligibleDirty s) : EligibleDirty s.tickCommit := by
  obtain ⟨nodup, within, records⟩ := h
  have order := agedOrder_perm (Config.agedKey s.freeCount) ((List.finRange 9).filter s.comesDue)
  have members (page : Fin 9) :
      page ∈ s.tickCommit.commit.eligible ↔ page ∈ s.commit.eligible ∨ s.comesDue page = true := by
    simp [State.tickCommit, order.mem_iff]
  refine ⟨?_, fun page hp => ?_, fun page r hr => ?_⟩
  · refine List.nodup_append'.mpr ⟨nodup, order.nodup_iff.mpr ((List.nodup_finRange 9).filter _), fun page there due => ?_⟩
    rw [order.mem_iff, List.mem_filter, comesDue_iff] at due
    exact due.2.1 there
  · rw [tickCommit_dirty, Option.isSome_map]
    rcases (members page).mp hp with there | due
    · exact within page there
    · obtain ⟨-, r, was, -⟩ := (comesDue_iff s page).mp due
      rw [was]; rfl
  · rw [tickCommit_dirty, Option.map_eq_some_iff] at hr
    obtain ⟨old, was, rfl⟩ := hr
    rw [aged_keeps_urgent]
    exact ⟨fun u => (members page).mpr (.inl ((records page old was).1 u)), (records page old was).2⟩

/-- A page that failed twice returns in RUN alone, as routine (R180). -/
theorem returnFailed_eligibleDirty {s : State} (h : EligibleDirty s) (page : Fin 9) :
    EligibleDirty (s.returnFailed page) := by
  obtain ⟨nodup, within, records⟩ := h
  unfold State.returnFailed
  split
  · rename_i returns
    have record (q : Fin 9) : (s.commit.dirty.set page (some { urgent := false, age := 0 }))[q] =
        if page = q then some { urgent := false, age := 0 } else s.commit.dirty[q] := by
      simp only [Fin.getElem_fin, Vector.getElem_set, Fin.ext_iff]
    refine ⟨nodup, fun q hq => ?_, fun q r hr => ?_⟩
    · dsimp only
      rw [record]
      split
      · rfl
      · exact within q hq
    · dsimp only at hr
      rw [record] at hr
      split at hr
      · cases hr
        exact ⟨nofun, fun warned => by simp [State.warned, returns.1] at warned⟩
      · exact records q r hr
  · exact ⟨nodup, within, records⟩

end Sys2Proof.Machine.Proofs

namespace Sys2Proof.Machine.Proofs

open Sys2Proof Sys2Proof.Machine Sys2Proof.Machine.Laws

/-! ### Repairs reach the array with a commit alone (R171, R209) -/

/-- A GATHER in progress was in progress. -/
def NoGather (s t : State) : Prop := ∀ page, t.engine.op = .busy (.gather page) → s.engine.op = .busy (.gather page)

/-- A marked page is damaged, but in VERIFY. -/
theorem damaged_of_marked {s : State} (h : RepairsUnverified s) {page : Fin 9}
    (marked : s.commit.unverified.getLsbD page.val = true) (phase : s.commit.phase ≠ .verify page) :
    s.nv[page] = .damaged :=
  (h.2 page marked).resolve_right fun verified => phase verified.1

/-- While the commit under way is not at GATHER, no GATHER is in progress. -/
theorem not_gathering {s : State} (h : RepairsUnverified s) (phase : ∀ page, s.commit.phase ≠ .gather page)
    (page : Fin 9) : s.engine.op ≠ .busy (.gather page) :=
  fun gathering => phase page (h.1 page gathering)

/-- The commit under way, the array and the marks are as they were, and no GATHER has started. -/
theorem repairs_congr {s t : State} (h : RepairsUnverified s) (gather : NoGather s t)
    (phase : t.commit.phase = s.commit.phase) (snapshot : t.commit.snapshot = s.commit.snapshot)
    (unverified : t.commit.unverified = s.commit.unverified) (nv : t.nv = s.nv) : RepairsUnverified t := by
  refine ⟨fun page hg => phase.trans (h.1 page (gather page hg)), fun page marked => ?_⟩
  rw [unverified] at marked
  simp only [phase, snapshot, nv]
  exact h.2 page marked

/-! ### What a step keeps of the pages -/

/-- The two invariants of the pages hold of the second state when they hold of the first. -/
structure PagesKept (s t : State) : Prop where
  eligible : EligibleDirty s → EligibleDirty t
  repairs : RepairsUnverified s → RepairsUnverified t

namespace PagesKept

variable {s t u : State}

theorem refl (s : State) : PagesKept s s := ⟨id, id⟩

theorem trans (h : PagesKept s t) (h' : PagesKept t u) : PagesKept s u :=
  ⟨fun e => h'.eligible (h.eligible e), fun r => h'.repairs (h.repairs r)⟩

/-- The Commit Engine and the array are as they were, no GATHER has started and no power warning has come. -/
theorem of_commit (commit : t.commit = s.commit) (nv : t.nv = s.nv) (gather : NoGather s t)
    (warned : t.warned = true → s.warned = true) : PagesKept s t :=
  ⟨fun h => eligibleDirty_congr h (by rw [commit]) (by rw [commit]) warned,
    fun h => repairs_congr h gather (by rw [commit]) (by rw [commit]) (by rw [commit]) nv⟩

/-- A step of the blocks around the engine and the Commit Engine. -/
theorem of_blocks (commit : t.commit = s.commit) (nv : t.nv = s.nv) (engine : t.engine = s.engine)
    (run : t.run = s.run) : PagesKept s t :=
  of_commit commit nv (fun page h => by rwa [engine] at h) (fun h => by rwa [State.warned, run] at h)

/-- A row that keeps the pages, when it is due and when it is not. -/
theorem ite {c : Prop} [Decidable c] (h : PagesKept s t) : PagesKept s (if c then t else s) := by
  split
  · exact h
  · exact .refl s

end PagesKept

theorem report_pagesKept (s : State) (page : Fin 9) (urgent : Bool) : PagesKept s (s.report page urgent) where
  eligible h := report_eligibleDirty h page urgent
  repairs h := repairs_congr h (fun _ => id) rfl rfl rfl rfl

/-- A page is reported behind what keeps the pages. -/
theorem PagesKept.reported {s t : State} {page : Fin 9} {urgent : Bool} (h : PagesKept s t) :
    PagesKept s (t.report page urgent) :=
  h.trans (report_pagesKept t page urgent)

/-- The marks of an executing COMMIT, the commit interval, the fault page and the retry are no matter of the invariants. -/
theorem pagesKept_of_fields {s t : State} (dirty : t.commit.dirty = s.commit.dirty)
    (eligible : t.commit.eligible = s.commit.eligible) (phase : t.commit.phase = s.commit.phase)
    (snapshot : t.commit.snapshot = s.commit.snapshot) (unverified : t.commit.unverified = s.commit.unverified)
    (nv : t.nv = s.nv) (gather : NoGather s t) (warned : t.warned = true → s.warned = true) : PagesKept s t :=
  ⟨fun h => eligibleDirty_congr h dirty eligible warned,
    fun h => repairs_congr h gather phase snapshot unverified nv⟩

theorem freeEngine_pagesKept (s : State) : PagesKept s s.freeEngine := .of_commit rfl rfl nofun id

theorem retestWait_pagesKept (s : State) : PagesKept s s.retestWait := .of_blocks (by simp) (by simp) (by simp) (by simp)

theorem breakWait_pagesKept (s : State) (status : ResultStatus) : PagesKept s (s.breakWait status) :=
  .of_blocks (by simp) (by simp) (by simp) (by simp)

theorem setPort_pagesKept (s : State) (port : TopUpPort) : PagesKept s (s.setPort port) := .of_blocks rfl rfl rfl rfl

theorem makeAllUrgent_pagesKept (s : State) : PagesKept s s.makeAllUrgent where
  eligible h := makeAllUrgent_eligibleDirty h rfl
  repairs h := repairs_congr h (fun _ => id) rfl rfl rfl rfl

theorem startWait_pagesKept (s : State) (cmd : QueuedCommand) : PagesKept s (s.startWait cmd) := by
  unfold State.startWait
  dsimp only
  split
  · exact .of_blocks rfl rfl rfl rfl
  · exact .of_blocks (by simp) (by simp) (by simp) (by simp)

theorem settleHandedWait_pagesKept (s : State) : PagesKept s s.settleHandedWait := by
  unfold State.settleHandedWait
  split
  · exact .ite (startWait_pagesKept ..)
  · exact .refl s

/-! ### The effects of engine operations -/

theorem changeAccount_pagesKept (s : State) (slot : Fin 64) (a : Account) (before : Level) (extra : Reasons) :
    PagesKept s (s.changeAccount slot a before extra) :=
  .of_commit (by simp) (by simp) (fun page h => by rwa [changeAccount_op] at h) fun h => by simpa [State.warned] using h

theorem storeBalance_pagesKept (s : State) (slot : Fin 64) (balance : Int) (extra : Reasons) (urgent : Bool) :
    PagesKept s (s.storeBalance slot balance extra urgent) := by
  unfold State.storeBalance
  dsimp only
  split
  · exact .of_commit (by simp) (by simp) (fun page h => by rwa [addReasons_op] at h) fun h => by
      simpa [State.warned] using h
  · exact (changeAccount_pagesKept ..).reported

theorem takeCharge_pagesKept (s : State) (slot : Fin 64) (amount : Nat) : PagesKept s (s.takeCharge slot amount) := by
  unfold State.takeCharge
  split
  · exact .refl s
  split
  · exact storeBalance_pagesKept ..
  · exact storeBalance_pagesKept ..

theorem withAccount_pagesKept {s : State} (number : Nat) (f : Fin 64 → State × Answer)
    (h : ∀ slot, PagesKept s (f slot).1) : PagesKept s (s.withAccount number f).1 := by
  rcases withAccount_cases s number f with hw | ⟨slot, -, hw⟩ <;> rw [hw]
  · exact .refl s
  · exact h slot

theorem withPoint_pagesKept {s : State} (field : Word) (f : Fin 16 → State × Answer) (h : ∀ p, PagesKept s (f p).1) :
    PagesKept s (s.withPoint field f).1 := by
  rcases withPoint_cases s field f with hs | ⟨p, hs⟩ <;> rw [hs]
  · exact .refl s
  · exact h p

theorem withBoundPoint_pagesKept {s : State} (field : Word) (f : Fin 16 → State × Answer)
    (h : ∀ p, PagesKept s (f p).1) : PagesKept s (s.withBoundPoint field f).1 := by
  rcases withBoundPoint_cases s field f with hs | ⟨p, -, hs⟩ <;> rw [hs]
  · exact .refl s
  · exact h p

/-- The effect of a command, which answers its fields, keeps the pages. -/
def EffectKeepsPages (effect : Vector Word 7 → State → State × Answer) : Prop := ∀ f s, PagesKept s (effect f s).1

theorem keepsPages_of_state {effect : Vector Word 7 → State → State × Answer} (h : ∀ f s, (effect f s).1 = s) :
    EffectKeepsPages effect := fun f s => by rw [h]; exact .refl s

/-- A record is written, and its page reported (R7, R41, R127). -/
theorem writtenAccount_pagesKept (s : State) (slot : Fin 64) (a : Account) (before : Level) (page : Fin 9) :
    PagesKept s ((s.changeAccount slot a before {}).report page true) :=
  (changeAccount_pagesKept ..).reported

/-- A number enters the directory, and its slot takes a record (R117, R131). -/
theorem enterAccount_pagesKept (s : State) (number : Nat) (slot : Fin 64) (a : Account) (before : Level) (page : Fin 9) :
    PagesKept s (((s.insertDirectory number slot).changeAccount slot a before {}).report page true) :=
  PagesKept.trans (t := s.insertDirectory number slot) (.of_commit rfl rfl (fun _ => id) id)
    (writtenAccount_pagesKept ..)

theorem openEffect_keepsPages : EffectKeepsPages openEffect := fun f s => by
  unfold openEffect
  split
  · exact .refl s
  split
  · exact .refl s
  split
  · exact .refl s
  · exact enterAccount_pagesKept ..

theorem closeEffect_keepsPages : EffectKeepsPages closeEffect := fun f s => by
  unfold closeEffect
  split
  · exact .refl s
  · refine withAccount_pagesKept _ _ fun slot => ?_
    split
    · exact .refl s
    · exact PagesKept.reported (.of_commit rfl rfl (fun _ => id) id)

theorem creditEffect_keepsPages : EffectKeepsPages creditEffect := fun f s => by
  unfold creditEffect
  split
  · refine withAccount_pagesKept _ _ fun slot => ?_
    split
    · exact .refl s
    · exact storeBalance_pagesKept ..
  · exact .refl s

theorem debitEffect_keepsPages : EffectKeepsPages debitEffect := fun f s => by
  unfold debitEffect
  split
  · exact .refl s
  · refine withAccount_pagesKept _ _ fun slot => ?_
    split
    · exact .refl s
    · exact storeBalance_pagesKept ..

theorem transferEffect_keepsPages : EffectKeepsPages transferEffect := fun f s => by
  unfold transferEffect State.transferBetween
  split
  · exact .refl s
  split
  · exact .refl s
  · exact .refl s
  split
  · exact .refl s
  split
  · exact .refl s
  · exact .refl s
  split
  · exact .refl s
  · exact (storeBalance_pagesKept ..).trans (storeBalance_pagesKept ..)

theorem amendEffect_keepsPages : EffectKeepsPages amendEffect := fun f s => by
  unfold amendEffect
  split
  · exact .refl s
  · refine withAccount_pagesKept _ _ fun slot => ?_
    dsimp only
    split
    · exact .refl s
    · exact writtenAccount_pagesKept ..

theorem statusEffect_keepsPages (status : Status) : EffectKeepsPages (statusEffect status) := fun f s => by
  unfold statusEffect
  split
  · exact .refl s
  · refine withAccount_pagesKept _ _ fun slot => ?_
    split
    · exact .refl s
    · exact writtenAccount_pagesKept ..

theorem repairEffect_keepsPages : EffectKeepsPages repairEffect := fun f s => by
  unfold repairEffect
  split
  · exact .refl s
  dsimp only
  split
  · exact .refl s
  split
  · exact .refl s
  · exact enterAccount_pagesKept ..

theorem discardEffect_keepsPages : EffectKeepsPages discardEffect := fun f s => by
  unfold discardEffect
  split
  · exact .refl s
  dsimp only
  split
  · exact .refl s
  · exact .reported (.reported (.of_commit rfl rfl (fun _ => id) id))

theorem nextAttentionEffect_keepsPages : EffectKeepsPages nextAttentionEffect := fun f s => by
  unfold nextAttentionEffect
  split
  · exact .refl s
  · exact .of_commit rfl rfl (fun _ => id) id

theorem bindEffect_keepsPages : EffectKeepsPages bindEffect := fun f s => by
  refine withPoint_pagesKept _ _ fun p => ?_
  split
  · exact .refl s
  split
  · exact .refl s
  split
  · exact .refl s
  · exact PagesKept.reported (.of_commit rfl rfl (fun _ => id) id)

theorem unbindEffect_keepsPages : EffectKeepsPages unbindEffect := fun f s => by
  refine withBoundPoint_pagesKept _ _ fun p => ?_
  split
  · exact .refl s
  · exact PagesKept.reported (.of_commit rfl rfl (fun _ => id) id)

theorem applyRequest_pagesKept (s : State) (r : ApplyRequest) : PagesKept s (s.applyRequest r).1 := by
  unfold State.applyRequest
  split
  · exact .refl s
  split
  · exact .refl s
  split
  · exact .refl s
  split
  · exact .refl s
  · exact (storeBalance_pagesKept ..).trans (.of_blocks rfl rfl rfl rfl)

/-! ### The effects of commands that their blocks answer (R100) -/

theorem bindRefusal_keepsPages : EffectKeepsPages bindRefusal := fun _ s => withPoint_pagesKept _ _ fun _ => .refl s

theorem configureEffect_keepsPages : EffectKeepsPages configureEffect := fun _ s =>
  withPoint_pagesKept _ _ fun _ => by
    split
    · exact .refl s
    · exact PagesKept.reported (.of_blocks rfl rfl rfl rfl)

theorem holdEffect_keepsPages : EffectKeepsPages holdEffect := fun _ _ =>
  withBoundPoint_pagesKept _ _ fun _ => .of_blocks rfl rfl rfl rfl

theorem releaseEffect_keepsPages : EffectKeepsPages releaseEffect := fun _ _ =>
  withBoundPoint_pagesKept _ _ fun _ => .of_blocks rfl rfl rfl rfl

theorem queryPointEffect_keepsPages : EffectKeepsPages queryPointEffect := fun _ s =>
  withPoint_pagesKept _ _ fun _ => .refl s

theorem setDeferEffect_keepsPages : EffectKeepsPages setDeferEffect := fun f s => by
  unfold setDeferEffect State.setDeferral
  split
  · exact .refl s
  split
  · exact .refl s
  split <;> exact .of_blocks rfl rfl rfl rfl

theorem setTariffEffect_keepsPages : EffectKeepsPages setTariffEffect := fun f s => by
  unfold setTariffEffect
  split
  · exact .refl s
  · exact PagesKept.reported (.of_blocks rfl rfl rfl rfl)

theorem setBandEffect_keepsPages : EffectKeepsPages setBandEffect := fun f s => by
  unfold setBandEffect
  split
  · exact .refl s
  · exact .of_blocks rfl rfl rfl rfl

theorem setPeriodEffect_keepsPages : EffectKeepsPages setPeriodEffect := fun f s => by
  unfold setPeriodEffect
  split
  · exact PagesKept.reported (.of_blocks rfl rfl rfl rfl)
  · exact .refl s

theorem setTopupEffect_keepsPages : EffectKeepsPages setTopupEffect := fun f s => by
  unfold setTopupEffect
  split
  · exact .refl s
  · exact PagesKept.reported (.of_blocks rfl rfl rfl rfl)

/-- The pages that a new interval makes due are dirty (R182). -/
theorem setInterval_pagesKept (s : State) (interval : Nat) : PagesKept s (s.setInterval interval) where
  eligible h := by
    refine eligibleDirty_joined h rfl id ?_ (fun page there => ?_) fun page hp => ?_
    · rw [setInterval_eligible]
      exact nodup_joinedAscending h.1 _
    · rw [setInterval_eligible, mem_joinedAscending]
      exact .inl there
    · rw [setInterval_eligible, mem_joinedAscending] at hp
      refine hp.imp_right fun joins => ?_
      cases record : s.commit.dirty[page] with
      | none => simp [record] at joins
      | some r => rfl
  repairs h := repairs_congr h (fun _ => id) rfl rfl rfl rfl

theorem setIntervalEffect_keepsPages : EffectKeepsPages setIntervalEffect := fun f s => by
  unfold setIntervalEffect
  split
  · exact (setInterval_pagesKept ..).reported
  · exact .refl s

theorem markEffect_keepsPages : EffectKeepsPages markEffect := fun _ _ => .of_blocks rfl rfl rfl rfl

end Sys2Proof.Machine.Proofs

namespace Sys2Proof.Machine.Proofs

open Sys2Proof Sys2Proof.Machine Sys2Proof.Machine.Laws

/-! ### The steps of a commit at the marked pages (R171, R177 to R180, R209) -/

/-- A set of one page holds that page alone. -/
theorem pageBit_getLsbD (page q : Fin 9) : (pageBit page).getLsbD q.val = decide (q = page) := by
  revert page q
  decide

/-- The marks that a verified commit leaves (R209). -/
theorem unmarked_getLsbD (set : BitVec 9) (page q : Fin 9) :
    (set &&& ~~~pageBit page).getLsbD q.val = (set.getLsbD q.val && decide (q ≠ page)) := by
  rw [BitVec.getLsbD_and, BitVec.getLsbD_not, pageBit_getLsbD, decide_eq_true q.isLt, Bool.true_and, decide_not]

theorem marked_getLsbD (set : BitVec 9) (page q : Fin 9) :
    (set ||| pageBit page).getLsbD q.val = (set.getLsbD q.val || decide (q = page)) := by
  rw [BitVec.getLsbD_or, pageBit_getLsbD]

/-- The page written reads as it was written, and every other page as before. -/
theorem nv_set (nv : Vector NvPage 9) (page q : Fin 9) (written : NvPage) :
    (nv.set page written)[q] = if page = q then written else nv[q] := by
  simp only [Fin.getElem_fin, Vector.getElem_set, Fin.ext_iff]

/-- Outside VERIFY every marked page is damaged: it is enough that a step leaves a damaged page damaged and marks no other. -/
theorem repairs_of_damaged {s t : State} (h : RepairsUnverified s) (phase : ∀ page, s.commit.phase ≠ .verify page)
    (gather : ∀ page, t.engine.op ≠ .busy (.gather page)) (unverified : t.commit.unverified = s.commit.unverified)
    (nv : ∀ page : Fin 9, s.nv[page] = .damaged → t.nv[page] = .damaged) : RepairsUnverified t :=
  ⟨fun page gathering => absurd gathering (gather page),
    fun page marked => .inl (nv page (damaged_of_marked h (unverified ▸ marked) (phase page)))⟩

theorem commitStart_pagesKept {s : State} {page : Fin 9} (idle : s.commit.phase = .idle) :
    PagesKept s (if page = settingsPage then s.fixSnapshot settingsPage s.gatherSettings
      else { s with commit.phase := .gather page }) := by
  have noGather (h : RepairsUnverified s) (page : Fin 9) : s.engine.op ≠ .busy (.gather page) :=
    not_gathering h (by simp [idle]) page
  split
  · exact ⟨fun h => fixSnapshot_eligibleDirty h _ _,
      fun h => repairs_of_damaged h (by simp [idle]) (noGather h) rfl fun _ => id⟩
  · exact ⟨fun h => eligibleDirty_congr h rfl rfl id,
      fun h => repairs_of_damaged h (by simp [idle]) (noGather h) rfl fun _ => id⟩

/-- The GATHER that completes is that of the commit under way, which is not in VERIFY (R178). -/
theorem gathered_pagesKept {s : State} {page : Fin 9} (op : s.engine.op = .busy (.gather page))
    (contents : PageContents) : PagesKept s (s.freeEngine.fixSnapshot page contents) where
  eligible h := fixSnapshot_eligibleDirty ((freeEngine_pagesKept s).eligible h) page contents
  repairs h := repairs_of_damaged h (by simp [h.1 page op]) nofun rfl fun _ => id

theorem erased_pagesKept {s : State} {page : Fin 9} (phase : s.commit.phase = .erase page) :
    PagesKept s { s with nv := s.nv.set page .damaged, commit.phase := .program page } where
  eligible h := eligibleDirty_congr h rfl rfl id
  repairs h := by
    have idle := not_gathering h (by simp [phase])
    refine repairs_of_damaged h (by simp [phase]) idle rfl fun q damaged => ?_
    rw [nv_set, damaged, ite_self]

/-- A program leaves the snapshot, for VERIFY to find there, or damage (R171, R179). -/
theorem programmed_pagesKept {s : State} {page : Fin 9} (written : Bool) (phase : s.commit.phase = .program page) :
    PagesKept s { s with nv := s.nv.set page (programmed written s.commit.snapshot), commit.phase := .verify page } where
  eligible h := eligibleDirty_congr h rfl rfl id
  repairs h := by
    refine ⟨fun q op => absurd op (not_gathering h (by simp [phase]) q), fun q marked => ?_⟩
    have damaged := damaged_of_marked h marked (by simp [phase])
    dsimp only
    rw [nv_set]
    split
    · rename_i same
      subst same
      unfold programmed
      split
      · rename_i contents snapshot
        exact .inr ⟨rfl, contents, snapshot, rfl⟩
      · exact .inl rfl
    · exact .inl damaged

/-- The page verified loses its mark, and every other marked page is damaged (R209). -/
theorem verified_pagesKept {s : State} {page : Fin 9} (phase : s.commit.phase = .verify page) :
    PagesKept s (s.markVerified page).endCommit where
  eligible h := eligibleDirty_congr h rfl rfl id
  repairs h := by
    refine ⟨fun q op => absurd op (not_gathering h (by simp [phase]) q), fun q marked => ?_⟩
    have marks : (s.commit.unverified &&& ~~~pageBit page).getLsbD q.val = true := marked
    rw [unmarked_getLsbD, Bool.and_eq_true, decide_eq_true_eq] at marks
    exact .inl (damaged_of_marked h marks.1 (by simp [phase, marks.2.symm]))

/-- A page that does not verify is damaged when it is marked (R171). -/
theorem damaged_of_not_verifies {s : State} (h : RepairsUnverified s) {page : Fin 9}
    (differs : s.verifies page = false) {q : Fin 9} (phase : s.commit.phase = .verify page)
    (marked : s.commit.unverified.getLsbD q.val = true) : s.nv[q] = .damaged := by
  refine (h.2 q marked).resolve_right ?_
  rintro ⟨at_q, contents, snapshot, good⟩
  obtain rfl : page = q := CommitPhase.verify.inj (phase.symm.trans at_q)
  simp [State.verifies, snapshot, good] at differs

theorem retried_pagesKept {s : State} {page : Fin 9} (phase : s.commit.phase = .verify page)
    (differs : s.verifies page = false) :
    PagesKept s { s with commit.phase := .erase page, commit.retried := true } where
  eligible h := eligibleDirty_congr h rfl rfl id
  repairs h := ⟨fun q op => absurd op (not_gathering h (by simp [phase]) q),
    fun _ marked => .inl (damaged_of_not_verifies h differs phase marked)⟩

theorem endCommit_eligibleDirty {s : State} (h : EligibleDirty s) : EligibleDirty s.endCommit :=
  eligibleDirty_congr h rfl rfl id

theorem returnFailed_unverified (s : State) (page : Fin 9) :
    (s.returnFailed page).commit.unverified = s.commit.unverified := by
  unfold State.returnFailed
  split <;> rfl

theorem commitFailed_pagesKept {s : State} {page : Fin 9} (phase : s.commit.phase = .verify page)
    (differs : s.verifies page = false) : PagesKept s (s.commitFailed page) where
  eligible h := by
    refine endCommit_eligibleDirty (returnFailed_eligibleDirty ?_ page)
    exact eligibleDirty_congr h rfl rfl id
  repairs h := by
    have unverified : (s.commitFailed page).commit.unverified = s.commit.unverified := returnFailed_unverified _ page
    refine ⟨fun q op => ?_, fun q marked => .inl ?_⟩
    · simp only [State.commitFailed, endCommit_engine, returnFailed_engine] at op
      exact absurd op (not_gathering h (by simp [phase]) q)
    · rw [unverified] at marked
      simp only [State.commitFailed, endCommit_nv, returnFailed_nv]
      rw [nv_set, damaged_of_not_verifies h differs phase marked, ite_self]

/-- The wanted marks are no matter of the invariants (R183). -/
theorem settleWanted_pagesKept (s : State) (page : Fin 9) (succeeded : Bool) :
    PagesKept s (s.settleWanted page succeeded) := by
  unfold State.settleWanted State.finishCommit
  split
  · exact .refl s
  dsimp only
  split
  · split <;> exact pagesKept_of_fields rfl rfl rfl rfl rfl rfl (fun _ => id) id
  · exact pagesKept_of_fields rfl rfl rfl rfl rfl rfl (fun _ => id) id

end Sys2Proof.Machine.Proofs

namespace Sys2Proof.Machine.Proofs

open Sys2Proof Sys2Proof.Machine Sys2Proof.Machine.Laws

/-! ### Load: what an account page leaves as it is (R187) -/

/-- Nothing but the engine and the Notice Controller has changed. -/
def SlotsLoad (s t : State) : Prop := ∃ engine notice, t = { s with engine, notice }

theorem SlotsLoad.trans {s t u : State} (h : SlotsLoad s t) (h' : SlotsLoad t u) : SlotsLoad s u := by
  obtain ⟨_, _, rfl⟩ := h
  obtain ⟨engine, notice, rfl⟩ := h'
  exact ⟨engine, notice, rfl⟩

theorem loadAccount_loads (s : State) (slot : Fin 64) (stored : StoredAccount) (status : Status) :
    SlotsLoad s (s.loadAccount slot stored status) := by
  unfold State.loadAccount
  dsimp only
  split
  · exact ⟨_, s.notice, rfl⟩
  · exact ⟨_, _, rfl⟩

theorem loadSlot_loads (s : State) (slot : Fin 64) (stored : StoredAccount) :
    SlotsLoad s (s.loadSlot slot stored) := by
  unfold State.loadSlot
  split
  · exact ⟨_, s.notice, rfl⟩
  split
  · exact loadAccount_loads ..
  split
  · exact loadAccount_loads ..
  split
  · exact ⟨_, s.notice, rfl⟩
  · exact ⟨_, _, rfl⟩

theorem foldl_slotsLoad {f : State → Fin 8 → State} (h : ∀ s j, SlotsLoad s (f s j)) (js : List (Fin 8)) (s : State) :
    SlotsLoad s (js.foldl f s) := by
  induction js generalizing s with
  | nil => exact ⟨s.engine, s.notice, rfl⟩
  | cons j js ih => exact (h s j).trans (ih _)

theorem quarantinePage_loads (s : State) (page : Fin 8) : SlotsLoad s (s.quarantinePage page) := by
  unfold State.quarantinePage
  exact foldl_slotsLoad (fun u j => ⟨_, _, rfl⟩) _ s

/-- A damaged page is marked, and beside the mark load of a page reaches engine and Notice Controller alone (R209). -/
theorem applyAccountPage_loads (s : State) (page : Fin 8) :
    SlotsLoad (if s.nv[page.castSucc] = .damaged then s.markDamaged page.castSucc else s) (s.applyAccountPage page) := by
  unfold State.applyAccountPage
  cases held : s.nv[page.castSucc] with
  | erased => exact foldl_slotsLoad (fun u j => ⟨_, u.notice, rfl⟩) _ s
  | good content =>
    cases content with
    | accounts stored => exact foldl_slotsLoad (fun u j => loadSlot_loads ..) _ s
    | settings stored => exact quarantinePage_loads s page
  | damaged => exact quarantinePage_loads _ page

theorem applyAccountPage_commit (s : State) (page : Fin 8) :
    (s.applyAccountPage page).commit = { s.commit with
      unverified := if s.nv[page.castSucc] = .damaged then s.commit.unverified ||| pageBit page.castSucc
        else s.commit.unverified } := by
  obtain ⟨engine, notice, applied⟩ := applyAccountPage_loads s page
  rw [applied]
  split <;> rfl

theorem applyAccountPage_nv (s : State) (page : Fin 8) : (s.applyAccountPage page).nv = s.nv := by
  obtain ⟨engine, notice, applied⟩ := applyAccountPage_loads s page
  rw [applied]
  split <;> rfl

/-- The mark a damaged page takes is that of a damaged page. -/
theorem applyAccountPage_pagesKept (s : State) (page : Fin 8) : PagesKept s (s.applyAccountPage page) := by
  have frame := applyAccountPage_frame s page
  have nv := applyAccountPage_nv s page
  have commit := applyAccountPage_commit s page
  have gather : NoGather s (s.applyAccountPage page) := fun q h => by rwa [frame.op] at h
  have warned : (s.applyAccountPage page).warned = true → s.warned = true := fun h => by
    rwa [State.warned, frame.run] at h
  by_cases damaged : s.nv[page.castSucc] = .damaged
  · rw [if_pos damaged] at commit
    refine ⟨fun h => eligibleDirty_congr h (by rw [commit]) (by rw [commit]) warned,
      fun h => ⟨fun q op => ?_, fun q marked => ?_⟩⟩
    · rw [commit]
      exact h.1 q (gather q op)
    · rw [commit] at marked
      have marks : (s.commit.unverified ||| pageBit page.castSucc).getLsbD q.val = true := marked
      rw [marked_getLsbD, Bool.or_eq_true, decide_eq_true_eq] at marks
      simp only [commit, nv]
      rcases marks with was | rfl
      · exact h.2 q was
      · exact .inl damaged
  · rw [if_neg damaged] at commit
    exact .of_commit commit nv gather warned

@[simp] theorem countBindings_nv (s : State) (page : Fin 8) : (s.countBindings page).nv = s.nv := by
  simp only [State.countBindings]

theorem reconcile_pagesKept (s : State) (page : Fin 8) : PagesKept s (s.reconcile page) := by
  have counted : PagesKept s ((s.mapPoints (s.reconciled page)).countBindings page) :=
    .of_commit (by simp) (by simp) (fun q h => by rwa [countBindings_op] at h) fun h => by simpa [State.warned] using h
  rcases reconcile_cases s page with h | h <;> rw [h]
  · exact counted.reported
  · exact counted

/-! ### The Run Controller's rows (chapter 10) -/

/-- Reset values: no page dirty, none marked, and no operation in progress (R172, R190). -/
theorem pagesKept_of_reset {s t : State} (commit : t.commit = CommitEngine.atReset)
    (engine : t.engine = AccountEngine.atReset) : PagesKept s t where
  eligible _ := by
    have clean (page : Fin 9) : CommitEngine.atReset.dirty[page] = none := by simp [CommitEngine.atReset]
    refine ⟨by rw [commit]; exact List.nodup_nil, fun page hp => ?_, fun page r hr => ?_⟩
    · rw [commit] at hp
      exact absurd hp List.not_mem_nil
    · simp only [commit] at hr
      rw [clean] at hr
      cases hr
  repairs _ := by
    refine ⟨fun page op => ?_, fun page marked => ?_⟩
    · rw [engine] at op
      cases op
    · rw [commit] at marked
      simp [CommitEngine.atReset] at marked

/-- Every dirty page becomes urgent as HOLDUP begins (R194). -/
theorem enterHoldupBlocks_pagesKept (s : State) : PagesKept s s.enterHoldupBlocks := by
  unfold State.enterHoldupBlocks
  dsimp only
  refine PagesKept.trans ⟨fun h => makeAllUrgent_eligibleDirty (t := { s with
    run := { s.run with runState := .holdup, loadPage := 0 }, notice := { s.notice with power := true } }) h rfl,
    fun h => repairs_congr h (fun _ => id) rfl rfl rfl rfl⟩ (.of_blocks ?_ ?_ ?_ ?_)
  all_goals simp

theorem enterHoldup_pagesKept (s : State) (conditionFirst : Bool) : PagesKept s (s.enterHoldup conditionFirst) := by
  unfold State.enterHoldup
  dsimp only
  refine (settleHandedWait_pagesKept s).trans ?_
  split
  · exact (enterHoldupBlocks_pagesKept _).trans ((retestWait_pagesKept _).trans (breakWait_pagesKept ..))
  · exact (breakWait_pagesKept ..).trans (enterHoldupBlocks_pagesKept _)

theorem endLoading_pagesKept (s : State) : PagesKept s s.endLoading := by
  have loaded : PagesKept s { s with timer.remaining := s.timer.periodLength, run.loadPage := 0 } :=
    .of_commit rfl rfl (fun _ => id) id
  unfold State.endLoading
  dsimp only
  split
  · exact loaded.trans (enterHoldup_pagesKept ..)
  · exact .of_commit rfl rfl (fun _ => id) fun h => by simp [State.warned] at h

theorem settingsDamaged_pagesKept (s : State) : PagesKept s s.settingsDamaged := by
  unfold State.settingsDamaged
  exact .reported (.of_blocks rfl rfl rfl rfl)

theorem applySettingsPage_pagesKept (s : State) : PagesKept s s.applySettingsPage := by
  have taken (stored : StoredSettings) : PagesKept s (s.takeSettings stored) :=
    pagesKept_of_fields rfl rfl rfl rfl rfl rfl (fun _ => id) id
  have damaged (stored : StoredSettings) : PagesKept s (s.takeSettings stored).settingsDamaged :=
    (taken stored).trans (settingsDamaged_pagesKept _)
  unfold State.applySettingsPage
  split
  · exact taken _
  · split
    · exact damaged _
    · exact taken _
  · exact damaged _
  · exact damaged _

/-- The two invariants of the pages hold of the next state. -/
def KeepsPages (s : State) : Host.Outcome State Fault Refusal → Prop
  | .next t => PagesKept s t
  | .fault _ => True
  | .refused _ => True

theorem loadingStart_pages (s : State) : KeepsPages s (exec .loadingStart s) :=
  PagesKept.ite (pagesKept_of_reset rfl rfl)

theorem loadSettingsPage_pages (s : State) : KeepsPages s (exec .loadSettingsPage s) := by
  unfold KeepsPages
  simp only [exec, execLoadSettingsPage]
  split
  · rename_i due
    refine (applySettingsPage_pagesKept s).trans (.of_commit rfl rfl (fun _ => id) fun h => ?_)
    simp [State.warned, due.1] at h
  · exact .refl s

theorem loadAccountPage_pages (s : State) : KeepsPages s (exec .loadAccountPage s) := by
  unfold KeepsPages
  simp only [exec, execLoadAccountPage]
  split
  · rename_i page _ _
    have taken : PagesKept s ((s.applyAccountPage page).reconcile page) :=
      (applyAccountPage_pagesKept s page).trans (reconcile_pagesKept _ page)
    split
    · exact taken.trans (endLoading_pagesKept _)
    · exact taken.trans (.of_commit rfl rfl (fun _ => id) id)
  · exact .refl s

theorem entryToHoldup_pages (conditionFirst : Bool) (s : State) :
    KeepsPages s (exec (.entryToHoldup conditionFirst) s) := by
  have asserted : PagesKept s { s with run.pfwAsserted := true } := .of_commit rfl rfl (fun _ => id) id
  unfold KeepsPages
  simp only [exec, execEntryToHoldup]
  split
  · exact asserted.trans (enterHoldup_pagesKept ..)
  · exact asserted

/-- In HOLDUP every dirty page is urgent already. -/
theorem entryToSafe_pages (s : State) : KeepsPages s (exec .entryToSafe s) := by
  unfold KeepsPages
  simp only [exec, execEntryToSafe]
  split
  · rename_i due
    exact .of_commit rfl rfl (fun _ => id) fun _ => by simp [State.warned, due.1]
  · exact .refl s

theorem returnToRun_pages (s : State) : KeepsPages s (exec .returnToRun s) := by
  unfold KeepsPages
  simp only [exec, execReturnToRun]
  split
  · unfold State.resumeSweep State.startSweep
    split
    · exact .of_commit rfl rfl (fun _ => id) fun h => by simp [State.warned] at h
    · exact .of_commit rfl rfl (fun _ => id) fun h => by simp [State.warned] at h
    · split <;> exact .of_commit rfl rfl (fun _ => id) fun h => by simp [State.warned] at h
  · exact .of_commit rfl rfl (fun _ => id) id

end Sys2Proof.Machine.Proofs

namespace Sys2Proof.Machine.Proofs

open Sys2Proof Sys2Proof.Machine Sys2Proof.Machine.Laws

/-! ### Ticks at the pages (sections 3.5, 4.2, 5.6, 9.2) -/

theorem takeBoundary_pagesKept (s : State) : PagesKept s s.takeBoundary := by
  obtain ⟨proc, taken⟩ := takeBoundary_blocks s
  rw [taken]
  unfold boundaryTaken
  exact .of_blocks rfl rfl rfl rfl

theorem tickPeriod_pagesKept (s : State) : PagesKept s s.tickPeriod := by
  unfold State.tickPeriod
  split
  · exact takeBoundary_pagesKept s
  · exact .of_blocks rfl rfl rfl rfl

theorem tickWait_pagesKept (s : State) : PagesKept s s.tickWait := by
  unfold State.tickWait
  split
  · split
    · exact .refl s
    · split <;> exact .of_blocks rfl rfl rfl rfl
  · exact .refl s

theorem tickCommit_pagesKept (s : State) : PagesKept s s.tickCommit where
  eligible := tickCommit_eligibleDirty
  repairs h := repairs_congr h (fun _ => id) rfl rfl rfl rfl

theorem tick_pages (conditionFirst : Bool) (s : State) : KeepsPages s (exec (.tick conditionFirst) s) := by
  have aged : PagesKept s s.tickPoints.tickCommit :=
    PagesKept.trans (t := s.tickPoints) (.of_blocks rfl rfl rfl rfl) (tickCommit_pagesKept _)
  unfold KeepsPages
  simp only [exec, execTick]
  split
  · split
    · exact aged.trans ((tickPeriod_pagesKept _).trans (tickWait_pagesKept _))
    · exact aged.trans ((tickWait_pagesKept _).trans (tickPeriod_pagesKept _))
  · exact .ite (tickCommit_pagesKept s)

/-- The routine page that joins is dirty (R174). -/
theorem routinePageEligible_pages (page : Fin 9) (s : State) : KeepsPages s (exec (.routinePageEligible page) s) := by
  unfold KeepsPages
  simp only [exec, execRoutinePageEligible]
  split
  · rename_i r record
    refine .ite ⟨fun h => ?_, fun h => repairs_congr h (fun _ => id) rfl rfl rfl rfl⟩
    refine eligibleDirty_joined h rfl id (nodup_joinEligible page _ h.1)
      (fun q there => (mem_joinEligible ..).mpr (.inr there)) fun q hq => ?_
    rcases (mem_joinEligible ..).mp hq with rfl | there
    · exact .inr (by rw [record]; rfl)
    · exact .inl there
  · exact .refl s

theorem waitTimeout_pages (s : State) : KeepsPages s (exec .waitTimeout s) := by
  unfold KeepsPages
  simp only [exec, execWaitTimeout]
  split
  · exact .ite (.of_blocks rfl rfl rfl rfl)
  · exact .refl s

/-! ### The engine's own rows (chapter 2) -/

/-- A GATHER waits for the commit under way alone (R178). -/
theorem gatherWaits_phase {s : State} {page : Fin 9} (h : s.gatherWaits = some page) : s.commit.phase = .gather page := by
  unfold State.gatherWaits at h
  split at h
  · cases h
  · rename_i phase _
    rw [phase, Option.some.inj h]
  · cases h

theorem startOperation_pagesKept (s : State) (op : EngineOperation)
    (gather : ∀ page, op = .gather page → s.commit.phase = .gather page) : PagesKept s (s.startOperation op) where
  eligible h := eligibleDirty_congr h rfl rfl id
  repairs h := ⟨fun page started => gather page (EngineState.busy.inj started), h.2⟩

theorem startCharge_pagesKept (s : State) (p : Fin 16) : PagesKept s (s.startCharge p) := by
  unfold State.startCharge
  split
  · exact startOperation_pagesKept s _ nofun
  · exact .refl s

theorem grant_pagesKept (s : State) : PagesKept s s.grant := by
  unfold State.grant
  split
  · exact (startOperation_pagesKept s _ (by nofun)).trans (.of_blocks rfl rfl rfl rfl)
  split
  · exact startCharge_pagesKept ..
  split
  · rename_i waits
    refine startOperation_pagesKept s _ fun q same => ?_
    rw [gatherWaits_phase waits, EngineOperation.gather.inj same]
  split
  · exact (startOperation_pagesKept s _ (by nofun)).trans (.of_blocks rfl rfl rfl rfl)
  split
  · exact startOperation_pagesKept s _ nofun
  · exact .refl s

theorem reducePending_pagesKept (s : State) (p : Fin 16) (n : Nat) : PagesKept s (s.reducePending p n) :=
  .of_blocks rfl rfl rfl rfl

theorem tallyCharge_pagesKept (s : State) (p : Fin 16) (n amount : Nat) : PagesKept s (s.tallyCharge p n amount) :=
  .of_blocks (by simp) (by simp) (by simp) (by simp)

theorem advanceSweep_pagesKept (s : State) : PagesKept s s.advanceSweep :=
  .of_blocks (by simp) (by simp) (by simp) (by simp)

theorem charge_pages (s : State) : KeepsPages s (exec .charge s) := by
  unfold KeepsPages
  simp only [exec, execCharge]
  split
  · exact (freeEngine_pagesKept s).trans ((takeCharge_pagesKept ..).trans ((reducePending_pagesKept ..).trans
      ((tallyCharge_pagesKept ..).trans (retestWait_pagesKept _))))
  · exact .refl s

theorem standing_pages (s : State) : KeepsPages s (exec .standing s) := by
  unfold KeepsPages
  simp only [exec, execStanding]
  split
  · refine (freeEngine_pagesKept s).trans (.trans ?_ ((advanceSweep_pagesKept _).trans (retestWait_pagesKept _)))
    exact .ite (takeCharge_pagesKept ..)
  · exact .refl s

theorem applyFrame_pages (s : State) : KeepsPages s (exec .applyFrame s) := by
  unfold KeepsPages
  simp only [exec, execApplyFrame]
  split
  · rename_i request owned _
    have replied (u : State) (reply : List Byte) : PagesKept u (State.answerKiosk u owned reply).retestWait :=
      PagesKept.trans (PagesKept.ite (setPort_pagesKept ..)) (retestWait_pagesKept _)
    exact (freeEngine_pagesKept s).trans ((applyRequest_pagesKept _ request).trans (replied _ _))
  · exact .refl s

theorem gather_pages (s : State) : KeepsPages s (exec .gather s) := by
  unfold KeepsPages
  simp only [exec, execGather]
  split
  · rename_i op
    split
    · exact (gathered_pagesKept op _).trans (retestWait_pagesKept _)
    · exact .refl s
  · exact .refl s

/-! ### The Command Processor (chapter 5) -/

theorem completeCommand_pagesKept (s : State) (code : Byte) {effect : Vector Word 7 → State → State × Answer}
    (keeps : EffectKeepsPages effect) : PagesKept s (s.completeCommand code effect) := by
  unfold State.completeCommand
  split
  · rename_i cmd owned _
    refine .ite ((freeEngine_pagesKept s).trans ((keeps cmd.params _).trans (.trans ?_ (retestWait_pagesKept _))))
    exact .ite (.of_blocks rfl rfl rfl rfl)
  · exact .refl s

theorem takeCommand_pagesKept (s : State) (code : Byte) {effect : Vector Word 7 → State → State × Answer}
    (keeps : EffectKeepsPages effect) : PagesKept s (s.takeCommand code effect) := by
  unfold State.takeCommand
  split
  · exact .ite ((keeps _ s).trans (.of_blocks rfl rfl rfl rfl))
  · exact .refl s

theorem submitted_pagesKept (s : State) (value : Word) : PagesKept s (s.submitted value) := by
  unfold State.submitted
  split <;> exact .of_blocks rfl rfl rfl rfl

theorem popped_pagesKept (s : State) : PagesKept s s.popped := by
  unfold State.popped
  split <;> exact .of_blocks rfl rfl rfl rfl

/-- A GATHER has no requester to lose (R45). -/
theorem disowned_gather {op : EngineState} {page : Fin 9} (h : op.disowned = .busy (.gather page)) :
    op = .busy (.gather page) := by
  cases op with
  | free => cases h
  | busy o =>
    cases o with
    | gather q => exact h
    | applyFrame request owned => cases h
    | charge p n slot price => cases h
    | command cmd owned => cases h
    | standing slot standingCharge => cases h

theorem portReset_pagesKept (s : State) : PagesKept s s.portReset :=
  pagesKept_of_fields rfl rfl rfl rfl rfl rfl (fun _ h => disowned_gather h) id

theorem purged_pagesKept (s : State) : PagesKept s s.purged :=
  (settleHandedWait_pagesKept s).trans
    (PagesKept.trans (t := { s.settleHandedWait with proc := { s.settleHandedWait.proc with queue := [] } })
      (.of_blocks rfl rfl rfl rfl) (breakWait_pagesKept _ .purged))

theorem controlWrite_pagesKept (s : State) (value : Word) : PagesKept s (s.controlWrite value) := by
  unfold State.controlWrite
  split
  · exact portReset_pagesKept s
  · exact .ite (purged_pagesKept s)

theorem commandStart_pages (s : State) : KeepsPages s (exec .commandStart s) := by
  unfold KeepsPages
  simp only [exec, execCommandStart]
  split
  · exact .ite (.of_blocks rfl rfl rfl rfl)
  · exact .refl s

theorem badCommand_pages (s : State) : KeepsPages s (exec .badCommand s) := by
  unfold KeepsPages
  simp only [exec, execBadCommand]
  split
  · split
    · exact .refl s
    · exact .of_blocks rfl rfl rfl rfl
  · exact .refl s

theorem bind_pages (s : State) : KeepsPages s (exec .bind s) := by
  have refused := takeCommand_pagesKept s 0x10 bindRefusal_keepsPages
  unfold KeepsPages
  simp only [exec, execBind]
  split
  · split
    · exact completeCommand_pagesKept s 0x10 bindEffect_keepsPages
    · exact refused
  · exact refused

theorem unbind_pages (s : State) : KeepsPages s (exec .unbind s) := by
  unfold KeepsPages
  simp only [exec, execUnbind]
  split
  · split
    · split
      · exact .of_blocks rfl rfl rfl rfl
      · split <;> exact .of_blocks rfl rfl rfl rfl
    · exact .refl s
  · exact .refl s

theorem unbindDetach_pages (s : State) : KeepsPages s (exec .unbindDetach s) := by
  have detached := completeCommand_pagesKept s 0x11 unbindEffect_keepsPages
  unfold KeepsPages
  simp only [exec, execUnbindDetach]
  split
  · exact detached.trans (.of_blocks rfl rfl rfl rfl)
  · exact detached

/-! ### The Commit Engine (chapter 9) -/

theorem takeCommit_pagesKept (s : State) (cmd : QueuedCommand) : PagesKept s (s.takeCommit cmd) := by
  unfold State.takeCommit
  dsimp only
  refine (makeAllUrgent_pagesKept s).trans ?_
  split <;> exact pagesKept_of_fields rfl rfl rfl rfl rfl rfl (fun _ => id) id

theorem commit_pages (s : State) : KeepsPages s (exec .commit s) := by
  unfold KeepsPages
  simp only [exec, execCommit]
  split
  · exact .ite (takeCommit_pagesKept ..)
  · exact .refl s

theorem commitStart_pages (s : State) : KeepsPages s (exec .commitStart s) := by
  unfold KeepsPages
  simp only [exec, execCommitStart]
  split
  · rename_i idle _
    exact .ite (commitStart_pagesKept idle)
  · exact .refl s

theorem eraseComplete_pages (s : State) : KeepsPages s (exec .eraseComplete s) := by
  unfold KeepsPages
  simp only [exec, execEraseComplete]
  split
  · rename_i phase
    exact erased_pagesKept phase
  · exact .refl s

theorem programComplete_pages (written : Bool) (s : State) : KeepsPages s (exec (.programComplete written) s) := by
  unfold KeepsPages
  simp only [exec, execProgramComplete]
  split
  · rename_i phase
    exact programmed_pagesKept written phase
  · exact .refl s

theorem verifyComplete_pages (s : State) : KeepsPages s (exec .verifyComplete s) := by
  have settled (u : State) (page : Fin 9) (succeeded : Bool) : PagesKept u (u.settleWanted page succeeded).retestWait :=
    (settleWanted_pagesKept ..).trans (retestWait_pagesKept _)
  unfold KeepsPages
  simp only [exec, execVerifyComplete]
  split
  · rename_i page phase
    cases verifies : s.verifies page with
    | true => exact (verified_pagesKept phase).trans (settled _ _ _)
    | false =>
      simp only [Bool.false_eq_true, if_false]
      split
      · exact (commitFailed_pagesKept phase verifies).trans (settled _ _ _)
      · exact retried_pagesKept phase verifies
  · exact .refl s

/-! ### The Top-up Port, notices and the register port (chapters 7, 8 and 11) -/

/-- A register access is served, or changes nothing. -/
theorem served_pages {s u : State} (h : PagesKept s u) : KeepsPages s (.next (if s.served then u else s)) := .ite h

theorem setPort_retest_pages (s : State) (port : TopUpPort) : KeepsPages s (.next (s.setPort port).retestWait) :=
  (setPort_pagesKept s port).trans (retestWait_pagesKept _)

theorem collision_pages (bit : Fin 8) (s : State) : KeepsPages s (exec (.collision bit) s) :=
  PagesKept.ite (setPort_retest_pages s s.port.toIdle)

theorem writeNoticeMode_pagesKept (s : State) (value : Word) : PagesKept s (s.writeNoticeMode value) := by
  unfold State.writeNoticeMode
  split
  · split
    · exact .refl s
    · exact .of_blocks rfl rfl rfl rfl
  · exact .of_blocks rfl rfl rfl rfl

theorem writeNoticeDone_pagesKept (s : State) : PagesKept s s.writeNoticeDone := by
  unfold State.writeNoticeDone
  split
  · exact .of_blocks rfl rfl rfl rfl
  · exact .refl s

theorem readRegister_pagesKept (s : State) (offset : BitVec 7) : PagesKept s (s.readRegister offset) := by
  have effect : PagesKept s (s.readEffect offset) := by
    unfold State.readEffect State.pushTaken
    split
    · split
      · exact .of_blocks rfl rfl rfl rfl
      · exact .refl s
    · split
      · exact .refl s
      · exact .of_blocks rfl rfl rfl rfl
  exact effect.trans (.of_blocks rfl rfl rfl rfl)

theorem writeRegister_pagesKept (s : State) (offset : Nat) (value : Word) : PagesKept s (s.writeRegister offset value) := by
  unfold State.writeRegister
  split
  · exact .of_blocks rfl rfl rfl rfl
  · exact .of_blocks rfl rfl rfl rfl
  · split
    · exact controlWrite_pagesKept ..
    · exact .of_blocks rfl rfl rfl rfl
    · exact submitted_pagesKept ..
    · exact popped_pagesKept s
    · exact .of_blocks rfl rfl rfl rfl
    · exact .of_blocks rfl rfl rfl rfl
    · exact writeNoticeMode_pagesKept ..
    · exact writeNoticeDone_pagesKept s
    · exact .of_blocks rfl rfl rfl rfl

/-! ### Every command -/

theorem exec_pages (c : Instr) (s : State) : KeepsPages s (exec c s) := by
  have engineServed {code effect} (keeps : EffectKeepsPages effect) : KeepsPages s (.next (s.completeCommand code effect)) :=
    completeCommand_pagesKept s code keeps
  have taken {code effect} (keeps : EffectKeepsPages effect) : KeepsPages s (.next (s.takeCommand code effect)) :=
    takeCommand_pagesKept s code keeps
  have ported (port : TopUpPort) : KeepsPages s (.next (s.setPort port)) := setPort_pagesKept s port
  have pointed {c : Prop} [Decidable c] (p : Fin 16) (r : Point) : KeepsPages s (.next (if c then s.setPoint p r else s)) :=
    PagesKept.ite (.of_blocks rfl rfl rfl rfl)
  cases c with
  | reset => exact pagesKept_of_reset rfl rfl
  | loadingStart => exact loadingStart_pages s
  | loadSettingsPage => exact loadSettingsPage_pages s
  | loadAccountPage => exact loadAccountPage_pages s
  | entryToHoldup conditionFirst => exact entryToHoldup_pages conditionFirst s
  | entryToSafe => exact entryToSafe_pages s
  | returnToRun => exact returnToRun_pages s
  | tick conditionFirst => exact tick_pages conditionFirst s
  | periodBoundary => exact PagesKept.ite (takeBoundary_pagesKept s)
  | graceExpiry p => exact pointed p _
  | routinePageEligible page => exact routinePageEligible_pages page s
  | waitTimeout => exact waitTimeout_pages s
  | meterLineChange p => exact PagesKept.of_blocks rfl rfl rfl rfl
  | debounceComplete p => exact pointed p _
  | engineGrant => exact PagesKept.ite (grant_pagesKept s)
  | charge => exact charge_pages s
  | standing => exact standing_pages s
  | applyFrame => exact applyFrame_pages s
  | gather => exact gather_pages s
  | submit value => exact served_pages (submitted_pagesKept s value)
  | commandStart => exact commandStart_pages s
  | badCommand => exact badCommand_pages s
  | pop value => exact served_pages (popped_pagesKept s)
  | purge value => exact served_pages (controlWrite_pagesKept s value)
  | portReset value => exact served_pages (controlWrite_pagesKept s value)
  | wait => exact settleHandedWait_pagesKept s
  | mark => exact taken markEffect_keepsPages
  | openAccount => exact engineServed openEffect_keepsPages
  | closeAccount => exact engineServed closeEffect_keepsPages
  | credit => exact engineServed creditEffect_keepsPages
  | debit => exact engineServed debitEffect_keepsPages
  | transfer => exact engineServed transferEffect_keepsPages
  | query => exact engineServed (keepsPages_of_state queryEffect_state)
  | querySlot => exact engineServed (keepsPages_of_state querySlotEffect_state)
  | scan => exact engineServed (keepsPages_of_state scanEffect_state)
  | amend => exact engineServed amendEffect_keepsPages
  | suspend => exact engineServed (statusEffect_keepsPages .suspended)
  | resume => exact engineServed (statusEffect_keepsPages .active)
  | repair => exact engineServed repairEffect_keepsPages
  | discard => exact engineServed discardEffect_keepsPages
  | nextAttention => exact engineServed nextAttentionEffect_keepsPages
  | bind => exact bind_pages s
  | unbind => exact unbind_pages s
  | unbindDetach => exact unbindDetach_pages s
  | configurePoint => exact taken configureEffect_keepsPages
  | hold => exact taken holdEffect_keepsPages
  | release => exact taken releaseEffect_keepsPages
  | queryPoint => exact taken queryPointEffect_keepsPages
  | setDefer => exact taken setDeferEffect_keepsPages
  | setTariff => exact taken setTariffEffect_keepsPages
  | setBand => exact taken setBandEffect_keepsPages
  | setPeriod => exact taken setPeriodEffect_keepsPages
  | setTopup => exact taken setTopupEffect_keepsPages
  | setInterval => exact taken setIntervalEffect_keepsPages
  | commit => exact commit_pages s
  | commitStart => exact commitStart_pages s
  | eraseComplete => exact eraseComplete_pages s
  | programComplete written => exact programComplete_pages written s
  | verifyComplete => exact verifyComplete_pages s
  | busStart => exact setPort_retest_pages s _
  | busStop => exact setPort_retest_pages s _
  | addressByte byte => exact ported _
  | kindByte byte => exact ported _
  | frameByte byte => exact ported _
  | discardByte byte => exact ported _
  | replyByte acknowledged => exact setPort_retest_pages s _
  | collision bit => exact collision_pages bit s
  | busTimeout => exact setPort_retest_pages s _
  | noticeReadyWrite value => exact served_pages (u := s.writeNoticeReady value) (.of_blocks rfl rfl rfl rfl)
  | noticeEnableWrite value => exact served_pages (u := s.writeNoticeEnable value) (.of_blocks rfl rfl rfl rfl)
  | noticeModeWrite value => exact served_pages (writeNoticeMode_pagesKept s value)
  | noticeTake => exact served_pages (readRegister_pagesKept s 0x19)
  | noticeDone value => exact served_pages (writeNoticeDone_pagesKept s)
  | errorsWrite value => exact served_pages (u := s.writeErrors value) (.of_blocks rfl rfl rfl rfl)
  | pointFlagsWrite p value => exact served_pages (u := s.writePointFlags p value) (.of_blocks rfl rfl rfl rfl)
  | unassignedRead offset => exact served_pages (readRegister_pagesKept s offset)
  | registerWrite offset value => exact served_pages (writeRegister_pagesKept s offset.toNat value)

/-- A step is the meaning of the command at the front, or idles. -/
theorem step_pagesKept {s t : State} (h : step s = .next t) : PagesKept s t := by
  unfold step at h
  split at h
  · cases h
    exact .refl s
  · rename_i c rest _
    have kept := exec_pages c { s with pending := rest }
    rw [h] at kept
    exact ⟨kept.eligible, kept.repairs⟩

/-- Settles O55: the meaning of each command keeps the eligible list within the dirty set and the marked pages damaged. -/
theorem everyStepKeepsEligibleDirty : Obligations.EveryStepKeepsEligibleDirty :=
  ⟨fun _ _ within h => (step_pagesKept h).eligible within, fun _ _ marked h => (step_pagesKept h).repairs marked⟩

end Sys2Proof.Machine.Proofs

namespace Sys2Proof.Machine.Proofs

open Sys2Proof Sys2Proof.Machine Sys2Proof.Machine.Laws

/-! ### Sets of pages (R201, R204) -/

theorem foldl_pageBit_getLsbD (pages : List (Fin 9)) (set : BitVec 9) (page : Fin 9) :
    (pages.foldl (fun set q => set ||| pageBit q) set).getLsbD page.val =
      (set.getLsbD page.val || decide (page ∈ pages)) := by
  induction pages generalizing set with
  | nil => simp
  | cons q rest ih =>
    rw [List.foldl_cons, ih, marked_getLsbD, Bool.or_assoc, ← Bool.decide_or]
    simp only [List.mem_cons]

theorem pageSet_getLsbD (pages : List (Fin 9)) (page : Fin 9) :
    (pageSet pages).getLsbD page.val = decide (page ∈ pages) := by
  rw [pageSet, foldl_pageBit_getLsbD]
  simp

theorem mem_dirtyPages (s : State) (page : Fin 9) :
    page ∈ s.dirtyPages ↔ (s.commit.dirty[page]).isSome = true := by
  simp [State.dirtyPages]

theorem pageSet_dirtyPages_getLsbD (s : State) (page : Fin 9) :
    (pageSet s.dirtyPages).getLsbD page.val = (s.commit.dirty[page]).isSome := by
  rw [pageSet_getLsbD, Bool.eq_iff_iff, decide_eq_true_eq, mem_dirtyPages]

theorem flightSet_getLsbD (s : State) (page : Fin 9) :
    s.flightSet.getLsbD page.val = (s.commit.phase.inFlight == some page) := by
  unfold State.flightSet
  split
  · rename_i q flight
    rw [flight, pageBit_getLsbD, Bool.eq_iff_iff, decide_eq_true_eq, beq_iff_eq, Option.some.injEq, eq_comm]
  · rename_i flight
    rw [flight]
    simp

/-! ### COMMIT (R183, R184) -/

theorem exec_commit {s : State} {cmd : QueuedCommand} (h : Handed s 0x20 cmd) :
    exec .commit s = .next (s.takeCommit cmd) := by
  obtain ⟨executing, code⟩ := h
  simp [exec, execCommit, executing, code]

/-- With nothing dirty there is nothing to make urgent. -/
theorem makeAllUrgent_of_clean {s : State} (clean : ∀ page : Fin 9, s.commit.dirty[page] = none) :
    s.makeAllUrgent = s := by
  have dirty : s.makeAllUrgent.commit.dirty = s.commit.dirty := by
    refine Vector.ext fun i hi => ?_
    have record := makeAllUrgent_dirty s ⟨i, hi⟩
    rw [clean ⟨i, hi⟩] at record
    exact record.trans (clean ⟨i, hi⟩).symm
  have eligible : s.makeAllUrgent.commit.eligible = s.commit.eligible := by
    simp [makeAllUrgent_eligible, joinedAscending, clean]
  calc s.makeAllUrgent
      = { s with commit := { s.commit with
          dirty := s.makeAllUrgent.commit.dirty, eligible := s.makeAllUrgent.commit.eligible } } := rfl
    _ = s := by rw [dirty, eligible]

theorem takeCommit_idle {s : State} (clean : ∀ page : Fin 9, s.commit.dirty[page] = none)
    (flight : s.commit.phase.inFlight = none) (cmd : QueuedCommand) :
    s.takeCommit cmd =
      replied { s with notice := { s.notice with commit := true } } (plainResult cmd .done) := by
  unfold State.takeCommit
  rw [makeAllUrgent_of_clean clean, (dirtyPages_eq_nil_iff s).mpr clean, flight]
  rfl

/-- The pages that an executing COMMIT wants (R183). -/
def wantedMarks (s : State) : WantedMarks :=
  { pages := pageSet s.dirtyPages ||| s.flightSet, failed := 0, awaiting := pageSet s.dirtyPages,
    flight := s.commit.phase.inFlight.isSome }

theorem takeCommit_working {s : State}
    (work : (∃ page : Fin 9, s.commit.dirty[page] ≠ none) ∨ s.commit.phase.inFlight ≠ none) (cmd : QueuedCommand) :
    s.takeCommit cmd = { s.makeAllUrgent with
      commit := { s.makeAllUrgent.commit with wanted := some (wantedMarks s) }
      proc := { s.proc with executing := some { cmd, phase := .committing } } } := by
  have busy : ¬(s.dirtyPages.isEmpty = true ∧ s.commit.phase.inFlight.isNone = true) := by
    rw [List.isEmpty_iff, dirtyPages_eq_nil_iff, Option.isNone_iff_eq_none]
    rintro ⟨clean, flight⟩
    rcases work with ⟨page, dirty⟩ | moving
    · exact dirty (clean page)
    · exact moving flight
  unfold State.takeCommit
  dsimp only
  rw [if_neg busy]
  rfl

/-- Settles O38: the COMMIT with nothing to write, and the one that goes on with its wanted marks. -/
theorem commitMakesDirtyPagesUrgent : Obligations.CommitMakesDirtyPagesUrgent := by
  intro s cmd handed
  rw [exec_commit handed]
  refine ⟨fun clean flight => by rw [takeCommit_idle clean flight], fun work => ?_⟩
  refine ⟨_, wantedMarks s, congrArg Host.Outcome.next (takeCommit_working work cmd), rfl, rfl, rfl, rfl, fun page => ?_,
    pageSet_dirtyPages_getLsbD s, makeAllUrgent_dirty s, makeAllUrgent_eligible s, rfl, rfl, rfl, rfl, rfl, rfl, rfl,
    rfl, rfl, rfl, rfl⟩
  rw [wantedMarks, BitVec.getLsbD_or, pageSet_dirtyPages_getLsbD, flightSet_getLsbD]

end Sys2Proof.Machine.Proofs

namespace Sys2Proof.Machine.Proofs

open Sys2Proof Sys2Proof.Machine Sys2Proof.Machine.Laws

/-! ### How the commit of a page ends (R171, R179, R180, R209) -/

theorem verifies_iff {s : State} {contents : PageContents} (snapshot : s.commit.snapshot = some contents)
    (page : Fin 9) : s.verifies page = true ↔ s.nv[page] = .good contents := by
  simp [State.verifies, snapshot]

/-- The state after the second failure of a page, but for the wanted marks. -/
theorem commitFailed_eq (s : State) (page : Fin 9) :
    s.commitFailed page = { s with
      notice := { s.notice with errors := { s.notice.errors with nvFault := true }, commit := true }
      nv := s.nv.set page .damaged
      commit := { s.commit with
        phase := .idle
        snapshot := none
        retried := false
        faultPage := some page
        dirty :=
          if s.run.runState = .run ∧ s.commit.dirty[page] = none then
            s.commit.dirty.set page (some { urgent := false, age := 0 })
          else s.commit.dirty } } := by
  by_cases returns : s.run.runState = .run ∧ s.commit.dirty[page] = none
  · simp only [State.commitFailed, State.returnFailed, if_pos returns]
    rfl
  · simp only [State.commitFailed, State.returnFailed, if_neg returns]
    rfl

/-- The end of the commit of a page, verified or failed twice, before the wanted marks meet it. -/
def commitEnded (s : State) (page : Fin 9) (verified : Bool) : State :=
  if verified then (s.markVerified page).endCommit else s.commitFailed page

/-- What the end of a commit leaves as it is. -/
theorem commitEnded_frame (s : State) (page : Fin 9) (verified : Bool) :
    commitEnded s page verified = { s with
      notice := (commitEnded s page verified).notice
      nv := (commitEnded s page verified).nv
      commit := { s.commit with
        phase := .idle, snapshot := none, retried := false
        dirty := (commitEnded s page verified).commit.dirty
        faultPage := (commitEnded s page verified).commit.faultPage
        unverified := (commitEnded s page verified).commit.unverified } } := by
  cases verified with
  | true => rfl
  | false => simp only [commitEnded, Bool.false_eq_true, if_false, commitFailed_eq]

theorem commitEnded_proc (s : State) (page : Fin 9) (verified : Bool) :
    (commitEnded s page verified).proc = s.proc := by rw [commitEnded_frame]

theorem commitEnded_wanted (s : State) (page : Fin 9) (verified : Bool) :
    (commitEnded s page verified).commit.wanted = s.commit.wanted := by rw [commitEnded_frame]

theorem verifyComplete_retries {s : State} {page : Fin 9} (phase : s.commit.phase = .verify page)
    (differs : s.verifies page = false) (first : s.commit.retried = false) :
    exec .verifyComplete s = .next { s with commit := { s.commit with phase := .erase page, retried := true } } := by
  simp [exec, execVerifyComplete, phase, differs, first]

theorem verifyComplete_ends {s : State} {page : Fin 9} (phase : s.commit.phase = .verify page)
    (ends : s.verifies page = true ∨ s.commit.retried = true) :
    exec .verifyComplete s =
      .next ((commitEnded s page (s.verifies page)).settleWanted page (s.verifies page)).retestWait := by
  cases verified : s.verifies page with
  | true => simp [exec, execVerifyComplete, phase, verified, commitEnded]
  | false =>
    have again : s.commit.retried = true := ends.resolve_left (by simp [verified])
    simp [exec, execVerifyComplete, phase, verified, again, commitEnded]

/-- Without a COMMIT and without a WAIT the commit of the page ends, and that is all. -/
theorem verifyComplete_ends_alone {s : State} {page : Fin 9} (phase : s.commit.phase = .verify page)
    (ends : s.verifies page = true ∨ s.commit.retried = true) (unwanted : s.commit.wanted = none)
    (notWaiting : NotWaiting s) :
    exec .verifyComplete s = .next (commitEnded s page (s.verifies page)) := by
  have settled : (commitEnded s page (s.verifies page)).settleWanted page (s.verifies page) =
      commitEnded s page (s.verifies page) := by
    unfold State.settleWanted
    rw [commitEnded_wanted, unwanted]
  have still : NotWaiting (commitEnded s page (s.verifies page)) := fun cmd w => by
    rw [commitEnded_proc]
    exact notWaiting cmd w
  rw [verifyComplete_ends phase ends, settled, retestWait_of_notWaiting still]

/-! ### The wanted marks of an executing COMMIT (R183, R184) -/

theorem and_pageBit_eq_zero_iff (set : BitVec 9) (page : Fin 9) :
    set &&& pageBit page = 0 ↔ set.getLsbD page.val = false := by
  constructor
  · intro h
    have bit : (set &&& pageBit page).getLsbD page.val = false := by rw [h]; exact BitVec.getLsbD_zero
    rwa [BitVec.getLsbD_and, pageBit_getLsbD, decide_eq_true rfl, Bool.and_true] at bit
  · intro h
    refine BitVec.eq_of_getLsbD_eq fun i hi => ?_
    have bit := pageBit_getLsbD page ⟨i, hi⟩
    refine Eq.trans ?_ BitVec.getLsbD_zero.symm
    rw [BitVec.getLsbD_and, bit]
    by_cases same : (⟨i, hi⟩ : Fin 9) = page
    · subst same
      rw [h, Bool.false_and]
    · rw [decide_eq_false same, Bool.and_false]

/-- The pages that failed twice, with the page of this commit when it failed. -/
def failedPages (w : WantedMarks) (page : Fin 9) (verified : Bool) : BitVec 9 :=
  if verified then w.failed else w.failed ||| pageBit page

theorem settled_flight {w : WantedMarks} (h : w.flight = true) (page : Fin 9) (verified : Bool) :
    w.settled page verified = { w with flight := false, failed := failedPages w page verified } := by
  unfold WantedMarks.settled
  rw [if_pos h]
  rfl

theorem settled_awaited {w : WantedMarks} {page : Fin 9} (flight : w.flight = false)
    (h : w.awaiting.getLsbD page.val = true) (verified : Bool) :
    w.settled page verified =
      { w with awaiting := w.awaiting &&& ~~~pageBit page, failed := failedPages w page verified } := by
  have there : ¬w.awaiting &&& pageBit page = 0 := fun c => by
    rw [(and_pageBit_eq_zero_iff ..).mp c] at h
    cases h
  unfold WantedMarks.settled
  rw [if_neg (by simp [flight]), if_neg there]
  rfl

theorem settled_other {w : WantedMarks} {page : Fin 9} (flight : w.flight = false)
    (h : w.awaiting.getLsbD page.val = false) (verified : Bool) : w.settled page verified = w := by
  unfold WantedMarks.settled
  rw [if_neg (by simp [flight]), if_pos ((and_pageBit_eq_zero_iff ..).mpr h)]

theorem complete_iff (w : WantedMarks) : w.complete = true ↔ w.flight = false ∧ w.awaiting = 0 := by
  simp [WantedMarks.complete]

/-- The state in which an executing COMMIT has met its wanted marks: with all settled its result is posted and COMMIT is
ready, otherwise it goes on. -/
def marksMet (s : State) (cmd : QueuedCommand) (v : WantedMarks) : State :=
  { s with
    proc := if v.complete then
      { s.proc with executing := none, results := s.proc.results ++ [resultOf cmd (commitAnswer v)] } else s.proc
    notice := { s.notice with commit := s.notice.commit || v.complete }
    commit := { s.commit with wanted := if v.complete then none else some v } }

theorem settleWanted_committing {s : State} {cmd : QueuedCommand} {w : WantedMarks}
    (executing : s.proc.executing = some { cmd, phase := .committing }) (wanted : s.commit.wanted = some w)
    (page : Fin 9) (verified : Bool) :
    s.settleWanted page verified = marksMet s cmd (w.settled page verified) := by
  unfold State.settleWanted marksMet
  rw [wanted]
  dsimp only
  cases (w.settled page verified).complete with
  | true =>
    simp only [if_true, State.finishCommit, executing, Bool.or_true]
    rfl
  | false => simp only [Bool.false_eq_true, if_false, Bool.or_false]

theorem marksMet_notWaiting {s : State} {cmd : QueuedCommand}
    (executing : s.proc.executing = some { cmd, phase := .committing }) (v : WantedMarks) :
    NotWaiting (marksMet s cmd v) := by
  intro c w waiting
  unfold marksMet at waiting
  dsimp only at waiting
  split at waiting
  · cases waiting
  · rw [executing] at waiting
    cases waiting

/-- Under a COMMIT the commit of the page ends, and the wanted marks meet it. -/
theorem verifyComplete_ends_wanted {s : State} {page : Fin 9} {cmd : QueuedCommand} {w : WantedMarks}
    (phase : s.commit.phase = .verify page) (ends : s.verifies page = true ∨ s.commit.retried = true)
    (executing : s.proc.executing = some { cmd, phase := .committing }) (wanted : s.commit.wanted = some w) :
    exec .verifyComplete s =
      .next (marksMet (commitEnded s page (s.verifies page)) cmd (w.settled page (s.verifies page))) := by
  have same : (commitEnded s page (s.verifies page)).proc.executing = some { cmd, phase := .committing } := by
    rw [commitEnded_proc, executing]
  rw [verifyComplete_ends phase ends, settleWanted_committing same ((commitEnded_wanted ..).trans wanted),
    retestWait_of_notWaiting (marksMet_notWaiting same _)]

/-- A verified page, whatever becomes of the COMMIT. -/
theorem marksMet_verified (s : State) (page : Fin 9) (cmd : QueuedCommand) (v : WantedMarks) :
    PageVerified s (marksMet (commitEnded s page true) cmd v) page := ⟨rfl, rfl, rfl, rfl⟩

/-- A page that failed twice, whatever becomes of the COMMIT. -/
theorem marksMet_failed (s : State) (page : Fin 9) (cmd : QueuedCommand) (v : WantedMarks) :
    PageFailed s (marksMet (commitEnded s page false) cmd v) page := by
  simp only [commitEnded, Bool.false_eq_true, if_false, commitFailed_eq]
  exact ⟨rfl, rfl, rfl, by simp only [marksMet, Bool.true_or], rfl⟩

/-- The result of the COMMIT that has ended: the wanted and the failed pages (R184). -/
theorem marksMet_posted {s : State} {v : WantedMarks} (complete : v.complete = true) (page : Fin 9) (verified : Bool)
    (cmd : QueuedCommand) :
    Posted s (marksMet (commitEnded s page verified) cmd v)
      { plainResult cmd (if v.failed = 0 then .done else .nvFailed) with
        extraA := v.pages.zeroExtend 32, extraB := v.failed.zeroExtend 32 } := by
  simp only [Posted, marksMet, complete, if_true, commitEnded_proc]
  rfl

end Sys2Proof.Machine.Proofs

namespace Sys2Proof.Machine.Proofs

open Sys2Proof Sys2Proof.Machine Sys2Proof.Machine.Laws

/-! ### VERIFY under a COMMIT (R183, R184) -/

/-- What the end of a commit under a COMMIT leaves as it is. -/
structure EndFrame (s t : State) : Prop where
  commit : t.commit = { s.commit with
    phase := .idle, snapshot := none, retried := false, dirty := t.commit.dirty, faultPage := t.commit.faultPage,
    wanted := t.commit.wanted, unverified := t.commit.unverified }
  run : t.run = s.run
  engine : t.engine = s.engine
  points : t.points = s.points
  timer : t.timer = s.timer
  port : t.port = s.port
  spi : t.spi = s.spi
  readData : t.readData = s.readData
  freeCount : t.freeCount = s.freeCount
  pending : t.pending = s.pending

theorem marksMet_frame (s : State) (page : Fin 9) (verified : Bool) (cmd : QueuedCommand) (v : WantedMarks) :
    EndFrame s (marksMet (commitEnded s page verified) cmd v) := by
  rw [commitEnded_frame]
  exact ⟨rfl, rfl, rfl, rfl, rfl, rfl, rfl, rfl, rfl, rfl⟩

theorem marksMet_incomplete {s : State} {v : WantedMarks} (left : v.complete = false) (cmd : QueuedCommand) :
    marksMet s cmd v = { s with commit := { s.commit with wanted := some v } } := by
  simp only [marksMet, left, Bool.false_eq_true, if_false, Bool.or_false]

theorem marksMet_complete_wanted {s : State} {v : WantedMarks} (complete : v.complete = true) (cmd : QueuedCommand) :
    (marksMet s cmd v).commit.wanted = none := by
  simp only [marksMet, complete, if_true]

/-- The COMMIT that ends with a verified page sets COMMIT ready (R184). -/
theorem marksMet_complete_notice {s : State} {v : WantedMarks} (complete : v.complete = true) (page : Fin 9)
    (cmd : QueuedCommand) :
    (marksMet (commitEnded s page true) cmd v).notice = { s.notice with commit := true } := by
  simp only [marksMet, complete, Bool.or_true]
  rfl

theorem incomplete_of_left {v : WantedMarks} (left : v.flight = true ∨ v.awaiting ≠ 0) : v.complete = false := by
  rw [← Bool.not_eq_true, complete_iff]
  rintro ⟨flight, awaiting⟩
  rcases left with moving | waiting
  · simp [flight] at moving
  · exact waiting awaiting

/-- The last wanted page settles the COMMIT. -/
theorem settled_last {w : WantedMarks} {page : Fin 9} (flight : w.flight = false) (last : w.awaiting = pageBit page)
    (verified : Bool) :
    w.settled page verified = { w with awaiting := 0, failed := failedPages w page verified } := by
  have awaited : w.awaiting.getLsbD page.val = true := by
    rw [last, pageBit_getLsbD, decide_eq_true rfl]
  have none_left : w.awaiting &&& ~~~pageBit page = 0 := by rw [last]; exact BitVec.and_not_self _
  rw [settled_awaited flight awaited, none_left]

theorem failedPages_ne_zero (w : WantedMarks) (page : Fin 9) : failedPages w page false ≠ 0 := by
  intro c
  have bit : (w.failed ||| pageBit page).getLsbD page.val = true := by
    rw [marked_getLsbD, decide_eq_true rfl, Bool.or_true]
  rw [show w.failed ||| pageBit page = 0 from c] at bit
  exact absurd bit (by simp)

/-- Settles O40: the commit that ends alone, the retry, and the commit that ends under a COMMIT. -/
theorem verifyEndsOrRetriesCommit : Obligations.VerifyEndsOrRetriesCommit := by
  refine ⟨fun s page contents phase snapshot => ⟨fun good unwanted notWaiting => ?_, fun bad first => ?_,
      fun bad again unwanted notWaiting => ?_⟩,
    fun s page contents cmd w phase snapshot executing wanted ends => ?_,
    fun s page contents cmd w phase snapshot executing wanted flight last => ⟨fun good => ?_, fun bad again => ?_⟩⟩
  · have verified := (verifies_iff snapshot page).mpr good
    rw [verifyComplete_ends_alone phase (.inl verified) unwanted notWaiting, verified]
    rfl
  · exact verifyComplete_retries phase (by rwa [← Bool.not_eq_true, verifies_iff snapshot]) first
  · have differs : s.verifies page = false := by rwa [← Bool.not_eq_true, verifies_iff snapshot]
    rw [verifyComplete_ends_alone phase (.inr again) unwanted notWaiting, differs]
    exact congrArg Host.Outcome.next (commitFailed_eq s page)
  · simp only [ne_eq, ← verifies_iff snapshot page] at ends ⊢
    rw [verifyComplete_ends_wanted phase ends executing wanted]
    generalize s.verifies page = verified
    have frame := marksMet_frame s page verified cmd (w.settled page verified)
    refine ⟨_, w.settled page verified, rfl, fun h => settled_flight h page verified,
      fun flight h => settled_awaited flight h verified, fun flight h => settled_other flight h verified, fun left => ?_,
      ?_, ?_, fun flight awaiting => ?_, frame.commit, frame.run, frame.engine, frame.points, frame.timer, frame.port,
      frame.spi, frame.readData, frame.freeCount, frame.pending⟩
    · rw [marksMet_incomplete (incomplete_of_left left)]
      refine ⟨rfl, commitEnded_proc .., ?_⟩
      rintro rfl
      rfl
    · rintro rfl
      exact marksMet_verified s page cmd _
    · intro differs
      obtain rfl : verified = false := by simpa using differs
      exact marksMet_failed s page cmd _
    · have complete := (complete_iff _).mpr ⟨flight, awaiting⟩
      refine ⟨marksMet_complete_wanted complete cmd, ?_, marksMet_posted complete page verified cmd⟩
      rintro rfl
      exact marksMet_complete_notice complete page cmd
  · have verified := (verifies_iff snapshot page).mpr good
    have complete : (w.settled page true).complete = true := by
      rw [settled_last flight last, complete_iff]
      exact ⟨flight, rfl⟩
    have posted := marksMet_posted (s := s) complete page true cmd
    rw [verifyComplete_ends_wanted phase (.inl verified) executing wanted, verified]
    refine ⟨_, rfl, rfl, marksMet_complete_wanted complete cmd, marksMet_complete_notice complete page cmd,
      marksMet_verified s page cmd _, ?_⟩
    rw [settled_last flight last] at posted ⊢
    exact posted
  · have differs : s.verifies page = false := by rwa [← Bool.not_eq_true, verifies_iff snapshot]
    have complete : (w.settled page false).complete = true := by
      rw [settled_last flight last, complete_iff]
      exact ⟨flight, rfl⟩
    have posted := marksMet_posted (s := s) complete page false cmd
    rw [verifyComplete_ends_wanted phase (.inr again) executing wanted, differs]
    refine ⟨_, rfl, ?_, marksMet_complete_wanted complete cmd, marksMet_failed s page cmd _, ?_⟩
    · rw [(marksMet_frame s page false cmd _).commit]
    · rw [settled_last flight last] at posted ⊢
      rw [if_neg (failedPages_ne_zero w page)] at posted
      exact posted

end Sys2Proof.Machine.Proofs

namespace Sys2Proof.Machine.Proofs

open Sys2Proof Sys2Proof.Machine Sys2Proof.Machine.Laws

/-! ### Unusable fields of the settings page (R79, R85, R137, R186) -/

theorem edgeMode_ofCode_isNone_iff (n : Nat) : (EdgeMode.ofCode n).isNone = true ↔ 2 < n := by
  match n with
  | 0 => decide
  | 1 => decide
  | 2 => decide
  | n + 3 => exact ⟨fun _ => by omega, fun _ => rfl⟩

theorem debounce_ofCode_isNone_iff (n : Nat) : (Debounce.ofCode n).isNone = true ↔ 3 < n := by
  match n with
  | 0 => decide
  | 1 => decide
  | 2 => decide
  | 3 => decide
  | n + 4 => exact ⟨fun _ => by omega, fun _ => rfl⟩

theorem restoreMode_ofCode_isNone_iff (n : Nat) : (RestoreMode.ofCode n).isNone = true ↔ 1 < n := by
  match n with
  | 0 => decide
  | 1 => decide
  | n + 2 => exact ⟨fun _ => by omega, fun _ => rfl⟩

theorem loadPrescale_isNone_iff (stored : Byte) :
    (loadPrescale stored).isNone = true ↔ ¬(1 ≤ stored.toNat ∧ stored.toNat ≤ 16) := by
  unfold loadPrescale
  split <;> simp [*]

theorem loadPeriod_isNone_iff (stored : Word) :
    (loadPeriod stored).isNone = true ↔ ¬(60 ≤ stored.toNat ∧ stored.toNat ≤ 86400) := by
  unfold loadPeriod
  split <;> simp [*]

theorem loadAddress_isNone_iff (stored : Byte) :
    (loadAddress stored).isNone = true ↔ ¬(0x08 ≤ stored.toNat ∧ stored.toNat ≤ 0x77) := by
  unfold loadAddress
  split <;> simp [*]

theorem loadInterval_isNone_iff (stored : Byte) : (loadInterval stored).isNone = true ↔ stored.toNat = 0 := by
  unfold loadInterval
  split <;> simp [*]

theorem loadEnable_isNone_iff (stored : Byte) : (loadEnable stored).isNone = true ↔ 1 < stored.toNat := by
  unfold loadEnable
  split
  · simp [*]
  split
  · simp [*]
  · simp only [Option.isNone_none, true_iff]
    omega

theorem bcdValue_isNone_iff (digits w : Nat) : (bcdValue digits w).isNone = true ↔ ¬DigitsGood digits w := by
  rw [← bcdValue_isSome_iff, Option.isNone_iff_eq_none, Option.not_isSome_iff_eq_none]

/-- A stored binding is lost when it names a slot above 63. -/
theorem loadBinding_lost_iff (stored : Option Byte) :
    (stored.isSome && (loadBinding stored).isNone) = true ↔ ∃ b, stored = some b ∧ 64 ≤ b.toNat := by
  cases stored with
  | none => simp
  | some b =>
    simp only [loadBinding, Option.isSome_some, Bool.true_and, Option.some.injEq, exists_eq_left']
    split
    · rename_i inRange
      simp [inRange]
    · rename_i above
      simpa using above

theorem storedPoint_unusable_iff (stored : StoredPoint) :
    stored.unusable = true ↔ (∃ b, stored.binding = some b ∧ 64 ≤ b.toNat) ∨ 2 < stored.edgeMode.toNat ∨
      ¬(1 ≤ stored.prescale.toNat ∧ stored.prescale.toNat ≤ 16) ∨ 3 < stored.debounce.toNat ∨
      1 < stored.restore.toNat := by
  simp only [StoredPoint.unusable, Bool.or_eq_true, loadBinding_lost_iff, edgeMode_ofCode_isNone_iff,
    loadPrescale_isNone_iff, debounce_ofCode_isNone_iff, restoreMode_ofCode_isNone_iff, or_assoc]

theorem storedTariff_unusable_iff (stored : StoredTariff) :
    stored.unusable = true ↔ ¬DigitsGood 6 stored.priceA.toNat ∨ ¬DigitsGood 6 stored.priceB.toNat ∨
      ¬DigitsGood 6 stored.standing.toNat := by
  simp only [StoredTariff.unusable, Bool.or_eq_true, bcdValue_isNone_iff, or_assoc]

theorem toList_any_iff {α : Type} {n : Nat} (v : Vector α n) (test : α → Bool) :
    v.toList.any test = true ↔ ∃ i : Fin n, test v[i] = true := by
  rw [List.any_eq_true]
  constructor
  · rintro ⟨x, there, h⟩
    obtain ⟨i, hi, rfl⟩ := Vector.mem_iff_getElem.mp (Vector.mem_toList_iff.mp there)
    exact ⟨⟨i, hi⟩, h⟩
  · rintro ⟨i, h⟩
    exact ⟨v[i], Vector.mem_toList_iff.mpr (Vector.getElem_mem i.isLt), h⟩

theorem storedSettings_unusable_iff (stored : StoredSettings) :
    stored.unusable = true ↔
    (∃ p : Fin 16, (∃ b, stored.points[p].binding = some b ∧ 64 ≤ b.toNat) ∨ 2 < stored.points[p].edgeMode.toNat ∨
      ¬(1 ≤ stored.points[p].prescale.toNat ∧ stored.points[p].prescale.toNat ≤ 16) ∨
      3 < stored.points[p].debounce.toNat ∨ 1 < stored.points[p].restore.toNat) ∨
    (∃ i : Fin 8, ¬DigitsGood 6 stored.tariffs[i].priceA.toNat ∨ ¬DigitsGood 6 stored.tariffs[i].priceB.toNat ∨
      ¬DigitsGood 6 stored.tariffs[i].standing.toNat) ∨
    ¬(60 ≤ stored.periodLength.toNat ∧ stored.periodLength.toNat ≤ 86400) ∨ stored.interval.toNat = 0 ∨
    1 < stored.enable.toNat ∨ ¬(0x08 ≤ stored.address.toNat ∧ stored.address.toNat ≤ 0x77) ∨
    ¬DigitsGood 8 stored.maximum.toNat := by
  simp only [StoredSettings.unusable, Bool.or_eq_true, toList_any_iff, storedPoint_unusable_iff,
    storedTariff_unusable_iff, loadPeriod_isNone_iff, loadInterval_isNone_iff, loadEnable_isNone_iff,
    loadAddress_isNone_iff, bcdValue_isNone_iff, or_assoc]

/-! ### The fields that the settings page loads (R48, R79, R186) -/

/-- A code in a byte is the byte that holds it. -/
theorem byte_eq_iff (b c : Byte) : b = c ↔ b.toNat = c.toNat := BitVec.toNat_inj.symm

theorem loadedEdgeMode (b : Byte) :
    (EdgeMode.ofCode b.toNat).getD .rise = if b = 1 then .fall else if b = 2 then .both else .rise := by
  simp only [byte_eq_iff]
  change _ = if b.toNat = 1 then _ else if b.toNat = 2 then _ else _
  match b.toNat with
  | 0 => rfl
  | 1 => rfl
  | 2 => rfl
  | n + 3 => rw [if_neg (by omega), if_neg (by omega)]; rfl

theorem loadedDebounce (b : Byte) :
    (Debounce.ofCode b.toNat).getD .ms1 =
      if b = 0 then .ms0 else if b = 2 then .ms4 else if b = 3 then .ms16 else .ms1 := by
  simp only [byte_eq_iff]
  change _ = if b.toNat = 0 then _ else if b.toNat = 2 then _ else if b.toNat = 3 then _ else _
  match b.toNat with
  | 0 => rfl
  | 1 => rfl
  | 2 => rfl
  | 3 => rfl
  | n + 4 => rw [if_neg (by omega), if_neg (by omega), if_neg (by omega)]; rfl

theorem loadedRestore (b : Byte) :
    (RestoreMode.ofCode b.toNat).getD .automatic = if b = 1 then .onCommand else .automatic := by
  simp only [byte_eq_iff]
  change _ = if b.toNat = 1 then _ else _
  match b.toNat with
  | 0 => rfl
  | 1 => rfl
  | n + 2 => rw [if_neg (by omega)]; rfl

theorem loadedPrescale (b : Byte) :
    (loadPrescale b).getD 1 = if 1 ≤ b.toNat ∧ b.toNat ≤ 16 then b.toNat else 1 := by
  unfold loadPrescale
  split <;> rfl

theorem loadedPeriod (w : Word) :
    (loadPeriod w).getD 3600 = if 60 ≤ w.toNat ∧ w.toNat ≤ 86400 then w.toNat else 3600 := by
  unfold loadPeriod
  split <;> rfl

theorem loadedInterval (b : Byte) : (loadInterval b).getD 60 = if b = 0 then 60 else b.toNat := by
  simp only [byte_eq_iff]
  change _ = if b.toNat = 0 then _ else _
  unfold loadInterval
  split <;> rfl

theorem loadedEnable_iff (b : Byte) : (loadEnable b).getD false = true ↔ b = 1 := by
  simp only [byte_eq_iff]
  change _ ↔ b.toNat = 1
  unfold loadEnable
  split
  · simp [*]
  · split <;> simp [*]

theorem loadedAddress (b : Byte) :
    (loadAddress b).getD 0x3A = if 0x08 ≤ b.toNat ∧ b.toNat ≤ 0x77 then BitVec.ofNat 7 b.toNat else 0x3A := by
  unfold loadAddress
  split <;> rfl

end Sys2Proof.Machine.Proofs

namespace Sys2Proof.Machine.Proofs

open Sys2Proof Sys2Proof.Machine Sys2Proof.Machine.Laws

/-! ### The settings page applied (R186) -/

/-- The state after the settings page: the settings given are written, and damage is reported. -/
def settingsLoaded (s : State) (stored : StoredSettings) : Bool → State
  | false => { s.takeSettings stored with run := { s.run with loadPage := 0 } }
  | true => { (s.takeSettings stored).settingsDamaged with run := { s.run with loadPage := 0 } }

theorem loadSettingsPage_applies {s : State} (loading : s.run.runState = .loading) (page : s.run.loadPage = 8) :
    exec .loadSettingsPage s = .next { s.applySettingsPage with run := { s.run with loadPage := 0 } } := by
  simp only [exec, execLoadSettingsPage]
  rw [if_pos ⟨loading, page⟩]

theorem loadSettingsPage_erased {s : State} (loading : s.run.runState = .loading) (page : s.run.loadPage = 8)
    (h : s.nv[(8 : Fin 9)] = .erased) : exec .loadSettingsPage s = .next (settingsLoaded s defaultSettings false) := by
  have h' : s.nv[settingsPage] = .erased := h
  rw [loadSettingsPage_applies loading page, State.applySettingsPage, h']
  rfl

theorem loadSettingsPage_damaged {s : State} (loading : s.run.runState = .loading) (page : s.run.loadPage = 8)
    (h : s.nv[(8 : Fin 9)] = .damaged) : exec .loadSettingsPage s = .next (settingsLoaded s defaultSettings true) := by
  have h' : s.nv[settingsPage] = .damaged := h
  rw [loadSettingsPage_applies loading page, State.applySettingsPage, h']
  rfl

theorem loadSettingsPage_accounts {s : State} (loading : s.run.runState = .loading) (page : s.run.loadPage = 8)
    {stored : Vector StoredAccount 8} (h : s.nv[(8 : Fin 9)] = .good (.accounts stored)) :
    exec .loadSettingsPage s = .next (settingsLoaded s defaultSettings true) := by
  have h' : s.nv[settingsPage] = .good (.accounts stored) := h
  rw [loadSettingsPage_applies loading page, State.applySettingsPage, h']
  rfl

theorem loadSettingsPage_good {s : State} (loading : s.run.runState = .loading) (page : s.run.loadPage = 8)
    {stored : StoredSettings} (h : s.nv[(8 : Fin 9)] = .good (.settings stored)) :
    exec .loadSettingsPage s = .next (settingsLoaded s stored stored.unusable) := by
  have h' : s.nv[settingsPage] = .good (.settings stored) := h
  rw [loadSettingsPage_applies loading page, State.applySettingsPage, h']
  dsimp only
  cases stored.unusable with
  | false => rfl
  | true => rfl

/-- Every class of the page loads some settings, with damage or without. -/
theorem loadSettingsPage_loads {s : State} (loading : s.run.runState = .loading) (page : s.run.loadPage = 8) :
    ∃ stored damage, exec .loadSettingsPage s = .next (settingsLoaded s stored damage) := by
  cases h : s.nv[(8 : Fin 9)] with
  | erased => exact ⟨_, _, loadSettingsPage_erased loading page h⟩
  | damaged => exact ⟨_, _, loadSettingsPage_damaged loading page h⟩
  | good contents =>
    cases contents with
    | accounts records => exact ⟨_, _, loadSettingsPage_accounts loading page h⟩
    | settings stored => exact ⟨_, _, loadSettingsPage_good loading page h⟩

theorem settingsLoaded_point (s : State) (stored : StoredSettings) (damage : Bool) (p : Fin 16) :
    (settingsLoaded s stored damage).point p = (s.point p).configured stored.points[p] := by
  have taken : (s.takeSettings stored).point p = (s.point p).configured stored.points[p] := by
    simp [State.point, State.takeSettings]
  cases damage <;> exact taken

/-- A point with a binding is HELD and one without is DETACHED; nothing else of it changes beside binding, configuration,
view and debouncer (R50, R77). -/
theorem configured_eq (stored : StoredPoint) (p : Point) :
    p.configured stored = { p with
      binding := (p.configured stored).binding, config := (p.configured stored).config,
      state := (if (p.configured stored).binding = none then .detached else .held), view := none,
      debounced := p.line, excursion := false } := by
  have state : (p.configured stored).state = if (p.configured stored).binding = none then .detached else .held := by
    change (if (loadBinding stored.binding).isSome then PointState.held else .detached) =
      if loadBinding stored.binding = none then .detached else .held
    by_cases none_stored : loadBinding stored.binding = none
    · rw [if_pos none_stored, none_stored]
      rfl
    · rw [if_neg none_stored, if_pos (Option.isSome_iff_ne_none.mpr none_stored)]
  rw [← state]
  rfl

theorem settingsLoaded_commit_false (s : State) (stored : StoredSettings) :
    (settingsLoaded s stored false).commit = (s.takeSettings stored).commit := rfl

theorem settingsLoaded_commit_true (s : State) (stored : StoredSettings) :
    (settingsLoaded s stored true).commit = ((s.takeSettings stored).setLoadDamage.report 8 true).commit := rfl

theorem takeSettings_dirty (s : State) (stored : StoredSettings) :
    (s.takeSettings stored).commit.dirty = s.commit.dirty := rfl

theorem takeSettings_eligible (s : State) (stored : StoredSettings) :
    (s.takeSettings stored).commit.eligible = s.commit.eligible := rfl

theorem settingsLoaded_undamaged (s : State) (stored : StoredSettings) :
    (settingsLoaded s stored false).notice = s.notice ∧
      (settingsLoaded s stored false).commit.dirty = s.commit.dirty ∧
      (settingsLoaded s stored false).commit.eligible = s.commit.eligible := by
  rw [settingsLoaded_commit_false, takeSettings_dirty, takeSettings_eligible]
  exact ⟨rfl, rfl, rfl⟩

/-- A report after updates that have left the dirty set and the eligible list alone (R173). -/
theorem reportedUrgent_congr {s u t v : State} {page : Fin 9} (h : ReportedUrgent u v page)
    (dirty : u.commit.dirty = s.commit.dirty) (eligible : u.commit.eligible = s.commit.eligible)
    (commit : t.commit = v.commit) : ReportedUrgent s t page := by
  unfold ReportedUrgent RecordedUrgent at h ⊢
  simp only [commit]
  simpa only [dirty, eligible] using h

/-- Damage sets LOAD_DAMAGE and reports the settings page (R186). -/
theorem settingsLoaded_damaged (s : State) (stored : StoredSettings) :
    (settingsLoaded s stored true).notice =
        { s.notice with errors := { s.notice.errors with loadDamage := true } } ∧
      ReportedUrgent s (settingsLoaded s stored true) 8 :=
  ⟨rfl, reportedUrgent_congr (report_urgent (urgent := true) 8 rfl) (takeSettings_dirty s stored)
    (takeSettings_eligible s stored) (settingsLoaded_commit_true s stored)⟩

/-- The settings of the state after the page are those of the page. -/
structure SettingsOf (stored : StoredSettings) (t : State) : Prop where
  point : ∀ p : Fin 16, (t.point p).binding = loadBinding stored.points[p].binding ∧
    (t.point p).config = loadConfig stored.points[p]
  tariff : ∀ i : Fin 8, t.timer.tariffs[i] = loadTariff stored.tariffs[i]
  periodLength : t.timer.periodLength = (loadPeriod stored.periodLength).getD 3600
  interval : t.commit.interval = (loadInterval stored.interval).getD 60
  enabled : t.port.enabled = (loadEnable stored.enable).getD false
  address : t.port.address = (loadAddress stored.address).getD 0x3A
  maximum : t.port.maximum = (bcdValue 8 stored.maximum.toNat).getD 0

theorem settingsLoaded_settings (s : State) (stored : StoredSettings) (damage : Bool) :
    SettingsOf stored (settingsLoaded s stored damage) where
  point p := by rw [settingsLoaded_point]; exact ⟨rfl, rfl⟩
  tariff i := by
    have taken : (s.takeSettings stored).timer.tariffs[i] = loadTariff stored.tariffs[i] := by simp [State.takeSettings]
    cases damage <;> exact taken
  periodLength := by cases damage <;> rfl
  interval := by cases damage <;> rfl
  enabled := by cases damage <;> rfl
  address := by cases damage <;> rfl
  maximum := by cases damage <;> rfl

theorem atDefaults_of_settings {t : State} (h : SettingsOf defaultSettings t) : AtDefaults t := by
  obtain ⟨point, tariff, periodLength, interval, enabled, address, maximum⟩ := h
  refine ⟨fun p => ?_, fun i => ?_, periodLength, interval, enabled, address, maximum⟩
  · obtain ⟨binding, config⟩ := point p
    have default : defaultSettings.points[p] =
        { binding := none, edgeMode := 0, prescale := 1, debounce := 1, grace := 300, restore := 0 } := by
      simp [defaultSettings]
    rw [binding, config, default]
    exact ⟨rfl, rfl⟩
  · have default : defaultSettings.tariffs[i] = { priceA := 0, priceB := 0, standing := 0 } := by
      simp [defaultSettings]
    rw [tariff, default]
    rfl

/-- The fields that the settings page writes, whatever their values, and no other. -/
theorem takeSettings_writes (s : State) (stored : StoredSettings) :
    ∃ points tariffs periodLength interval enabled address maximum, s.takeSettings stored = { s with
      points := { s.points with points }
      timer := { s.timer with tariffs, periodLength }
      commit := { s.commit with interval }
      port := { s.port with enabled, address, maximum } } :=
  ⟨_, _, _, _, _, _, _, rfl⟩

/-- What the settings page leaves as it is. -/
structure SettingsFrame (s t : State) : Prop where
  run : t.run = { s.run with loadPage := 0 }
  engine : t.engine = s.engine
  proc : t.proc = s.proc
  nv : t.nv = s.nv
  timer : t.timer = { s.timer with tariffs := t.timer.tariffs, periodLength := t.timer.periodLength }
  port : t.port = { s.port with enabled := t.port.enabled, address := t.port.address, maximum := t.port.maximum }
  commit : t.commit = { s.commit with
    dirty := t.commit.dirty, eligible := t.commit.eligible, interval := t.commit.interval }
  points : t.points = { s.points with points := t.points.points }
  spi : t.spi = s.spi
  readData : t.readData = s.readData
  freeCount : t.freeCount = s.freeCount
  pending : t.pending = s.pending

theorem settingsLoaded_frame (s : State) (stored : StoredSettings) (damage : Bool) :
    SettingsFrame s (settingsLoaded s stored damage) := by
  obtain ⟨points, tariffs, periodLength, interval, enabled, address, maximum, taken⟩ := takeSettings_writes s stored
  cases damage with
  | false =>
    rw [settingsLoaded, taken]
    exact ⟨rfl, rfl, rfl, rfl, rfl, rfl, rfl, rfl, rfl, rfl, rfl, rfl⟩
  | true =>
    rw [settingsLoaded, taken]
    exact ⟨rfl, rfl, rfl, rfl, rfl, rfl, rfl, rfl, rfl, rfl, rfl, rfl⟩

/-- No page but the settings page is reported. -/
theorem settingsLoaded_otherPages (s : State) (stored : StoredSettings) (damage : Bool) {q : Fin 9} (other : q ≠ 8) :
    (settingsLoaded s stored damage).commit.dirty[q] = s.commit.dirty[q] := by
  cases damage with
  | false => simp only [settingsLoaded_commit_false, takeSettings_dirty]
  | true =>
    simp only [settingsLoaded_commit_true]
    rw [dirty_report, if_neg other.symm]
    simp only [setLoadDamage_commit, takeSettings_dirty]

end Sys2Proof.Machine.Proofs

namespace Sys2Proof.Machine.Proofs

open Sys2Proof Sys2Proof.Machine Sys2Proof.Machine.Laws

/-! ### The settings page by its class (R186) -/

theorem loadConfig_fields (stored : StoredPoint) :
    (loadConfig stored).grace = stored.grace.toNat ∧
      (loadConfig stored).prescale =
        (if 1 ≤ stored.prescale.toNat ∧ stored.prescale.toNat ≤ 16 then stored.prescale.toNat else 1) ∧
      (loadConfig stored).edgeMode =
        (if stored.edgeMode = 1 then .fall else if stored.edgeMode = 2 then .both else .rise) ∧
      (loadConfig stored).debounce =
        (if stored.debounce = 0 then .ms0 else if stored.debounce = 2 then .ms4
          else if stored.debounce = 3 then .ms16 else .ms1) ∧
      (loadConfig stored).restore = (if stored.restore = 1 then .onCommand else .automatic) :=
  ⟨rfl, loadedPrescale _, loadedEdgeMode _, loadedDebounce _, loadedRestore _⟩

/-- Settles O4: the usable fields, the digits, and the page by its class. -/
theorem settingsPageLoadsByClass : Obligations.SettingsPageLoadsByClass := by
  refine ⟨storedSettings_unusable_iff, bcdValue_eq_some_iff_sum, fun s loading page => ?_⟩
  obtain ⟨stored, damage, loads⟩ := loadSettingsPage_loads loading page
  have same {u : State} (h : exec .loadSettingsPage s = .next u) : settingsLoaded s stored damage = u :=
    Host.Outcome.next.inj (loads.symm.trans h)
  have frame := settingsLoaded_frame s stored damage
  refine ⟨_, loads, frame.run, frame.engine, frame.proc, frame.nv, frame.timer, frame.port, frame.commit,
    fun q => settingsLoaded_otherPages s stored damage, frame.points, frame.spi, frame.readData, frame.freeCount,
    frame.pending, fun p => ?_, fun erased => ?_, fun damaged => ?_, fun contents good => ?_⟩
  · rw [settingsLoaded_point]
    exact configured_eq stored.points[p] (s.point p)
  · rw [same (loadSettingsPage_erased loading page erased)]
    exact ⟨atDefaults_of_settings (settingsLoaded_settings ..), settingsLoaded_undamaged s _⟩
  · rw [same (loadSettingsPage_damaged loading page damaged)]
    exact ⟨atDefaults_of_settings (settingsLoaded_settings ..), settingsLoaded_damaged s _⟩
  · rw [same (loadSettingsPage_good loading page good)]
    obtain ⟨point, tariff, periodLength, interval, enabled, address, maximum⟩ :=
      settingsLoaded_settings s contents contents.unusable
    refine ⟨fun p => ?_, tariff, periodLength.trans (loadedPeriod _), interval.trans (loadedInterval _), ?_,
      address.trans (loadedAddress _), maximum, fun unusable => ?_, fun usable => ?_⟩
    · obtain ⟨binding, config⟩ := point p
      rw [config]
      exact ⟨binding, loadConfig_fields contents.points[p]⟩
    · rw [enabled]
      exact loadedEnable_iff contents.enable
    · rw [unusable]
      exact settingsLoaded_damaged s contents
    · rw [usable]
      exact settingsLoaded_undamaged s contents

end Sys2Proof.Machine.Proofs

namespace Sys2Proof.Machine.Proofs

open Sys2Proof Sys2Proof.Machine Sys2Proof.Machine.Laws

/-! ### What the end of load writes (R187, R192, R194) -/

theorem startWait_blocks (s : State) (cmd : QueuedCommand) : ∃ proc, s.startWait cmd = { s with proc } := by
  rcases Nat.lt_or_ge (cmd.params[0].toNat % 256) 64 with inside | outside
  · obtain ⟨proc, tested⟩ := retestWait_blocks (waitBegun s cmd)
    exact ⟨proc, (startWait_begun inside).trans tested⟩
  · exact ⟨_, startWait_badField outside⟩

theorem settleHandedWait_blocks (s : State) : ∃ proc, s.settleHandedWait = { s with proc } := by
  unfold State.settleHandedWait
  split
  · split
    · exact startWait_blocks ..
    · exact ⟨s.proc, rfl⟩
  · exact ⟨s.proc, rfl⟩

theorem breakWait_blocks (s : State) (status : ResultStatus) : ∃ proc, s.breakWait status = { s with proc } := by
  unfold State.breakWait
  split
  · exact ⟨_, rfl⟩
  · exact ⟨s.proc, rfl⟩

theorem abandonWrite_blocks (s : State) : ∃ port, s.abandonWrite = { s with port } := by
  unfold State.abandonWrite
  split
  · exact ⟨_, rfl⟩
  · exact ⟨_, rfl⟩
  · exact ⟨_, rfl⟩
  · exact ⟨s.port, rfl⟩

/-- HOLDUP with POWER ready and every dirty page urgent. -/
def inHoldup (s : State) : State :=
  { s with
    run := { s.run with runState := .holdup, loadPage := 0 }
    notice := { s.notice with power := true }
    commit := s.makeAllUrgent.commit }

theorem enterHoldup_blocks (s : State) : ∃ proc port, s.enterHoldup false = { inHoldup s with proc, port } := by
  obtain ⟨started, settled⟩ := settleHandedWait_blocks s
  obtain ⟨proc, broken⟩ := breakWait_blocks s.settleHandedWait .holdup
  obtain ⟨port, abandoned⟩ := abandonWrite_blocks ({ inHoldup s with proc })
  refine ⟨proc, port, ?_⟩
  rw [← abandoned]
  change ((s.settleHandedWait).breakWait .holdup).enterHoldupBlocks = _
  rw [broken, settled]
  rfl

/-- The period counter loaded, and no page left to load. -/
def loadEnded (s : State) : State := { s with timer.remaining := s.timer.periodLength, run.loadPage := 0 }

theorem endLoading_run {s : State} (h : s.run.pfwAsserted = false) :
    s.endLoading = { loadEnded s with run.runState := .run } := by
  unfold State.endLoading
  dsimp only
  rw [if_neg (by simp [h])]
  rfl

theorem endLoading_holdup {s : State} (h : s.run.pfwAsserted = true) :
    ∃ proc port, s.endLoading = { inHoldup (loadEnded s) with proc, port } := by
  obtain ⟨proc, port, entered⟩ := enterHoldup_blocks (loadEnded s)
  refine ⟨proc, port, ?_⟩
  rw [← entered]
  unfold State.endLoading
  dsimp only
  rw [if_pos h]
  rfl

/-- What load of an account page leaves, once its points are reconciled: the next page to load, or the end of load. -/
def pageEnded (s : State) (page : Fin 8) : State :=
  if page = 7 then s.endLoading else { s with run := { s.run with loadPage := page.succ } }

theorem loadAccountPage_ends {s : State} {page : Fin 8} (loading : s.run.runState = .loading)
    (due : s.run.loadPage = page.castSucc) :
    exec .loadAccountPage s = .next (pageEnded ((s.applyAccountPage page).reconcile page) page) := by
  simp only [exec, execLoadAccountPage, loading, due, accountPage_castSucc]
  rfl

/-- The page is the last one, and PFW_N is asserted: the part goes on to HOLDUP. -/
def endsInHoldup (s : State) (page : Fin 8) : Bool := decide (page = 7) && s.run.pfwAsserted

/-- What the end of a load step leaves as it is. -/
structure LoadEndFrame (s t : State) : Prop where
  engine : t.engine = s.engine
  points : t.points = s.points
  errors : t.notice.errors = s.notice.errors
  nv : t.nv = s.nv

theorem pageEnded_frame (s : State) (page : Fin 8) : LoadEndFrame s (pageEnded s page) := by
  unfold pageEnded
  split
  · cases asserted : s.run.pfwAsserted with
    | false =>
      rw [endLoading_run asserted]
      exact ⟨rfl, rfl, rfl, rfl⟩
    | true =>
      obtain ⟨proc, port, ended⟩ := endLoading_holdup asserted
      rw [ended]
      exact ⟨rfl, rfl, rfl, rfl⟩
  · exact ⟨rfl, rfl, rfl, rfl⟩

theorem pageEnded_commit (s : State) (page : Fin 8) :
    (pageEnded s page).commit = if endsInHoldup s page then s.makeAllUrgent.commit else s.commit := by
  unfold pageEnded endsInHoldup
  split
  · rename_i last
    cases asserted : s.run.pfwAsserted with
    | false =>
      rw [endLoading_run asserted]
      simp only [last]
      rfl
    | true =>
      obtain ⟨proc, port, ended⟩ := endLoading_holdup asserted
      rw [ended]
      simp only [last]
      rfl
  · rename_i other
    simp [other]

theorem pageEnded_commit_frame (s : State) (page : Fin 8) :
    (pageEnded s page).commit = { s.commit with
      dirty := (pageEnded s page).commit.dirty, eligible := (pageEnded s page).commit.eligible } := by
  rw [pageEnded_commit]
  split <;> rfl

theorem pageEnded_dirty (s : State) (page : Fin 8) (q : Fin 9) :
    (pageEnded s page).commit.dirty[q] =
      s.commit.dirty[q].map fun r => { r with urgent := r.urgent || endsInHoldup s page } := by
  have commit := pageEnded_commit s page
  cases ends : endsInHoldup s page with
  | false =>
    rw [if_neg (by simp [ends])] at commit
    simp [commit]
  | true =>
    rw [if_pos ends] at commit
    simpa [commit] using makeAllUrgent_dirty s q

theorem pageEnded_eligible (s : State) (page : Fin 8) :
    (pageEnded s page).commit.eligible =
      if endsInHoldup s page then
        joinedAscending s.commit.eligible fun q => ((pageEnded s page).commit.dirty[q]).isSome
      else s.commit.eligible := by
  have dirty : (fun q : Fin 9 => ((pageEnded s page).commit.dirty[q]).isSome) = fun q => (s.commit.dirty[q]).isSome :=
    funext fun q => by rw [pageEnded_dirty, Option.isSome_map]
  rw [dirty, pageEnded_commit]
  split
  · exact makeAllUrgent_eligible s
  · rfl

/-- The end of load (R192, R194). -/
theorem pageEnded_last (s : State) :
    (pageEnded s 7).run.loadPage = 0 ∧ (pageEnded s 7).timer.remaining = s.timer.periodLength ∧
      (s.run.pfwAsserted = false → (pageEnded s 7).run.runState = .run) ∧
      (s.run.pfwAsserted = true → (pageEnded s 7).run.runState = .holdup ∧ (pageEnded s 7).notice.power = true) := by
  change s.endLoading.run.loadPage = 0 ∧ s.endLoading.timer.remaining = _ ∧
    (_ → s.endLoading.run.runState = _) ∧ (_ → s.endLoading.run.runState = _ ∧ s.endLoading.notice.power = _)
  cases asserted : s.run.pfwAsserted with
  | false =>
    rw [endLoading_run asserted]
    exact ⟨rfl, rfl, fun _ => rfl, nofun⟩
  | true =>
    obtain ⟨proc, port, ended⟩ := endLoading_holdup asserted
    rw [ended]
    exact ⟨rfl, rfl, nofun, fun _ => ⟨rfl, rfl⟩⟩

end Sys2Proof.Machine.Proofs

namespace Sys2Proof.Machine.Proofs

open Sys2Proof Sys2Proof.Machine Sys2Proof.Machine.Laws

/-! ### The bindings that load of a page clears (R78, R188) -/

/-- Some point is bound to a slot of the page that has loaded FREE. -/
def BindingCleared (s : State) (page : Fin 8) : Prop :=
  ∃ (p : Fin 16) (slot : Fin 64), (s.point p).binding = some slot ∧ slot.val / 8 = page.val ∧ (s.slot slot).status = .free

theorem bindingLost_iff (s : State) (page : Fin 8) (p : Point) :
    s.bindingLost page p = true ↔
      ∃ slot : Fin 64, p.binding = some slot ∧ slot.val / 8 = page.val ∧ (s.slot slot).status = .free := by
  unfold State.bindingLost
  cases p.binding with
  | none => simp
  | some slot => simp [onPage_iff]

theorem any_bindingLost_iff (s : State) (page : Fin 8) :
    s.points.points.toList.any (s.bindingLost page) = true ↔ BindingCleared s page := by
  simp only [toList_any_iff, bindingLost_iff]
  rfl

theorem reconcile_of_cleared {s : State} {page : Fin 8} (h : BindingCleared s page) :
    s.reconcile page = ((s.mapPoints (s.reconciled page)).countBindings page).report 8 true :=
  if_pos ((any_bindingLost_iff s page).mpr h)

theorem reconcile_of_kept {s : State} {page : Fin 8} (h : ¬BindingCleared s page) :
    s.reconcile page = (s.mapPoints (s.reconciled page)).countBindings page :=
  if_neg fun lost => h ((any_bindingLost_iff s page).mp lost)

theorem counted_commit (s : State) (page : Fin 8) :
    ((s.mapPoints (s.reconciled page)).countBindings page).commit = s.commit := by
  rw [countBindings_commit]
  rfl

/-- A cleared binding is a change of the settings page. -/
theorem reconcile_reports {s : State} {page : Fin 8} (h : BindingCleared s page) :
    ReportedUrgent s (s.reconcile page) 8 := by
  have commit := counted_commit s page
  exact reportedUrgent_congr (report_urgent (urgent := true) 8 rfl) (by rw [commit]) (by rw [commit])
    (by rw [reconcile_of_cleared h])

theorem reconcile_commit_of_kept {s : State} {page : Fin 8} (h : ¬BindingCleared s page) :
    (s.reconcile page).commit = s.commit := by
  rw [reconcile_of_kept h, counted_commit]

theorem reconcile_dirty (s : State) (page : Fin 8) {q : Fin 9} (h : q ≠ 8 ∨ ¬BindingCleared s page) :
    (s.reconcile page).commit.dirty[q] = s.commit.dirty[q] := by
  by_cases cleared : BindingCleared s page
  · have other : q ≠ 8 := h.resolve_right fun kept => kept cleared
    simp only [reconcile_of_cleared cleared]
    rw [dirty_report, if_neg other.symm]
    simp only [counted_commit]
  · simp only [reconcile_commit_of_kept cleared]

theorem reconcile_commit_frame (s : State) (page : Fin 8) :
    (s.reconcile page).commit = { s.commit with
      dirty := (s.reconcile page).commit.dirty, eligible := (s.reconcile page).commit.eligible } := by
  by_cases cleared : BindingCleared s page
  · rw [reconcile_of_cleared cleared]
    change ({ (State.commit _) with dirty := _, eligible := _ } : CommitEngine) = _
    rw [counted_commit]
    rfl
  · rw [reconcile_commit_of_kept cleared]

theorem reconcile_nv (s : State) (page : Fin 8) : (s.reconcile page).nv = s.nv := by
  rcases reconcile_cases s page with h | h <;> rw [h] <;> simp

theorem reconcile_port (s : State) (page : Fin 8) : (s.reconcile page).port = s.port := by
  have counted (u : State) : (u.countBindings page).port = u.port := by simp only [State.countBindings]
  rcases reconcile_cases s page with h | h <;> rw [h] <;> simp [counted]

theorem reconcile_status (s : State) (page : Fin 8) (i : Fin 64) :
    ((s.reconcile page).slot i).status = (s.slot i).status := by
  rw [reconcile_slot]
  split <;> rfl

theorem reconcile_level (s : State) (page : Fin 8) (i : Fin 64) :
    ((s.reconcile page).slot i).level = (s.slot i).level := by
  rw [reconcile_slot]
  split <;> rfl

/-- A slot of the page counts the points that were bound to it, all of which stay bound unless it is FREE. -/
theorem reconcile_slot_onPage (s : State) {page : Fin 8} {i : Fin 64} (h : onPage page i = true) :
    (s.reconcile page).slot i =
      { s.slot i with boundCount := if (s.slot i).status = .free then 0 else s.bindingsOf i } := by
  have bound (p : Fin 16) : ((s.reconcile page).point p).binding = some i ↔
      (s.point p).binding = some i ∧ (s.slot i).status ≠ .free := by
    rw [reconcile_point, reconciled_binding_iff, h]
    simp
  rw [reconcile_slot, if_pos h]
  split
  · rename_i free
    rw [bindingsOf_eq_zero fun p stays => ((bound p).mp stays).2 free]
  · rename_i held
    rw [bindingsOf_congr (t := s.reconcile page) (s := s) fun p => (bound p).trans (and_iff_left held)]

theorem reconciled_free {s : State} {page : Fin 8} {p : Point} {slot : Fin 64} (bound : p.binding = some slot)
    (there : slot.val / 8 = page.val) (free : (s.slot slot).status = .free) : s.reconciled page p = p.detached := by
  simp only [State.reconciled, bound]
  rw [if_pos ((onPage_iff page slot).mpr there), if_pos free]

theorem reconciled_held {s : State} {page : Fin 8} {p : Point} {slot : Fin 64} (bound : p.binding = some slot)
    (there : slot.val / 8 = page.val) (held : (s.slot slot).status ≠ .free) :
    s.reconciled page p = p.notified s.points.deferral (s.slot slot).status (s.slot slot).level := by
  simp only [State.reconciled, bound]
  rw [if_pos ((onPage_iff page slot).mpr there), if_neg held]

theorem reconciled_elsewhere {s : State} {page : Fin 8} {p : Point}
    (elsewhere : ∀ slot : Fin 64, p.binding = some slot → slot.val / 8 ≠ page.val) : s.reconciled page p = p := by
  unfold State.reconciled
  split
  · rename_i slot bound
    exact if_neg fun there => elsewhere slot bound ((onPage_iff page slot).mp there)
  · rfl

end Sys2Proof.Machine.Proofs

namespace Sys2Proof.Machine.Proofs

open Sys2Proof Sys2Proof.Machine Sys2Proof.Machine.Laws

/-! ### An account page by its class (R187) -/

theorem foldl_keeps {α : Type} (read : State → α) {f : State → Fin 8 → State} (h : ∀ s j, read (f s j) = read s)
    (js : List (Fin 8)) (s : State) : read (js.foldl f s) = read s := by
  induction js generalizing s with
  | nil => rfl
  | cons j js ih => exact (ih (f s j)).trans (h s j)

/-- The same record written to the slots of a page, one after another. -/
theorem foldl_slot {page : Fin 8} {a : Account} {f : State → Fin 8 → State}
    (h : ∀ s j i, (f s j).slot i = if slotAt page j = i then a else s.slot i) (js : List (Fin 8)) (s : State) (i : Fin 64) :
    (js.foldl f s).slot i = if ∃ j ∈ js, slotAt page j = i then a else s.slot i := by
  induction js generalizing s with
  | nil => simp
  | cons j js ih =>
    rw [List.foldl_cons, ih, h]
    by_cases first : slotAt page j = i <;> simp [first]

theorem foldl_slotAt {page : Fin 8} {a : Account} {f : State → Fin 8 → State}
    (h : ∀ s j i, (f s j).slot i = if slotAt page j = i then a else s.slot i) (s : State) (j : Fin 8) :
    ((List.finRange 8).foldl f s).slot (slotAt page j) = a := by
  rw [foldl_slot h, if_pos ⟨j, List.mem_finRange j, rfl⟩]

theorem applyAccountPage_port (s : State) (page : Fin 8) : (s.applyAccountPage page).port = s.port := by
  obtain ⟨engine, notice, applied⟩ := applyAccountPage_loads s page
  rw [applied]
  split <;> rfl

theorem applyAccountPage_erased {s : State} {page : Fin 8} (h : s.nv[page.castSucc] = .erased) :
    s.applyAccountPage page = (List.finRange 8).foldl (fun t j => t.setSlot (slotAt page j) Account.free) s := by
  rw [State.applyAccountPage, h]

theorem applyAccountPage_damaged {s : State} {page : Fin 8} (h : s.nv[page.castSucc] = .damaged) :
    s.applyAccountPage page = (s.markDamaged page.castSucc).quarantinePage page := by
  rw [State.applyAccountPage, h]

theorem applyAccountPage_accounts {s : State} {page : Fin 8} {stored : Vector StoredAccount 8}
    (h : s.nv[page.castSucc] = .good (.accounts stored)) :
    s.applyAccountPage page = (List.finRange 8).foldl (fun t j => t.loadSlot (slotAt page j) stored[j]) s := by
  rw [State.applyAccountPage, h]

/-- An erased page loads FREE slots, with no entry and no damage. -/
structure PageFreed (s t : State) (page : Fin 8) : Prop where
  slot : ∀ j : Fin 8, t.slot (slotAt page j) = Account.free
  directory : t.engine.directory = s.engine.directory
  attention : t.engine.attention = s.engine.attention
  errors : t.notice.errors = s.notice.errors

theorem pageFreed {s : State} {page : Fin 8} (h : s.nv[page.castSucc] = .erased) :
    PageFreed s (s.applyAccountPage page) page := by
  rw [applyAccountPage_erased h]
  constructor
  case slot => exact foldl_slotAt (fun u j i => slot_setSlot u (slotAt page j) i Account.free) s
  case directory => exact foldl_keeps (fun u => u.engine.directory) (by intros; rfl) _ s
  case attention => exact foldl_keeps (fun u => u.engine.attention) (by intros; rfl) _ s
  case errors => exact foldl_keeps (fun u => u.notice.errors) (by intros; rfl) _ s

/-- A damaged page loads QUARANTINED slots, each with its entry at the tail of the attention list. -/
structure PageQuarantined (s t : State) (page : Fin 8) : Prop where
  slot : ∀ j : Fin 8, t.slot (slotAt page j) = zeroedRecord
  directory : t.engine.directory = s.engine.directory
  attention : t.engine.attention = (List.finRange 8).foldl (fun entries j =>
    joinReasons (slotAt page j) { quarantine := true } entries) s.engine.attention
  errors : t.notice.errors = { s.notice.errors with loadDamage := true }

/-- One slot of a damaged page. -/
def quarantineRecord (page : Fin 8) (s : State) (j : Fin 8) : State :=
  (s.quarantine (slotAt page j) zeroedRecord).setLoadDamage

theorem quarantinePage_eq (s : State) (page : Fin 8) :
    s.quarantinePage page = (List.finRange 8).foldl (quarantineRecord page) s := rfl

theorem quarantineRecord_slot (page : Fin 8) (s : State) (j : Fin 8) (i : Fin 64) :
    (quarantineRecord page s j).slot i = if slotAt page j = i then zeroedRecord else s.slot i := by
  have record : (quarantineRecord page s j).slot i = (s.quarantine (slotAt page j) zeroedRecord).slot i := rfl
  rw [record, State.quarantine, slot_addReasons, slot_setSlot]
  rfl

theorem quarantineRecord_directory (page : Fin 8) (s : State) (j : Fin 8) :
    (quarantineRecord page s j).engine.directory = s.engine.directory := by
  rw [quarantineRecord, setLoadDamage_engine, State.quarantine, addReasons_directory]
  rfl

theorem quarantineRecord_attention (page : Fin 8) (s : State) (j : Fin 8) :
    (quarantineRecord page s j).engine.attention =
      joinReasons (slotAt page j) { quarantine := true } s.engine.attention := by
  rw [quarantineRecord, setLoadDamage_engine, State.quarantine, addReasons_attention]
  rfl

theorem quarantineRecord_errors (page : Fin 8) (s : State) (j : Fin 8) :
    (quarantineRecord page s j).notice.errors = { s.notice.errors with loadDamage := true } := by
  simp only [quarantineRecord, State.setLoadDamage, quarantine_notice]

theorem quarantinePage_quarantined (s : State) (page : Fin 8) : PageQuarantined s (s.quarantinePage page) page := by
  rw [quarantinePage_eq]
  constructor
  case slot => exact foldl_slotAt (quarantineRecord_slot page) s
  case directory => exact foldl_keeps (fun u => u.engine.directory) (quarantineRecord_directory page) _ s
  case attention =>
    exact (List.foldl_hom (fun u : State => u.engine.attention)
      fun u j => (quarantineRecord_attention page u j).symm).symm
  case errors =>
    have damage := List.foldl_hom (l := List.finRange 8) (init := s) (fun u : State => u.notice.errors)
      (g₂ := fun errors _ => { errors with loadDamage := true }) fun u j => (quarantineRecord_errors page u j).symm
    exact damage.symm

theorem pageQuarantined {s : State} {page : Fin 8} (h : s.nv[page.castSucc] = .damaged) :
    PageQuarantined s (s.applyAccountPage page) page := by
  rw [applyAccountPage_damaged h]
  obtain ⟨slot, directory, attention, errors⟩ := quarantinePage_quarantined (s.markDamaged page.castSucc) page
  exact ⟨slot, directory, attention, errors⟩

end Sys2Proof.Machine.Proofs

namespace Sys2Proof.Machine.Proofs

open Sys2Proof Sys2Proof.Machine Sys2Proof.Machine.Laws

/-! ### The state after LOAD_ACCOUNT_PAGE (R78, R187, R188, R192) -/

/-- The page applied, its points reconciled, and load moved on. -/
def pageLoaded (s : State) (page : Fin 8) : State := pageEnded ((s.applyAccountPage page).reconcile page) page

theorem applyAccountPage_point (s : State) (page : Fin 8) (p : Fin 16) : (s.applyAccountPage page).point p = s.point p :=
  point_of_points (applyAccountPage_frame s page).points p

theorem pageLoaded_engine (s : State) (page : Fin 8) :
    (pageLoaded s page).engine = ((s.applyAccountPage page).reconcile page).engine :=
  (pageEnded_frame _ page).engine

theorem pageLoaded_slot (s : State) (page : Fin 8) (i : Fin 64) :
    (pageLoaded s page).slot i = ((s.applyAccountPage page).reconcile page).slot i :=
  slot_of_slots (congrArg AccountEngine.slots (pageLoaded_engine s page)) i

theorem pageLoaded_slot_elsewhere (s : State) {page : Fin 8} {i : Fin 64} (h : i.val / 8 ≠ page.val) :
    (pageLoaded s page).slot i = s.slot i := by
  have elsewhere : onPage page i = false := Bool.eq_false_iff.mpr fun there => h ((onPage_iff page i).mp there)
  rw [pageLoaded_slot, reconcile_slot, elsewhere, applyAccountPage_other s page elsewhere]
  rfl

/-- A slot of the page holds what the page gives it, with the points bound to it. -/
theorem pageLoaded_slotAt (s : State) (page j : Fin 8) :
    (pageLoaded s page).slot (slotAt page j) =
      { (s.applyAccountPage page).slot (slotAt page j) with boundCount :=
          if ((s.applyAccountPage page).slot (slotAt page j)).status = .free then 0 else s.bindingsOf (slotAt page j) } := by
  rw [pageLoaded_slot, reconcile_slot_onPage _ (slotAt_onPage page j),
    bindingsOf_of_points (applyAccountPage_frame s page).points]

theorem pageLoaded_status (s : State) (page : Fin 8) (i : Fin 64) :
    ((pageLoaded s page).slot i).status = ((s.applyAccountPage page).slot i).status := by
  rw [pageLoaded_slot, reconcile_status]

theorem pageLoaded_level (s : State) (page : Fin 8) (i : Fin 64) :
    ((pageLoaded s page).slot i).level = ((s.applyAccountPage page).slot i).level := by
  rw [pageLoaded_slot, reconcile_level]

theorem pageLoaded_op (s : State) (page : Fin 8) : (pageLoaded s page).engine.op = s.engine.op := by
  rw [pageLoaded_engine, (reconcile_frame _ page).op, (applyAccountPage_frame s page).op]

theorem pageLoaded_directory (s : State) (page : Fin 8) :
    (pageLoaded s page).engine.directory = (s.applyAccountPage page).engine.directory := by
  rw [pageLoaded_engine, (reconcile_frame _ page).directory]

theorem pageLoaded_attention (s : State) (page : Fin 8) :
    (pageLoaded s page).engine.attention = (s.applyAccountPage page).engine.attention := by
  rw [pageLoaded_engine, (reconcile_frame _ page).attention]

theorem pageLoaded_errors (s : State) (page : Fin 8) :
    (pageLoaded s page).notice.errors = (s.applyAccountPage page).notice.errors := by
  rw [pageLoaded, (pageEnded_frame _ page).errors, reconcile_notice]

theorem pageLoaded_nv (s : State) (page : Fin 8) : (pageLoaded s page).nv = s.nv := by
  rw [pageLoaded, (pageEnded_frame _ page).nv, reconcile_nv, applyAccountPage_nv]

/-- Before the last page, load has only moved on to the next. -/
theorem pageLoaded_goesOn (s : State) {page : Fin 8} (h : page ≠ 7) :
    (pageLoaded s page).run = { s.run with loadPage := page.succ } ∧ (pageLoaded s page).timer = s.timer ∧
      (pageLoaded s page).proc = s.proc ∧ (pageLoaded s page).port = s.port := by
  have applied := applyAccountPage_frame s page
  have reconciled := reconcile_frame (s.applyAccountPage page) page
  rw [pageLoaded, pageEnded, if_neg h]
  refine ⟨?_, reconciled.timer.trans applied.timer, (reconcile_proc ..).trans (applyAccountPage_proc ..),
    (reconcile_port ..).trans (applyAccountPage_port ..)⟩
  rw [← applied.run, ← reconciled.run]

/-! ### Its points -/

theorem pageLoaded_points (s : State) (page : Fin 8) :
    (pageLoaded s page).points = { s.points with points := (pageLoaded s page).points.points } := by
  have points : (pageLoaded s page).points = ((s.applyAccountPage page).mapPoints _).points :=
    (pageEnded_frame _ page).points.trans (reconcile_points ..)
  rw [points, ← (applyAccountPage_frame s page).points]
  rfl

theorem pageLoaded_point (s : State) (page : Fin 8) (p : Fin 16) :
    (pageLoaded s page).point p = (s.applyAccountPage page).reconciled page (s.point p) := by
  rw [pageLoaded, point_of_points (pageEnded_frame _ page).points, reconcile_point, applyAccountPage_point]

theorem pageLoaded_point_free {s : State} {page : Fin 8} {p : Fin 16} {slot : Fin 64}
    (bound : (s.point p).binding = some slot) (there : slot.val / 8 = page.val)
    (free : ((pageLoaded s page).slot slot).status = .free) : (pageLoaded s page).point p = (s.point p).detached := by
  rw [pageLoaded_status] at free
  rw [pageLoaded_point, reconciled_free bound there free]

theorem pageLoaded_point_held {s : State} {page : Fin 8} {p : Fin 16} {slot : Fin 64}
    (bound : (s.point p).binding = some slot) (there : slot.val / 8 = page.val)
    (held : ((pageLoaded s page).slot slot).status ≠ .free) :
    (pageLoaded s page).point p = (s.point p).notified s.points.deferral ((pageLoaded s page).slot slot).status
      ((pageLoaded s page).slot slot).level := by
  rw [pageLoaded_status] at held
  rw [pageLoaded_point, reconciled_held bound there held, (applyAccountPage_frame s page).points, pageLoaded_status,
    pageLoaded_level]

theorem pageLoaded_point_elsewhere {s : State} {page : Fin 8} {p : Fin 16}
    (elsewhere : ∀ slot : Fin 64, (s.point p).binding = some slot → slot.val / 8 ≠ page.val) :
    (pageLoaded s page).point p = s.point p := by
  rw [pageLoaded_point, reconciled_elsewhere elsewhere]

/-! ### Its Commit Engine -/

/-- The bindings that are cleared, read from the state that load of the page leaves. -/
theorem bindingCleared_iff (s : State) (page : Fin 8) :
    (∃ (p : Fin 16) (slot : Fin 64), (s.point p).binding = some slot ∧ slot.val / 8 = page.val ∧
      ((pageLoaded s page).slot slot).status = .free) ↔ BindingCleared (s.applyAccountPage page) page := by
  simp only [BindingCleared, pageLoaded_status, applyAccountPage_point]

theorem pageLoaded_endsInHoldup (s : State) (page : Fin 8) :
    endsInHoldup ((s.applyAccountPage page).reconcile page) page = (decide (page = 7) && s.run.pfwAsserted) := by
  rw [endsInHoldup, (reconcile_frame _ page).run, (applyAccountPage_frame s page).run]

theorem applyAccountPage_dirty (s : State) (page : Fin 8) : (s.applyAccountPage page).commit.dirty = s.commit.dirty := by
  rw [applyAccountPage_commit]

theorem applyAccountPage_eligible (s : State) (page : Fin 8) :
    (s.applyAccountPage page).commit.eligible = s.commit.eligible := by
  rw [applyAccountPage_commit]

theorem pageLoaded_unverified (s : State) (page : Fin 8) :
    (pageLoaded s page).commit.unverified =
      if s.nv[page.castSucc] = .damaged then s.commit.unverified ||| pageBit page.castSucc else s.commit.unverified := by
  rw [pageLoaded, pageEnded_commit_frame]
  change ((s.applyAccountPage page).reconcile page).commit.unverified = _
  rw [reconcile_commit_frame]
  change (s.applyAccountPage page).commit.unverified = _
  rw [applyAccountPage_commit]

theorem pageLoaded_commit (s : State) (page : Fin 8) :
    (pageLoaded s page).commit = { s.commit with
      dirty := (pageLoaded s page).commit.dirty, eligible := (pageLoaded s page).commit.eligible
      unverified := (pageLoaded s page).commit.unverified } := by
  have ended : (pageLoaded s page).commit = { ((s.applyAccountPage page).reconcile page).commit with
      dirty := (pageLoaded s page).commit.dirty, eligible := (pageLoaded s page).commit.eligible } :=
    pageEnded_commit_frame _ page
  rw [reconcile_commit_frame, applyAccountPage_commit, ← pageLoaded_unverified] at ended
  exact ended

/-- The change report of a cleared binding, taken before the end of load. -/
theorem reconcile_reports_loaded {s : State} {page : Fin 8} (h : BindingCleared (s.applyAccountPage page) page) :
    ReportedUrgent s ((s.applyAccountPage page).reconcile page) 8 := by
  have reported := reconcile_reports h
  unfold ReportedUrgent RecordedUrgent at reported ⊢
  simpa only [applyAccountPage_dirty, applyAccountPage_eligible] using reported

theorem pageLoaded_dirty (s : State) (page : Fin 8) (q : Fin 9) :
    (pageLoaded s page).commit.dirty[q] = ((s.applyAccountPage page).reconcile page).commit.dirty[q].map
      fun r => { r with urgent := r.urgent || (decide (page = 7) && s.run.pfwAsserted) } := by
  rw [← pageLoaded_endsInHoldup]
  exact pageEnded_dirty _ page q

theorem pageLoaded_dirty_other {s : State} {page : Fin 8} {q : Fin 9}
    (h : q ≠ 8 ∨ ¬BindingCleared (s.applyAccountPage page) page) :
    (pageLoaded s page).commit.dirty[q] =
      s.commit.dirty[q].map fun r => { r with urgent := r.urgent || (decide (page = 7) && s.run.pfwAsserted) } := by
  rw [pageLoaded_dirty, reconcile_dirty _ page h]
  simp only [applyAccountPage_dirty]

/-- The settings page stays urgent when every other page becomes so. -/
theorem pageLoaded_recorded {s : State} {page : Fin 8} (h : BindingCleared (s.applyAccountPage page) page) :
    RecordedUrgent s (pageLoaded s page) 8 := by
  obtain ⟨recorded, -⟩ := reconcile_reports_loaded h
  rw [RecordedUrgent] at recorded ⊢
  rw [pageLoaded_dirty, recorded]
  rfl

theorem pageLoaded_eligible (s : State) (page : Fin 8) :
    (pageLoaded s page).commit.eligible =
      if decide (page = 7) && s.run.pfwAsserted then
        joinedAscending ((s.applyAccountPage page).reconcile page).commit.eligible
          fun q => ((pageLoaded s page).commit.dirty[q]).isSome
      else ((s.applyAccountPage page).reconcile page).commit.eligible := by
  rw [← pageLoaded_endsInHoldup]
  exact pageEnded_eligible _ page

theorem reconcile_eligible_kept {s : State} {page : Fin 8} (h : ¬BindingCleared (s.applyAccountPage page) page) :
    ((s.applyAccountPage page).reconcile page).commit.eligible = s.commit.eligible := by
  rw [reconcile_commit_of_kept h, applyAccountPage_eligible]

/-- The power warning has come before the last page: every dirty page is urgent after it (R194). -/
theorem pageLoaded_urgent {s : State} (h : s.run.pfwAsserted = true) {q : Fin 9} {r : DirtyRecord}
    (dirty : (pageLoaded s 7).commit.dirty[q] = some r) : r.urgent = true := by
  rw [pageLoaded_dirty, Option.map_eq_some_iff] at dirty
  obtain ⟨old, -, rfl⟩ := dirty
  simp [h]

theorem pageLoaded_last (s : State) :
    (pageLoaded s 7).run.loadPage = 0 ∧ (pageLoaded s 7).timer.remaining = s.timer.periodLength ∧
      (s.run.pfwAsserted = false → (pageLoaded s 7).run.runState = .run) ∧
      (s.run.pfwAsserted = true → (pageLoaded s 7).run.runState = .holdup ∧ (pageLoaded s 7).notice.power = true) := by
  have ended := pageEnded_last ((s.applyAccountPage 7).reconcile 7)
  rw [(reconcile_frame _ 7).run, (reconcile_frame _ 7).timer, (applyAccountPage_frame s 7).run,
    (applyAccountPage_frame s 7).timer] at ended
  exact ended

end Sys2Proof.Machine.Proofs

namespace Sys2Proof.Machine.Proofs

open Sys2Proof Sys2Proof.Machine Sys2Proof.Machine.Laws

/-! ### The account pages by their class (R187, R188, R192) -/

theorem pageLoaded_erased {s : State} {page : Fin 8} (h : s.nv[page.castSucc] = .erased) :
    PageFreed s (pageLoaded s page) page := by
  obtain ⟨slot, directory, attention, errors⟩ := pageFreed h
  refine ⟨fun j => ?_, (pageLoaded_directory s page).trans directory, (pageLoaded_attention s page).trans attention,
    (pageLoaded_errors s page).trans errors⟩
  rw [pageLoaded_slotAt, slot]
  rfl

theorem pageLoaded_damaged {s : State} {page : Fin 8} (h : s.nv[page.castSucc] = .damaged) :
    (∀ j : Fin 8, (pageLoaded s page).slot (slotAt page j) =
        { zeroedRecord with boundCount := s.bindingsOf (slotAt page j) }) ∧
      (pageLoaded s page).engine.attention = (List.finRange 8).foldl (fun entries j =>
        joinReasons (slotAt page j) { quarantine := true } entries) s.engine.attention ∧
      (pageLoaded s page).engine.directory = s.engine.directory ∧
      (pageLoaded s page).notice.errors = { s.notice.errors with loadDamage := true } := by
  obtain ⟨slot, directory, attention, errors⟩ := pageQuarantined h
  refine ⟨fun j => ?_, (pageLoaded_attention s page).trans attention, (pageLoaded_directory s page).trans directory,
    (pageLoaded_errors s page).trans errors⟩
  rw [pageLoaded_slotAt, slot]
  rfl

/-- Settles O5: the page by its class, the points by the slot each is bound to, the report of a cleared binding, and the end
of load. -/
theorem accountPagesLoadByClass : Obligations.AccountPagesLoadByClass := by
  refine ⟨fun s k loading due => ⟨pageLoaded s k, loadAccountPage_ends loading due, pageLoaded_nv s k,
    pageLoaded_op s k, fun i => pageLoaded_slot_elsewhere s, pageLoaded_goesOn s, fun erased => ?_, pageLoaded_damaged,
    pageLoaded_unverified s k, fun stored good => ?_,
    fun p slot bound there => ⟨pageLoaded_point_free bound there, pageLoaded_point_held bound there⟩,
    fun p => pageLoaded_point_elsewhere, pageLoaded_points s k, pageLoaded_commit s k, ?_⟩,
    fun s loading due => ⟨pageLoaded s 7, loadAccountPage_ends loading due, ?_⟩⟩
  · obtain ⟨slot, directory, attention, errors⟩ := pageLoaded_erased erased
    exact ⟨slot, directory, attention, errors⟩
  · rw [← applyAccountPage_accounts good]
    exact ⟨pageLoaded_slotAt s k, pageLoaded_directory s k, pageLoaded_attention s k, pageLoaded_errors s k⟩
  · intro cleared urgentAll joined
    have iff : cleared ↔ BindingCleared (s.applyAccountPage k) k := bindingCleared_iff s k
    have eligible : (pageLoaded s k).commit.eligible =
        joined ((s.applyAccountPage k).reconcile k).commit.eligible := pageLoaded_eligible s k
    refine ⟨fun q other => pageLoaded_dirty_other (other.imp_right (mt iff.mpr)), fun lost => ?_, fun kept => ?_⟩
    · obtain ⟨-, reported⟩ := reconcile_reports_loaded (iff.mp lost)
      exact ⟨pageLoaded_recorded (iff.mp lost), eligible.trans (congrArg joined reported)⟩
    · exact eligible.trans (congrArg joined (reconcile_eligible_kept (mt iff.mpr kept)))
  · obtain ⟨page, remaining, run, holdup⟩ := pageLoaded_last s
    refine ⟨page, remaining, run, fun warned => ?_⟩
    obtain ⟨state, power⟩ := holdup warned
    exact ⟨state, power, fun q r => pageLoaded_urgent warned⟩

end Sys2Proof.Machine.Proofs

namespace Sys2Proof.Machine.Proofs

open Sys2Proof Sys2Proof.Machine Sys2Proof.Machine.Laws

/-! ### The invariants at reset (R15, R20, R97, R160, R175, R190, R209) -/

theorem reset_loadingQuiet : LoadingQuiet State.reset :=
  (loadingQuiet_iff _).mpr ⟨fun _ => ⟨rfl, rfl, rfl, rfl, rfl, rfl⟩, fun _ => rfl⟩

theorem reset_queuesFit : QueuesFit State.reset :=
  ⟨Nat.zero_le _, Nat.zero_le _, fun _ busy => nomatch busy⟩

theorem reset_stackOrdered : StackOrdered State.reset := ⟨List.Pairwise.nil, fun _ => rfl⟩

theorem reset_eligibleDirty : EligibleDirty State.reset := by
  refine ⟨List.nodup_nil, fun _ listed => absurd listed List.not_mem_nil, fun page r dirty => ?_⟩
  rw [reset_dirty] at dirty
  cases dirty

theorem reset_repairsUnverified : RepairsUnverified State.reset :=
  ⟨fun _ busy => (nomatch busy), fun _ marked => absurd (BitVec.getLsbD_zero.symm.trans marked) Bool.false_ne_true⟩

theorem reset_pointsLegal : PointsLegal State.reset := fun p => by
  rw [reset_point]
  simp [Point.legal]

theorem reset_periodInRange : PeriodInRange State.reset :=
  ⟨reset_loadingQuiet, by decide, by decide, fun operating => (nomatch operating), fun paused => (nomatch paused),
    fun run => (nomatch run)⟩

theorem reset_directorySound : DirectorySound State.reset := by
  refine ⟨reset_loadingQuiet, fun i _ => ?_, List.Pairwise.nil, fun _ entry => absurd entry List.not_mem_nil,
    fun i listed => ?_⟩
  · rw [reset_slot]
    rfl
  · rw [reset_slot] at listed
    cases listed

theorem reset_bindingsOf (i : Fin 64) : State.reset.bindingsOf i = 0 :=
  List.countP_eq_zero.mpr fun p _ => by simp [reset_point]

theorem reset_boundCountsAgree : BoundCountsAgree State.reset := by
  refine ⟨reset_directorySound, fun p => ?_, fun i _ => ?_, fun i _ => ?_⟩
  · rw [reset_point]
    exact ⟨fun _ => rfl, fun _ => rfl⟩
  · rw [reset_slot]
    rfl
  · rw [reset_slot, reset_bindingsOf]
    rfl

theorem reset_viewsAgree : ViewsAgree State.reset := by
  refine ⟨reset_boundCountsAgree, fun p slot bound => ?_, fun _ _ _ _ busy => nomatch busy⟩
  rw [reset_point] at bound
  cases bound

theorem reset_accountsInRange : AccountsInRange State.reset :=
  (accountsInRange_iff _).mpr fun i => by
    rw [reset_slot]
    exact free_inRange

theorem reset_attentionSound : AttentionSound State.reset :=
  ⟨reset_viewsAgree, List.nodup_nil, fun _ entry => absurd entry List.not_mem_nil⟩

/-- Settles O52: with every slot FREE, every point unbound and nothing in hand, each invariant holds. -/
theorem invariantsHoldAtReset : Obligations.InvariantsHoldAtReset :=
  ⟨reset_queuesFit, reset_stackOrdered, reset_eligibleDirty, reset_repairsUnverified, reset_pointsLegal,
    reset_periodInRange, reset_directorySound, reset_boundCountsAgree, reset_accountsInRange, reset_viewsAgree,
    reset_attentionSound⟩

/-! ### RESET and LOADING_START (R171, R185, R190, R200) -/

/-- Every block of the part at its reset values, the lines of the meters and the level of CS_N as they were (R190, R200). -/
structure VolatileCleared (s t : State) : Prop where
  engine : t.engine = AccountEngine.atReset
  timer : t.timer = PeriodTimer.atReset
  proc : t.proc = CommandProcessor.atReset
  port : t.port = TopUpPort.atReset
  notice : t.notice = NoticeController.atReset
  commit : t.commit = CommitEngine.atReset
  deferral : t.points.deferral = false
  tally : t.points.tally = none
  point : ∀ p, t.point p = { line := (s.point p).line }
  spi : t.spi = { selected := s.spi.selected, transaction := none }
  pending : t.pending = s.pending

/-- RESET and LOADING_START clear the volatile fields, and write the run state and the array besides. -/
theorem volatileReset_cleared (s : State) (run : RunController) (nv : Vector NvPage 9) :
    VolatileCleared s { s.volatileReset with run, nv } where
  engine := rfl
  timer := rfl
  proc := rfl
  port := rfl
  notice := rfl
  commit := rfl
  deferral := rfl
  tally := rfl
  point p := by simp [State.point, State.volatileReset]
  spi := rfl
  pending := rfl

/-- In RESET every output of the part is off (R190). -/
theorem supplyOn_reset {t : State} (h : t.run.runState = .reset) (p : Fin 16) : t.supplyOn p = false := by
  simp [State.supplyOn, h]

theorem safeAsserted_reset {t : State} (h : t.run.runState = .reset) : t.safeAsserted = false := by
  simp [State.safeAsserted, h]

theorem served_reset {t : State} (h : t.run.runState = .reset) : t.served = false := by
  simp [State.served, h]

theorem noticeAsserted_reset {t : State} (h : t.run.runState = .reset) : t.noticeAsserted = false := by
  simp [State.noticeAsserted, served_reset h]

theorem sdo_undriven {s : State} (h : s.run.runState = .reset ∨ s.spi.selected = false) : s.sdo = .undriven := by
  have off : (s.served && s.spi.selected) = false := by
    rcases h with reset | deselected
    · rw [served_reset reset, Bool.false_and]
    · rw [deselected, Bool.and_false]
  rw [State.sdo, off]
  rfl

/-- The lines of a Top-up Port at its reset values are released (R135, R136, R190). -/
theorem portLines_atReset {t : State} (h : t.port = TopUpPort.atReset) :
    t.clockHeld = false ∧ (∀ place, t.tsdaDrive place = .released) ∧ t.acknowledgeDrive = .released := by
  simp [State.clockHeld, State.tsdaDrive, State.acknowledgeDrive, h, TopUpPort.atReset]

theorem interrupted_iff (phase : CommitPhase) (page : Fin 9) :
    phase.interrupted = some page ↔ phase = .erase page ∨ phase = .program page := by
  cases phase <;> simp [CommitPhase.interrupted]

/-- RESET from any state (R190): the volatile fields cleared, and the array damaged where a commit was writing it. -/
theorem exec_reset (s : State) :
    exec .reset s =
      .next { s.volatileReset with run := { s.run with runState := .reset, loadPage := 0 }, nv := s.resetArray } := rfl

theorem exec_loadingStart {s : State} (h : s.run.runState = .reset) :
    exec .loadingStart s =
      .next { s.volatileReset with run := { s.run with runState := .loading, loadPage := settingsPage } } := by
  simp only [exec, execLoadingStart, h, if_true]

/-- Settles O3: both rows clear the volatile fields; in RESET the outputs are off by the run state and by the reset values
of the port, and the page that a commit was writing is damaged. -/
theorem resetThenLoadingStart : Obligations.ResetThenLoadingStart := by
  refine ⟨fun s => ⟨_, exec_reset s, rfl, fun p => supplyOn_reset rfl p, safeAsserted_reset rfl,
    noticeAsserted_reset rfl, ?_⟩, fun s reset => ⟨_, exec_loadingStart reset, rfl, ?_⟩⟩
  · obtain ⟨engine, timer, proc, port, notice, commit, deferral, tally, point, spi, pending⟩ :=
      volatileReset_cleared s { s.run with runState := .reset, loadPage := 0 } s.resetArray
    obtain ⟨clock, data, acknowledge⟩ := portLines_atReset port
    refine ⟨clock, data, acknowledge, sdo_undriven (.inl rfl), spi, engine, timer, proc, port, notice, commit, deferral,
      tally, point, fun page => ?_, pending⟩
    simpa only [interrupted_iff] using resetArray_page s page
  · obtain ⟨engine, timer, proc, port, notice, commit, deferral, tally, point, spi, pending⟩ :=
      volatileReset_cleared s { s.run with runState := .loading, loadPage := settingsPage } s.nv
    exact ⟨engine, timer, proc, port, notice, commit, deferral, tally, point, spi, rfl, pending⟩

end Sys2Proof.Machine.Proofs

namespace Sys2Proof.Machine.Proofs

open Sys2Proof Sys2Proof.Machine Sys2Proof.Machine.Laws

/-! ### Entry to SAFE and the return to RUN (R92, R189, R193, R196, R198) -/

theorem chargeOutstanding_eq_false_iff (s : State) :
    s.chargeOutstanding = false ↔ ∀ p, (s.point p).chargeRequest = false := by
  simp [State.chargeOutstanding]

/-- What entry to SAFE asks for, block by block (R196). -/
structure NothingLeft (s : State) : Prop where
  clean : ∀ page : Fin 9, s.commit.dirty[page] = none
  phase : s.commit.phase = .idle
  op : s.engine.op = .free
  request : s.port.request = none
  charges : ∀ p, (s.point p).chargeRequest = false
  sweep : s.timer.sweep ≠ .running
  port : s.port.state ≠ .applying
  executing : s.proc.executing = none

/-- With the engine FREE, the Commit Engine IDLE, no charge outstanding and no command executing, a request that waits is the
port's or the sweep's (R43). -/
theorem requestWaits_eq_false_iff {s : State} (op : s.engine.op = .free) (phase : s.commit.phase = .idle)
    (charges : ∀ p, (s.point p).chargeRequest = false) (executing : s.proc.executing = none) :
    s.requestWaits = false ↔ s.port.request = none ∧ s.timer.sweep ≠ .running := by
  have charge : s.firstCharge = none := firstCharge_eq_none op charges
  have gather : s.gatherWaits = none := gatherWaits_eq_none fun page => by rw [phase]; exact nofun
  have command : s.commandWaits = none := commandWaits_eq_none fun cmd => by rw [executing]; exact nofun
  have standing : s.standingWaits = none ↔ s.timer.sweep ≠ .running := by
    cases sweep : s.timer.sweep <;> simp [State.standingWaits, sweep, op]
  simp only [State.requestWaits, charge, gather, command, Option.isSome_none, Bool.or_false, Bool.or_eq_false_iff,
    Option.isSome_eq_false_iff, Option.isNone_iff_eq_none, standing]

theorem holdupDone_iff (s : State) : s.holdupDone = true ↔ NothingLeft s := by
  simp only [State.holdupDone, Bool.and_eq_true, List.isEmpty_iff, dirtyPages_eq_nil_iff, beq_iff_eq, Bool.not_eq_true',
    bne_iff_ne, Option.isNone_iff_eq_none, chargeOutstanding_eq_false_iff]
  constructor
  · rintro ⟨⟨⟨⟨⟨⟨clean, phase⟩, op⟩, waits⟩, charges⟩, port⟩, executing⟩
    obtain ⟨request, sweep⟩ := (requestWaits_eq_false_iff op phase charges executing).mp waits
    exact ⟨clean, phase, op, request, charges, sweep, port, executing⟩
  · rintro ⟨clean, phase, op, request, charges, sweep, port, executing⟩
    exact ⟨⟨⟨⟨⟨⟨clean, phase⟩, op⟩, (requestWaits_eq_false_iff op phase charges executing).mpr ⟨request, sweep⟩⟩,
      charges⟩, port⟩, executing⟩

theorem exec_entryToSafe_entered {s : State} (holdup : s.run.runState = .holdup) (done : NothingLeft s) :
    exec .entryToSafe s =
      .next { s with run := { s.run with runState := .safe }, notice := { s.notice with power := true } } := by
  simp only [exec, execEntryToSafe, if_pos (And.intro holdup ((holdupDone_iff s).mpr done))]

theorem exec_entryToSafe_stays {s : State} (h : ¬(s.run.runState = .holdup ∧ NothingLeft s)) :
    exec .entryToSafe s = .next s := by
  rw [← holdupDone_iff] at h
  simp only [exec, execEntryToSafe, if_neg h]

theorem safeAsserted_iff (s : State) : s.safeAsserted = true ↔ s.run.runState = .safe := beq_iff_eq

/-- The sweep at the return to RUN, by its state (R92). -/
theorem resumeSweep_eq (s : State) :
    s.resumeSweep = { s with
      timer :=
        if s.timer.sweep = .paused then { s.timer with sweep := .running }
        else if s.timer.sweep = .idle ∧ s.timer.owed = true then
          { s.timer with sweep := .running, cursor := 0, owed := false }
        else s.timer } := by
  cases sweep : s.timer.sweep with
  | paused => simp only [State.resumeSweep, sweep, if_true]
  | running => simp [State.resumeSweep, sweep]
  | idle => cases owed : s.timer.owed <;> simp [State.resumeSweep, sweep, owed, State.startSweep]

theorem exec_returnToRun {s : State} (h : s.run.runState = .holdup ∨ s.run.runState = .safe) :
    exec .returnToRun s =
      .next (State.resumeSweep { s with run := { s.run with runState := .run, pfwAsserted := false } }) := by
  simp only [exec, execReturnToRun, if_pos ((warned_iff s).mpr h)]

theorem exec_returnToRun_recorded {s : State} (h : ¬(s.run.runState = .holdup ∨ s.run.runState = .safe)) :
    exec .returnToRun s = .next { s with run := { s.run with pfwAsserted := false } } := by
  simp only [exec, execReturnToRun, if_neg (mt (warned_iff s).mp h)]

/-- Settles O8: SAFE is entered exactly from HOLDUP with nothing left, and the sweep at the return to RUN goes by its state. -/
theorem safeEntryAndReturnToRun : Obligations.SafeEntryAndReturnToRun := by
  refine ⟨fun s holdup clean phase op request charges sweep port executing =>
      exec_entryToSafe_entered holdup ⟨clean, phase, op, request, charges, sweep, port, executing⟩,
    fun s fails => exec_entryToSafe_stays ?_, safeAsserted_iff, fun s warned => ?_,
    fun s notHoldup notSafe => exec_returnToRun_recorded (not_or.mpr ⟨notHoldup, notSafe⟩)⟩
  · rintro ⟨holdup, ⟨clean, phase, op, request, charges, sweep, port, executing⟩⟩
    simp [holdup, clean, phase, op, request, charges, sweep, port, executing] at fails
  · rw [exec_returnToRun warned, resumeSweep_eq]

/-! ### Entry to HOLDUP (R109, R152, R176, R193, R194) -/

theorem exec_entryToHoldup_recorded {s : State} (h : s.run.runState ≠ .run) (conditionFirst : Bool) :
    exec (.entryToHoldup conditionFirst) s = .next { s with run := { s.run with pfwAsserted := true } } := by
  simp only [exec, execEntryToHoldup, if_neg h]

/-- The Top-up Port at entry to HOLDUP: a write in progress is abandoned (R152; log entry 30). -/
def abandonedPort (port : TopUpPort) : TopUpPort :=
  if port.state = .addressedWrite ∨ port.state = .receive ∨ port.state = .discard then
    { port with state := .idle, receive := [], awaitsAddress := false, acked := false }
  else port

theorem abandonWrite_eq (s : State) : s.abandonWrite = { s with port := abandonedPort s.port } := by
  cases state : s.port.state <;> simp [State.abandonWrite, abandonedPort, state]

/-- The state at entry to HOLDUP, the Command Processor left out: HOLDUP with POWER ready and every dirty page urgent, and a
write in progress abandoned. -/
def holdupBlocks (s : State) : State := { inHoldup s with port := abandonedPort s.port }

theorem enterHoldupBlocks_eq (s : State) : s.enterHoldupBlocks = holdupBlocks s := abandonWrite_eq (inHoldup s)

/-- Whatever is taken first, and whatever executes, entry to HOLDUP does the same to every other block (R194). -/
theorem enterHoldup_otherBlocks (s : State) (conditionFirst : Bool) :
    ∃ proc, s.enterHoldup conditionFirst = { holdupBlocks s with proc } := by
  obtain ⟨started, settled⟩ := settleHandedWait_blocks s
  unfold State.enterHoldup
  simp only [enterHoldupBlocks_eq, settled]
  cases conditionFirst with
  | true =>
    obtain ⟨tested, retested⟩ := retestWait_blocks (holdupBlocks { s with proc := started })
    obtain ⟨ended, broken⟩ := breakWait_blocks (State.retestWait (holdupBlocks { s with proc := started })) .holdup
    rw [if_pos rfl, broken, retested]
    exact ⟨ended, rfl⟩
  | false =>
    obtain ⟨ended, broken⟩ := breakWait_blocks { s with proc := started } .holdup
    rw [if_neg Bool.false_ne_true, broken]
    exact ⟨ended, rfl⟩

theorem breakWait_waiting {s : State} {cmd : QueuedCommand} {w : WaitState} (status : ResultStatus)
    (h : s.proc.executing = some { cmd, phase := .waiting w }) : s.breakWait status = waitEnded s cmd w status := by
  simp only [State.breakWait, h, endWait_eq]

theorem breakWait_of_notWaiting {s : State} (status : ResultStatus) (h : NotWaiting s) : s.breakWait status = s := by
  unfold State.breakWait
  split
  · rename_i cmd w hx
    exact absurd hx (h cmd w)
  · rfl

section Waiting

variable {s : State} {cmd : QueuedCommand} {w : WaitState} (hx : s.proc.executing = some { cmd, phase := .waiting w })
include hx

theorem settleHandedWait_waiting : s.settleHandedWait = s :=
  settleHandedWait_other fun _ handed => nomatch hx.symm.trans handed.1

/-- The conditions are taken first, as the entry leaves them, and all chosen ones hold: the WAIT is DONE (R108). -/
theorem enterHoldup_done (met : w.conditions &&& (holdupBlocks s).conditionsHeld = w.conditions) :
    s.enterHoldup true = waitEnded (holdupBlocks s) cmd w .done := by
  have waiting : (holdupBlocks s).proc.executing = some { cmd, phase := .waiting w } := hx
  have ended : NotWaiting (waitEnded (holdupBlocks s) cmd w .done) := fun _ _ waits => nomatch waits
  unfold State.enterHoldup
  rw [settleHandedWait_waiting hx, if_pos rfl, enterHoldupBlocks_eq, retestWait_waiting waiting, if_pos met,
    breakWait_of_notWaiting .holdup ended]

/-- The conditions are taken first and one chosen fails: the WAIT ends with HOLDUP (R109). -/
theorem enterHoldup_unmet (unmet : ¬w.conditions &&& (holdupBlocks s).conditionsHeld = w.conditions) :
    s.enterHoldup true = waitEnded (holdupBlocks s) cmd w .holdup := by
  have waiting : (holdupBlocks s).proc.executing = some { cmd, phase := .waiting w } := hx
  unfold State.enterHoldup
  rw [settleHandedWait_waiting hx, if_pos rfl, enterHoldupBlocks_eq, retestWait_waiting waiting, if_neg unmet,
    breakWait_waiting .holdup waiting]

/-- The entry is taken first: the WAIT ends with HOLDUP, with the conditions that held before it (R109). -/
theorem enterHoldup_broken : s.enterHoldup false = holdupBlocks (waitEnded s cmd w .holdup) := by
  unfold State.enterHoldup
  rw [settleHandedWait_waiting hx, if_neg Bool.false_ne_true, breakWait_waiting .holdup hx, enterHoldupBlocks_eq]

end Waiting

/-- No WAIT waits and none has been handed over: the Command Processor goes on (R194). -/
theorem enterHoldup_goesOn {s : State} (settled : s.settleHandedWait = s) (waits : NotWaiting s) (conditionFirst : Bool) :
    s.enterHoldup conditionFirst = holdupBlocks s := by
  have still : NotWaiting (holdupBlocks s) := waits
  simp only [State.enterHoldup, settled, breakWait_of_notWaiting .holdup waits, enterHoldupBlocks_eq,
    retestWait_of_notWaiting still, breakWait_of_notWaiting .holdup still, ite_self]

/-- PFW_N is asserted (R193). -/
def powerWarned (s : State) : State := { s with run := { s.run with pfwAsserted := true } }

/-- What the assertion of PFW_N in RUN does to every block but the Command Processor (R152, R176, R193, R194). -/
structure HoldupEntered (s t : State) : Prop where
  runState : t.run.runState = .holdup
  pfwAsserted : t.run.pfwAsserted = true
  notice : t.notice = { s.notice with power := true }
  points : t.points = s.points
  engine : t.engine = s.engine
  timer : t.timer = s.timer
  nv : t.nv = s.nv
  commit : t.commit = s.makeAllUrgent.commit
  port : t.port = abandonedPort s.port
  blocks : { t with proc := s.proc } = holdupBlocks (powerWarned s)

theorem enterHoldup_entered (s : State) (conditionFirst : Bool) :
    HoldupEntered s ((powerWarned s).enterHoldup conditionFirst) := by
  obtain ⟨proc, entered⟩ := enterHoldup_otherBlocks (powerWarned s) conditionFirst
  rw [entered]
  exact ⟨rfl, rfl, rfl, rfl, rfl, rfl, rfl, rfl, rfl, rfl⟩

/-- Settles O7: every block but the Command Processor is as the entry leaves it, whatever executes; the processor goes by
what executes, and by what is taken first. -/
theorem holdupEntryActsOnEachBlock : Obligations.HoldupEntryActsOnEachBlock := by
  refine ⟨fun s conditionFirst notRun => exec_entryToHoldup_recorded notRun conditionFirst, fun s conditionFirst run => ?_⟩
  obtain ⟨runState, pfwAsserted, notice, points, engine, timer, nv, commit, port, blocks⟩ :=
    enterHoldup_entered s conditionFirst
  refine ⟨(powerWarned s).enterHoldup conditionFirst, exec_entryToHoldup run conditionFirst, runState, pfwAsserted, notice,
    points, engine, timer, nv, ?_, fun page => ?_, ?_, port, fun cmd w hx => ?_, fun idle => ?_,
    fun cmd phase hx other waits => ?_⟩
  · rw [CommitFrame, commit]
    rfl
  · rw [commit, makeAllUrgent_dirty]
  · rw [commit, makeAllUrgent_eligible]
  · have waiting : (powerWarned s).proc.executing = some { cmd, phase := .waiting w } := hx
    rw [blocks]
    refine ⟨fun first met => ?_, fun first unmet => ?_, fun last => ?_⟩
    · rw [first, enterHoldup_done waiting met]
    · rw [first, enterHoldup_unmet waiting unmet]
    · rw [last, enterHoldup_broken waiting]
      rfl
  · have settled : (powerWarned s).settleHandedWait = powerWarned s :=
      settleHandedWait_other fun _ handed => nomatch idle.symm.trans handed.1
    rw [enterHoldup_goesOn settled fun _ _ waits => nomatch idle.symm.trans waits]
    rfl
  · have settled : (powerWarned s).settleHandedWait = powerWarned s :=
      settleHandedWait_other fun c handed => by
        cases hx.symm.trans handed.1
        exact other handed.2
    rw [enterHoldup_goesOn settled fun c w executing => ?_]
    · rfl
    · cases hx.symm.trans executing
      exact waits w rfl

end Sys2Proof.Machine.Proofs

namespace Sys2Proof.Machine.Proofs

open Sys2Proof Sys2Proof.Machine Sys2Proof.Machine.Laws

/-! ### The command that the bits of a transaction spell (R200) -/

/-- The bits of a field as SDI carries them, most significant first. -/
def sdiBits {w : Nat} (x : BitVec w) : List Bool := List.ofFn fun i : Fin w => x.getMsbD i.val

@[simp] theorem length_sdiBits {w : Nat} (x : BitVec w) : (sdiBits x).length = w := List.length_ofFn

/-- The first n bits of a word are the number above its other bits. -/
theorem bitsValue_leading {w : Nat} (x : BitVec w) (n : Nat) (h : n ≤ w) :
    bitsValue (List.ofFn fun i : Fin n => x.getMsbD i.val) = x.toNat / 2 ^ (w - n) := by
  induction n with
  | zero => simp [bitsValue, Nat.div_eq_of_lt x.isLt]
  | succ n ih =>
    have bit : (x.getMsbD n).toNat = x.toNat / 2 ^ (w - (n + 1)) % 2 := by
      have place : w - 1 - n = w - (n + 1) := by omega
      rw [BitVec.getMsbD, decide_eq_true (by omega : n < w), Bool.true_and, BitVec.getLsbD, place, Nat.toNat_testBit]
    have above : x.toNat / 2 ^ (w - n) = x.toNat / 2 ^ (w - (n + 1)) / 2 := by
      rw [Nat.div_div_eq_div_mul, ← Nat.pow_succ, show (w - (n + 1)).succ = w - n by omega]
    rw [List.ofFn_succ_last, bitsValue, List.foldl_append, ← bitsValue]
    change 2 * bitsValue (List.ofFn fun i : Fin n => x.getMsbD i.val) + (x.getMsbD n).toNat = _
    rw [ih (by omega), bit, above]
    omega

theorem bitsValue_sdiBits {w : Nat} (x : BitVec w) : bitsValue (sdiBits x) = x.toNat := by
  rw [sdiBits, bitsValue_leading x w le_rfl, Nat.sub_self, Nat.pow_zero, Nat.div_one]

theorem ofNat_bitsValue {w : Nat} (x : BitVec w) : BitVec.ofNat w (bitsValue (sdiBits x)) = x := by
  rw [bitsValue_sdiBits, BitVec.ofNat_toNat, BitVec.setWidth_eq]

/-- After how many bits a transaction acts: the command byte of a read, all forty bits of a write. -/
def frameBits (sdi : List Bool) : Nat := if sdi.head? = some true then 8 else 40

theorem frameBits_range (sdi : List Bool) : 8 ≤ frameBits sdi ∧ frameBits sdi ≤ 40 := by
  unfold frameBits
  split <;> decide

theorem frameBits_append {sdi : List Bool} (h : sdi ≠ []) (later : List Bool) :
    frameBits (sdi ++ later) = frameBits sdi := by
  rw [frameBits, List.head?_append_of_ne_nil _ h, frameBits]

/-- A transaction cut short is no access. -/
theorem spiCommand_incomplete {sdi : List Bool} (h : sdi.length < frameBits sdi) : spiCommand sdi = none := by
  unfold frameBits at h
  unfold spiCommand
  split at h
  case isTrue read => exact if_pos h
  case isFalse write =>
    dsimp only
    rw [if_neg write, if_pos h, ite_self]

/-- The offset in the command byte, and the value in the four data bytes. -/
def sdiOffset (sdi : List Bool) : BitVec 7 := BitVec.ofNat 7 (bitsValue ((sdi.drop 1).take 7))

def sdiValue (sdi : List Bool) : Word := BitVec.ofNat 32 (bitsValue ((sdi.drop 8).take 32))

theorem spiCommand_of_frame {sdi : List Bool} (h : frameBits sdi ≤ sdi.length) :
    spiCommand sdi = some (if sdi.head? = some true then readCommand (sdiOffset sdi)
      else writeCommand (sdiOffset sdi) (sdiValue sdi)) := by
  have command : ¬sdi.length < 8 := Nat.not_lt.mpr ((frameBits_range sdi).1.trans h)
  unfold frameBits at h
  unfold spiCommand
  dsimp only
  rw [if_neg command]
  split at h
  case isTrue read => rw [if_pos read, if_pos read, sdiOffset]
  case isFalse write => rw [if_neg write, if_neg write, if_neg (Nat.not_lt.mpr h), sdiOffset, sdiValue]

/-- Bits after those at which a transaction acts are ignored. -/
theorem spiCommand_complete {sdi : List Bool} (h : frameBits sdi ≤ sdi.length) (later : List Bool) :
    spiCommand (sdi ++ later) = spiCommand sdi := by
  have command : 8 ≤ sdi.length := (frameBits_range sdi).1.trans h
  have nonempty : sdi ≠ [] := List.ne_nil_of_length_pos (by omega)
  have whole : frameBits (sdi ++ later) ≤ (sdi ++ later).length := by
    rw [frameBits_append nonempty, List.length_append]
    omega
  have offset : sdiOffset (sdi ++ later) = sdiOffset sdi := by
    rw [sdiOffset, List.drop_append_of_le_length (by omega),
      List.take_append_of_le_length (by rw [List.length_drop]; omega), sdiOffset]
  rw [spiCommand_of_frame h, spiCommand_of_frame whole, List.head?_append_of_ne_nil _ nonempty, offset]
  split
  case isTrue => rfl
  case isFalse write =>
    rw [frameBits, if_neg write] at h
    rw [sdiValue, List.drop_append_of_le_length (by omega),
      List.take_append_of_le_length (by rw [List.length_drop]; omega), sdiValue]

theorem spiCommand_read (offset : BitVec 7) (later : List Bool) :
    spiCommand (true :: sdiBits offset ++ later) = some (readCommand offset) := by
  have frame : frameBits (true :: sdiBits offset) ≤ (true :: sdiBits offset).length := by
    simp [frameBits]
  have bits : sdiOffset (true :: sdiBits offset) = offset := by
    rw [sdiOffset, List.drop_one, List.tail_cons, List.take_of_length_le (by simp), ofNat_bitsValue]
  rw [spiCommand_complete frame, spiCommand_of_frame frame, bits]
  rfl

theorem spiCommand_write (offset : BitVec 7) (value : Word) (later : List Bool) :
    spiCommand (false :: sdiBits offset ++ sdiBits value ++ later) = some (writeCommand offset value) := by
  have frame : frameBits (false :: sdiBits offset ++ sdiBits value) ≤
      (false :: sdiBits offset ++ sdiBits value).length := by
    simp [frameBits]
  have offsetBits : sdiOffset (false :: sdiBits offset ++ sdiBits value) = offset := by
    rw [sdiOffset, List.cons_append, List.drop_one, List.tail_cons, List.take_left' (length_sdiBits offset),
      ofNat_bitsValue]
  have valueBits : sdiValue (false :: sdiBits offset ++ sdiBits value) = value := by
    rw [sdiValue, List.drop_left' (by simp), List.take_of_length_le (by simp), ofNat_bitsValue]
  rw [spiCommand_complete frame, spiCommand_of_frame frame, offsetBits, valueBits]
  rfl

theorem spiCommand_cut (offset : BitVec 7) {later : List Bool} (h : later.length < 32) :
    spiCommand (false :: sdiBits offset ++ later) = none :=
  spiCommand_incomplete (by
    change _ < 40
    rw [List.length_append, List.length_cons, length_sdiBits]
    omega)

/-! ### The command is the access (R95, R200, R201) -/

theorem pointAt_some {n : Nat} {p : Fin 16} (h : pointAt n = some p) : 0x30 ≤ n ∧ n < 0x40 := by
  by_contra outside
  rw [pointAt_eq_none (by omega)] at h
  cases h

theorem pointAt_none {n : Nat} (h : pointAt n = none) : n < 0x30 ∨ 0x40 ≤ n := by
  by_contra inside
  rw [pointAt, dif_pos (by omega)] at h
  cases h

theorem writeRegister_point {s : State} {n : Nat} {p : Fin 16} (h : pointAt n = some p) (value : Word) :
    s.writeRegister n value = s.writePointFlags p value := by
  obtain ⟨low, high⟩ := pointAt_some h
  unfold State.writeRegister
  rw [stageAt_eq_none (by omega), h]

/-- A write of its own row does what a write of its offset does; a write of CONTROL with neither bit is one. -/
theorem exec_writeCommand (offset : BitVec 7) (value : Word) (s : State) :
    exec (writeCommand offset value) s = exec (.registerWrite offset value) s := by
  have access : exec (.registerWrite offset value) s =
      .next (if s.served then s.writeRegister offset.toNat value else s) := rfl
  unfold writeCommand
  split
  case h_1 p point =>
    rw [access, writeRegister_point point]
    rfl
  case h_2 =>
    split
    case h_1 control =>
      rw [access, control]
      split
      · rfl
      · split
        · rfl
        · rw [← control, ← access]
    case h_9 => rfl
    all_goals
      rename_i place
      rw [access, place]
      rfl

theorem exec_readCommand (offset : BitVec 7) (s : State) :
    exec (readCommand offset) s = exec (.unassignedRead offset) s := by
  unfold readCommand
  split
  case isTrue take =>
    subst take
    rfl
  case isFalse => rfl

/-- The command of a write comes under its own row, but for a CONTROL write that sets neither bit. -/
theorem writeCommand_wellFormed (offset : BitVec 7) (value : Word) :
    (writeCommand offset value).wellFormed = (offset.toNat != 0x02 || value.getLsbD 0 || value.getLsbD 1) := by
  unfold writeCommand
  split
  case h_1 p point =>
    obtain ⟨low, -⟩ := pointAt_some point
    have other : (offset.toNat != 0x02) = true := bne_iff_ne.mpr (by omega)
    rw [other]
    rfl
  case h_2 point =>
    split
    case h_1 control =>
      cases reset : value.getLsbD 1 <;> cases purge : value.getLsbD 0 <;>
        simp only [Bool.false_eq_true, if_true, if_false, Instr.wellFormed, ownWriteRow, reset, purge, control] <;> rfl
    case h_9 =>
      have beyond := pointAt_none point
      have shared : ownWriteRow offset = false := by
        rw [← Bool.not_eq_true]
        intro own
        simp only [ownWriteRow, Bool.or_eq_true, decide_eq_true_eq, Bool.and_eq_true, List.mem_cons, List.not_mem_nil,
          or_false] at own
        grind
      have other : (offset.toNat != 0x02) = true := bne_iff_ne.mpr ‹offset.toNat ≠ 0x02›
      rw [Instr.wellFormed, shared, other]
      rfl
    all_goals
      rename_i place
      rw [place]
      rfl

/-! ### A transaction edge by edge (R200) -/

/-- The transaction after a row of pulses: bits after the fortieth are not sampled, and SDO stays at the place behind them. -/
def sampledTransaction (sdi : List Bool) : SpiTransaction := { sampled := sdi.take 40, place := (sdi.take 40).length }

theorem acts_eq (t : SpiTransaction) (bit : Bool) :
    t.acts bit =
      if (t.sampled ++ [bit]).length = frameBits (t.sampled ++ [bit]) then spiCommand (t.sampled ++ [bit]) else none := by
  obtain ⟨first, head⟩ : ∃ first, (t.sampled ++ [bit]).head? = some first := by
    cases t.sampled <;> exact ⟨_, rfl⟩
  simp only [SpiTransaction.acts, frameBits, head]
  cases first <;> simp

theorem sampledTransaction_sample (sdi : List Bool) (bit : Bool) :
    { (sampledTransaction sdi).sample bit with place := ((sampledTransaction sdi).sample bit).sampled.length } =
      sampledTransaction (sdi ++ [bit]) := by
  rcases Nat.lt_or_ge sdi.length 40 with inside | full
  · have room : (sampledTransaction sdi).sampled.length < 40 := by simpa [sampledTransaction] using inside
    have all : (sdi ++ [bit]).take 40 = sdi.take 40 ++ [bit] := by
      rw [List.take_of_length_le inside.le, List.take_of_length_le (by simpa using inside)]
    rw [SpiTransaction.sample, if_pos room]
    simp only [sampledTransaction, all]
  · have none : ¬(sampledTransaction sdi).sampled.length < 40 := by simpa [sampledTransaction] using full
    rw [SpiTransaction.sample, if_neg none]
    simp only [sampledTransaction, List.take_append_of_le_length full]

/-- A bit makes a transaction act exactly when the bits with it spell a command and those before it did not. -/
theorem sampledTransaction_acts (sdi : List Bool) (bit : Bool) :
    (spiCommand sdi).toList ++ ((sampledTransaction sdi).acts bit).toList = (spiCommand (sdi ++ [bit])).toList := by
  obtain ⟨low, high⟩ := frameBits_range sdi
  rw [acts_eq]
  rcases Nat.lt_or_ge sdi.length (frameBits sdi) with before | complete
  · have all : (sampledTransaction sdi).sampled = sdi := List.take_of_length_le (by omega)
    rw [spiCommand_incomplete before, all]
    split
    case isTrue => rfl
    case isFalse early =>
      have incomplete : (sdi ++ [bit]).length < frameBits (sdi ++ [bit]) := by
        rcases eq_or_ne sdi [] with rfl | nonempty
        · exact lt_of_lt_of_le (show 1 < 8 by decide) (frameBits_range _).1
        · rw [frameBits_append nonempty, List.length_append, List.length_singleton] at early ⊢
          omega
      rw [spiCommand_incomplete incomplete]
      rfl
  · have nonempty : (sampledTransaction sdi).sampled ≠ [] :=
      List.ne_nil_of_length_pos (by rw [sampledTransaction, List.length_take]; omega)
    have frame : frameBits ((sampledTransaction sdi).sampled ++ [bit]) = frameBits sdi := by
      rw [frameBits_append nonempty, ← frameBits_append nonempty (sdi.drop 40), sampledTransaction, List.take_append_drop]
    have past : ((sampledTransaction sdi).sampled ++ [bit]).length ≠ frameBits sdi := by
      rw [List.length_append, List.length_singleton, sampledTransaction, List.length_take]
      omega
    rw [frame, if_neg past, spiCommand_complete complete]
    exact List.append_nil _

/-- A transaction goes on with a row of pulses: its bits are sampled, and the queue holds the command that they spell together
with those before them. -/
theorem spiClock_transaction {s : State} (hs : s.served = true) {before : List Bool}
    (h : s.spi.transaction = some (sampledTransaction before)) (sdi : List Bool) :
    ∃ acted, (spiCommand before).toList ++ acted = (spiCommand (before ++ sdi)).toList ∧
      s.spiClock sdi =
        { s with
          spi := { s.spi with transaction := some (sampledTransaction (before ++ sdi)) }
          pending := s.pending ++ acted } := by
  induction sdi generalizing s before with
  | nil =>
    refine ⟨[], by simp, ?_⟩
    rw [List.append_nil, List.append_nil, ← h]
    rfl
  | cons bit rest ih =>
    have pulse := spiClock_pulse s _ bit hs h
    rw [sampledTransaction_sample] at pulse
    have goesOn : (s.spiClock [bit]).spi.transaction = some (sampledTransaction (before ++ [bit])) := by rw [pulse]
    have served : (s.spiClock [bit]).served = true := by
      rw [pulse]
      exact hs
    obtain ⟨acted, command, clocked⟩ := ih served goesOn
    rw [List.append_assoc, List.singleton_append] at command clocked
    refine ⟨((sampledTransaction before).acts bit).toList ++ acted, ?_, ?_⟩
    · rw [← List.append_assoc, sampledTransaction_acts, command]
    · have row : s.spiClock (bit :: rest) = (s.spiClock [bit]).spiClock rest := rfl
      rw [row, clocked, pulse]
      simp only [List.append_assoc]

/-- The port after CS_N has fallen and a row of pulses (R200). -/
theorem spiClock_selected {s : State} (hs : s.run.runState ≠ .reset) (sdi : List Bool) :
    (s.spiEdge .select).spiClock sdi =
      { s with
        spi := { selected := true, transaction := some (sampledTransaction sdi) }
        pending := s.pending ++ (spiCommand sdi).toList } := by
  have select : s.spiEdge .select = { s with spi := { selected := true, transaction := some (sampledTransaction []) } } := by
    simp only [State.spiEdge, served_of_run hs]
    rfl
  have served : (s.spiEdge .select).served = true := by
    rw [select]
    exact served_of_run hs
  obtain ⟨acted, command, clocked⟩ := spiClock_transaction served (before := []) (by rw [select]) sdi
  rw [List.nil_append] at command clocked
  have none : spiCommand [] = none := rfl
  rw [none, Option.toList_none, List.nil_append] at command
  rw [clocked, command, select]

/-! ### SDO (R190, R200; log entry 35) -/

theorem sdo_transaction {s : State} (hs : s.served = true) (selected : s.spi.selected = true) {t : SpiTransaction}
    (h : s.spi.transaction = some t) :
    s.sdo = .driven (spiSdo s.readData (t.sampled.head? == some true) t.place) := by
  rw [State.sdo, hs, selected, h]
  rfl

theorem sdo_outside {s : State} (hs : s.run.runState ≠ .reset) (selected : s.spi.selected = true)
    (h : s.spi.transaction = none) : s.sdo = .driven (Config.sdoOutsideTransaction s.freeCount) := by
  rw [State.sdo, served_of_run hs, selected, h]
  rfl

/-- No data bit stands at a place of the command byte, nor in a write. -/
theorem spiSdo_low (w : Word) (isRead : Bool) (n : Nat) (h : n < 8 ∨ isRead = false) : spiSdo w isRead n = false := by
  rcases h with command | write
  · simp [spiSdo, Nat.not_le.mpr command]
  · simp [spiSdo, write]

/-- The data bits of a read: the word's, most significant first, then 0. -/
theorem spiSdo_data (w : Word) (k : Nat) : spiSdo w true (min (8 + k) 40) = (decide (k < 32) && w.getMsbD k) := by
  rcases Nat.lt_or_ge k 32 with data | past
  · rw [Nat.min_eq_left (by omega)]
    simp [spiSdo, data, show 8 + k < 40 by omega]
  · rw [Nat.min_eq_right (by omega)]
    simp [spiSdo, Nat.not_lt.mpr past]

/-- SDO sends 0 through the command byte, and in a write however many bits come. -/
theorem sdo_selected_low {s : State} (hs : s.run.runState ≠ .reset) {sdi : List Bool}
    (h : sdi.length < 8 ∨ sdi.head? ≠ some true) : ((s.spiEdge .select).spiClock sdi).sdo = .driven false := by
  have clocked := spiClock_selected hs sdi
  have served : ((s.spiEdge .select).spiClock sdi).served = true := by
    rw [clocked]
    exact served_of_run hs
  rw [sdo_transaction served (by rw [clocked]) (congrArg (fun t => t.spi.transaction) clocked), spiSdo_low]
  rcases h with command | write
  · exact .inl (by simp [sampledTransaction, command])
  · exact .inr (by simpa [sampledTransaction, List.head?_take] using write)

theorem readEffect_blocks (s : State) (offset : BitVec 7) : ∃ notice, s.readEffect offset = { s with notice } := by
  unfold State.readEffect State.pushTaken
  split
  · split <;> exact ⟨_, rfl⟩
  · split <;> exact ⟨_, rfl⟩

/-- NOTICE_TAKE among the registers: its value is the rank found. -/
theorem registerValue_take (s : State) (offset : BitVec 7) :
    (if offset = 0x19 then BitVec.ofNat 32 s.takenRank else s.registerValue offset.toNat) =
      s.registerValue offset.toNat := by
  split
  case isTrue take =>
    subst take
    rfl
  case isFalse => rfl

/-- The state in which the command of a read is taken, with no other in the queue: its command byte is in. -/
def readDue (s : State) (offset : BitVec 7) : State :=
  { s with spi := { selected := true, transaction := some (sampledTransaction (true :: sdiBits offset)) }, pending := [] }

/-- The command of a read, taken after its command byte, takes the register's value (R200). -/
theorem step_read {s : State} (hs : s.run.runState ≠ .reset) (empty : s.pending = []) (offset : BitVec 7) :
    ∃ t, step ((s.spiEdge .select).spiClock (true :: sdiBits offset)) = .next t ∧ t.served = true ∧
      t.spi = { selected := true, transaction := some (sampledTransaction (true :: sdiBits offset)) } ∧
      t.readData = s.registerValue offset.toNat := by
  have spelled : spiCommand (true :: sdiBits offset) = some (readCommand offset) := by
    simpa using spiCommand_read offset []
  have stepped : step ((s.spiEdge .select).spiClock (true :: sdiBits offset)) =
      exec (readCommand offset) (readDue s offset) := by
    rw [spiClock_selected hs, spelled, empty]
    rfl
  have run : (readDue s offset).run.runState ≠ .reset := hs
  obtain ⟨notice, effect⟩ := readEffect_blocks (readDue s offset) offset
  refine ⟨{ readDue s offset with notice, readData := s.registerValue offset.toNat }, ?_, served_of_run hs, rfl, rfl⟩
  rw [stepped, exec_readCommand, exec_unassignedRead run, State.readRegister, effect]
  rfl

/-- After the command byte of a read, SDO sends the word that the read took, and 0 after its 32 bits. -/
theorem sdo_readData {t : State} (hs : t.served = true) {offset : BitVec 7}
    (spi : t.spi = { selected := true, transaction := some (sampledTransaction (true :: sdiBits offset)) })
    (later : List Bool) :
    (t.spiClock later).sdo = .driven (decide (later.length < 32) && t.readData.getMsbD later.length) := by
  obtain ⟨acted, -, clocked⟩ := spiClock_transaction hs (by rw [spi]) later
  have served : (t.spiClock later).served = true := by
    rw [clocked]
    exact hs
  have place : (sampledTransaction (true :: sdiBits offset ++ later)).place = min (8 + later.length) 40 := by
    rw [sampledTransaction, List.length_take, List.length_append, List.length_cons, length_sdiBits, Nat.min_comm]
  rw [sdo_transaction served (by rw [clocked, spi]) (congrArg (fun u => u.spi.transaction) clocked), place, ← spiSdo_data,
    clocked]
  rfl

/-! ### The port in RESET (R189, R190; log entry 31) -/

/-- In RESET a register access changes nothing. -/
theorem unserved {s : State} (h : s.run.runState = .reset) (u : State) :
    Host.Outcome.next (if s.served then u else s) = (.next s : Host.Outcome State Fault Refusal) := by
  rw [served_reset h]
  rfl

theorem registerAccess_reset {s : State} (h : s.run.runState = .reset) (p : Fin 16) (offset : BitVec 7) (value : Word) :
    ∀ c ∈ [Instr.submit value, .pop value, .purge value, .portReset value, .noticeReadyWrite value,
      .noticeEnableWrite value, .noticeModeWrite value, .noticeTake, .noticeDone value, .errorsWrite value,
      .pointFlagsWrite p value, .unassignedRead offset, .registerWrite offset value], exec c s = .next s := by
  simp only [List.forall_mem_cons, List.not_mem_nil, false_imp_iff, implies_true, and_true]
  exact ⟨unserved h _, unserved h _, unserved h _, unserved h _, unserved h _, unserved h _, unserved h _, unserved h _,
    unserved h _, unserved h _, unserved h _, unserved h _, unserved h _⟩

/-- In RESET the port follows the level of CS_N alone. -/
theorem spiEdge_reset {s : State} (h : s.run.runState = .reset) :
    s.spiEdge .select = { s with spi := { selected := true, transaction := none } } ∧
      s.spiEdge .deselect = { s with spi := { selected := false, transaction := none } } ∧
      (∀ sdi, s.spiEdge (.clockRise sdi) = s) ∧ s.spiEdge .clockFall = s := by
  have off := served_reset h
  simp [State.spiEdge, off]

/-- Settles O51: the bits spell the access by their place, the queue and SDO follow the bits sampled, and in RESET nothing is
served. -/
theorem spiTransactionsSpellAccesses : Obligations.SpiTransactionsSpellAccesses := by
  intro offset value later
  refine ⟨spiCommand_write offset value later, spiCommand_read offset later, spiCommand_cut offset,
    writeCommand_wellFormed offset value,
    fun s => ⟨exec_writeCommand offset value s, exec_readCommand offset s⟩,
    fun s hs => ⟨?_, fun n inside low => sdo_selected_low hs ?_, fun empty => ?_⟩,
    fun s idle => ⟨spiClock_of_none s later idle, fun hs selected => sdo_outside hs selected idle⟩,
    fun s off => sdo_undriven off, fun s reset => ?_⟩
  · rw [spiClock_selected hs later]
    rfl
  · rcases low with command | write
    · exact .inl (by rw [List.length_take]; omega)
    · exact .inr fun read => by
        rw [List.head?_take, write] at read
        split at read <;> cases read
  · obtain ⟨t, stepped, served, spi, taken⟩ := step_read hs empty offset
    refine ⟨t, stepped, fun k inside => ?_⟩
    rw [registerValue_take, sdo_readData served spi, taken, List.length_take, Nat.min_eq_left inside]
  · obtain ⟨select, deselect, rise, fall⟩ := spiEdge_reset reset
    exact ⟨select, deselect, rise, fall, fun p => registerAccess_reset reset p offset value⟩

end Sys2Proof.Machine.Proofs

namespace Sys2Proof.Machine.Proofs

open Sys2Proof Sys2Proof.Machine Sys2Proof.Machine.Laws

/-! ### POINTp as it is read (R205) -/

/-- The event flags of a point in the order of bits 28:24, lowest first. -/
def flagList (f : PointFlags) : List Bool := [f.grace, f.cut, f.awaiting, f.locked, f.stray]

theorem flagList_lt (f : PointFlags) : ofFlags (flagList f) < 2 ^ 5 := ofFlags_lt (flagList f)

theorem pointStateCode_lt (state : PointState) : state.code < 8 := by cases state <;> decide

theorem pointWord_eq (r : Point) :
    r.word = BitVec.ofNat 32
      (r.graceRemaining + r.pending * 2 ^ 16 + ofFlags (flagList r.flags) * 2 ^ 24 + r.state.code * 2 ^ 29) := rfl

theorem pointWord_bits {r : Point} (grace : r.graceRemaining ≤ 65535) (pending : r.pending ≤ 255) :
    bits r.word 0 16 = r.graceRemaining ∧ bits r.word 16 8 = r.pending ∧ bits r.word 29 3 = r.state.code := by
  have flags := flagList_lt r.flags
  have state := pointStateCode_lt r.state
  simp only [pointWord_eq, bits_ofNat, Nat.reduceAdd, Nat.reduceLeDiff, Nat.reducePow]
  omega

/-- The five flags stand at bits 28:24, above the two counts and below the state code. -/
theorem pointWord_flags {r : Point} (grace : r.graceRemaining ≤ 65535) (pending : r.pending ≤ 255) (i : Fin 5) :
    r.word.getLsbD (24 + i.val) = (flagList r.flags)[i.val] := by
  have counts : r.graceRemaining + r.pending * 2 ^ 16 < 2 ^ 24 := by omega
  have places :
      r.graceRemaining + r.pending * 2 ^ 16 + ofFlags (flagList r.flags) * 2 ^ 24 + r.state.code * 2 ^ 29 =
        2 ^ 24 * (2 ^ 5 * r.state.code + ofFlags (flagList r.flags)) + (r.graceRemaining + r.pending * 2 ^ 16) := by omega
  rw [pointWord_eq, BitVec.getLsbD_ofNat, decide_eq_true (by omega), Bool.true_and, places,
    Nat.testBit_two_pow_mul_add _ counts, if_neg (by omega), Nat.add_sub_cancel_left,
    Nat.testBit_two_pow_mul_add _ (flagList_lt r.flags), if_pos i.isLt, testBit_ofFlags, List.getD_eq_getElem]

/-- The offset of POINTp, in the seven bits of a register's offset. -/
theorem pointOffset_toNat (p : Fin 16) : (BitVec.ofNat 7 (0x30 + p.val)).toNat = 0x30 + p.val :=
  (BitVec.toNat_ofNat ..).trans (Nat.mod_eq_of_lt (by omega))

theorem pointAt_point (p : Fin 16) : pointAt (0x30 + p.val) = some p := by
  rw [pointAt, dif_pos (by omega)]
  simp

theorem registerValue_point (s : State) (p : Fin 16) : s.registerValue (0x30 + p.val) = (s.point p).word := by
  unfold State.registerValue
  rw [stageAt_eq_none (by omega), pointAt_point]

/-- A read of POINTp takes its word and changes nothing else. -/
theorem exec_readPoint {s : State} (h : s.run.runState ≠ .reset) (p : Fin 16) :
    exec (.unassignedRead (BitVec.ofNat 7 (0x30 + p.val))) s = .next { s with readData := (s.point p).word } := by
  have place := pointOffset_toNat p
  have assigned : unassignedOffset (BitVec.ofNat 7 (0x30 + p.val)) = false := by
    rw [← Bool.not_eq_true, unassignedOffset_iff]
    omega
  have notTake : BitVec.ofNat 7 (0x30 + p.val) ≠ 0x19 := fun take => by
    have offset : 0x30 + p.val = 0x19 := place.symm.trans (congrArg BitVec.toNat take)
    omega
  rw [exec_unassignedRead h, readRegister_assigned assigned notTake, place, registerValue_point]

/-! ### A write to POINTp (R64, R205) -/

theorem exec_pointFlagsWrite {s : State} (h : s.run.runState ≠ .reset) (p : Fin 16) (value : Word) :
    exec (.pointFlagsWrite p value) s = .next (s.writePointFlags p value) := by
  simp only [exec, execPointFlagsWrite, served_of_run h, if_true]

theorem flagList_cleared (f : PointFlags) (value : Word) (i : Fin 5) :
    (flagList (f.cleared value))[i.val] = ((flagList f)[i.val] && !value.getLsbD (24 + i.val)) := by
  fin_cases i <;> rfl

theorem writePointFlags_point (s : State) (p : Fin 16) (value : Word) :
    (s.writePointFlags p value).point p = { s.point p with flags := (s.point p).flags.cleared value } :=
  point_setPoint_same ..

theorem pointFlags_any_of_clear {f : PointFlags} (h : ∀ i : Fin 5, (flagList f)[i.val] = false) : f.any = false := by
  have grace : f.grace = false := h 0
  have cut : f.cut = false := h 1
  have awaiting : f.awaiting = false := h 2
  have locked : f.locked = false := h 3
  have stray : f.stray = false := h 4
  simp only [PointFlags.any, grace, cut, awaiting, locked, stray, Bool.or_false]

/-- POINTp, rank 2 + p, is ready exactly while a flag of the point is set (R154, R156). -/
theorem readyFlags_point (s : State) (p : Fin 16) : s.readyFlags.getLsbD (2 + p.val) = (s.point p).flags.any := by
  have value : s.readyFlags = BitVec.ofNat 23 (ofFlags (readyList s)) := rfl
  rw [value, BitVec.getLsbD_ofNat, testBit_ofFlags, readyList_point, decide_eq_true (by omega), Bool.true_and]

/-- Settles O48: the word's fields by their places, and the write as the flags cleared at one point. -/
theorem pointRegisterShowsAndClears : Obligations.PointRegisterShowsAndClears := by
  refine ⟨rfl, fun s p value running => ⟨fun grace pending => ?_, ?_⟩⟩
  · obtain ⟨graceShown, pendingShown, stateShown⟩ := pointWord_bits grace pending
    exact ⟨_, exec_readPoint running p, graceShown, pendingShown, pointWord_flags grace pending, stateShown⟩
  · have written := writePointFlags_point s p value
    refine ⟨_, exec_pointFlagsWrite running p value, fun i => ?_, ?_, ?_, fun clear => ?_⟩
    · rw [written]
      exact flagList_cleared _ value i
    · rw [written]
    · rw [written]
      rfl
    · rw [readyFlags_point, pointFlags_any_of_clear clear]

end Sys2Proof.Machine.Proofs

namespace Sys2Proof.Machine.Proofs

open Sys2Proof Sys2Proof.Machine

/-! ### The step by its queue (log entry 2) -/

/-- A command at the front of the queue runs on the state with the rest of the queue. -/
theorem step_of_pending_cons {s : State} {c : Instr} {rest : List Instr} (queue : s.pending = c :: rest) :
    step s = exec c { s with pending := rest } := by
  simp only [step, queue]

/-- On an empty queue the block idles. -/
theorem step_of_pending_nil {s : State} (queue : s.pending = []) : step s = .next s := by
  simp only [step, queue]

/-- Settles O1: the two equations of the step, one for each constructor of the queue. -/
theorem stepRunsFrontCommand : Obligations.StepRunsFrontCommand :=
  ⟨fun _ _ _ queue => step_of_pending_cons queue, fun _ queue => step_of_pending_nil queue⟩

end Sys2Proof.Machine.Proofs
